-- ==== Sys2Proof/Word.lean ====
section
/-! DEFINITION. The smallest words of the model: the byte of the consist line, of the image and of the payloads, and the
sixteen-bit fault code. -/

namespace Sys2Proof

/-- One byte of a frame (R166) or of the configuration image (R182). -/
abbrev Byte := BitVec 8

/-- A fault code, 0 to 65535 (R88). -/
abbrev FaultCode := BitVec 16

/-- An aspect instance, 0 to 255 (R67). -/
abbrev InstanceNo := BitVec 8

/-- A frame sequence, 0 to 15, which counts on from 15 to 0 (R166, R172). -/
abbrev Seq := BitVec 4

/-- A moment or a length of time, in microseconds. One bit time of the line is 4 or 8 of them (R165), one millisecond 1000.
DESIGN CHOICE (log 1): the spec names no unit finer than the bit time. -/
abbrev Time := Nat

end Sys2Proof
end

