-- ==== Sys2Proof/Config.lean ====
section
/-! DEFINITION. What holds from the start of the part until its next reset: the straps and the loaded configuration
(chapter 10), as data; and the one value the manual leaves free. -/

namespace Sys2Proof

/-- The levels of the strap pins at the release of reset (R179). -/
structure Straps where
  /-- STN0 to STN4, STN0 least significant: the own station. -/
  station  : BitVec 5
  /-- CABEND high: cab end B. -/
  cabEndB  : Bool
  /-- RATE high: 250 kbit/s, else 125 kbit/s. -/
  rate250  : Bool
  /-- UNIT high: mph, else km/h. -/
  mph      : Bool
  deriving DecidableEq, Repr

/-- The four supervised kinds of frame (R1). -/
inductive SourceKind where
  | speed | aspect | fault | desk
  deriving DecidableEq, Repr

/-- What the loss of an entry raises in the Fault List (R1, R21). -/
inductive ReportMode where
  | fault | warning | silent
  deriving DecidableEq, Repr

/-- How the overspeed level is reported by tone (R43, R59 to R61). -/
inductive ReportingMode where
  | continuous | entryAndReturn | entryOnly
  deriving DecidableEq, Repr

/-- A drive state of a lamp or of a marker segment (scope 3.5). -/
inductive Drive where
  | off | steady | slow | fast
  deriving DecidableEq, Repr

/-- The configured fields of one Source Table entry (R1). The bounds are in milliseconds. -/
structure SourceConfig where
  enabled    : Bool
  station    : Nat
  kind       : SourceKind
  /-- SPEED: slot 0 to 3; ASPECT: 0 PRIMARY, 1 SECONDARY; DESK: peer desk slot 0 to 2; FAULT: no meaning. -/
  roleIndex  : Nat
  lowerMs    : Nat
  upperMs    : Nat
  lossLimit  : Nat
  qualCount  : Nat
  report     : ReportMode
  deriving DecidableEq, Repr

/-- One entry of the aspect catalogue (R66). `lamps` holds the states of LA1 to LA8, LA1 first. -/
structure CatalogueEntry where
  used         : Bool
  rank         : Nat
  lamps        : Vector Drive 8
  defaultSpeed : Option Nat
  deriving DecidableEq, Repr

/-- Period and on-time of one flash generator, in steps of 10 ms (R146, R182). -/
structure FlashConfig where
  period : Nat
  onTime : Nat
  deriving DecidableEq, Repr

/-- The loaded configuration (R182, R183), clamped and checked (R184, R185). -/
structure Configuration where
  graceMs        : Nat
  tolerance      : Nat
  standstill     : Nat
  hysteresis     : Nat
  arcScale       : Nat
  barScale       : Nat
  warnBand       : Nat
  returnHyst     : Nat
  reporting      : ReportingMode
  ackMs          : Nat
  reminderS      : Nat
  claimMs        : Nat
  deskPeriodMs   : Nat
  scrollReturnS  : Nat
  f1             : FlashConfig
  f2             : FlashConfig
  /-- Image bytes 31 and 32: bit 0 the master enable, bit k the pattern of priority k (R158, R182). -/
  toneEnables    : BitVec 16
  entries        : Vector SourceConfig 24
  catalogue      : Vector CatalogueEntry 16
  lossCode       : Fin 16
  deriving DecidableEq, Repr

/-- FREE VALUE (log 7). In an event that both changes records of the Fault List and hands a DESK frame, the manual gives no
order between the two (R127, R187): the frame may read the Fault List Manager before the first record change (0), after it
(1) or after both (2). Applied to the counter `State.freeIndex`; nothing constrains it. -/
opaque Config.deskReading : Nat → Fin 3

/-- FREE VALUE (log 28). A data bit of a byte on the line stands at one of the two levels of the line (R165). The manual does not
say which value stands at the idle level: 1 where this is `true`, 0 where it is `false`. Nothing constrains it. -/
opaque Config.oneAtIdleLevel : Bool

end Sys2Proof
end

