-- ==== Sys2Proof/Syntax.lean ====
section
/-! DEFINITION. The commands the part takes: one constructor per row of spec/opcode_table.json, with the row's operands.

An operand `t` is the moment at which an event from outside the part takes place, in microseconds. The expiry of a timer of
the part has no such operand: it takes place at the end the timer runs to (log 1, log 2). The operand `memory` of LOAD_END is
the bytes that the serial memory gives from word address 0 (R181). An operand `frame` is the bytes
heard on LRXD, header, payload and check (R166). -/

namespace Sys2Proof

/-- The two inputs that hold the part in reset (R179). -/
inductive ResetSource where
  | supok | rstn
  deriving DecidableEq, Repr

/-- How the frame of a FRAME_DISCARD came to its end (R169): all its bytes were heard; a byte's stop bit was not at the idle
level; or the line stayed idle for 11 bit times before all the expected bytes had arrived. -/
inductive FrameEnding where
  | whole | badStopBit | cutShort
  deriving DecidableEq, Repr

/-- The two flash generators (R146): F1 for SLOW, F2 for FAST. -/
inductive Generator where
  | f1 | f2
  deriving DecidableEq, Repr

/-- The two buttons whose release has no effect of its own (R133). -/
inductive PressButton where
  | acknowledge | scroll
  deriving DecidableEq, Repr

/-- A new level at one of the seven input pins of the desk (R132). -/
inductive InputLevel where
  | back (high : Bool)
  | bscrl (high : Bool)
  | btest (high : Bool)
  | keyon (high : Bool)
  | dim0 (high : Bool)
  | dim1 (high : Bool)
  | dim2 (high : Bool)
  deriving DecidableEq, Repr

/-- How much of an acknowledge press takes place in one ACKNOWLEDGE_PRESS (log 27). The DIU's reading and routing of the press
is one event and the receiving block's taking of it another (R137), and a change may be taken between the two (R138):
`routing` is the first alone, `taking` the second alone, `whole` the two in succession. -/
inductive PressPart where
  | whole | routing | taking
  deriving DecidableEq, Repr

/-- What the serial memory acknowledges in the load (R181): the device address for writing, the high and the low byte of the
word address, the device address for reading. -/
structure MemoryAcks where
  writeAddress : Bool
  wordHigh     : Bool
  wordLow      : Bool
  readAddress  : Bool
  deriving DecidableEq, Repr

/-- The commands of the part. -/
inductive Instr where
  | reset (t : Time) (source : ResetSource)
  | resetRelease (t : Time) (straps : Straps)
  | loadEnd (t : Time) (acks : MemoryAcks) (memory : List Byte)
  | lampCheckTimerExpiry
  | arrival (t : Time) (frame : List Byte)
  | acknFrame (t : Time) (frame : List Byte)
  | snapreq (t : Time) (frame : List Byte)
  | stationClash (t : Time) (frame : List Byte)
  | lateTimerExpiry (entry : Fin 24)
  | startupGraceExpiry
  | acknowledgementTimerExpiry
  | overdueRepeatTimerExpiry
  | disagreementTimerExpiry
  | reminderTimerExpiry
  | claimWindowExpiry
  | deskPeriodExpiry
  | scrollReturnExpiry
  | stationClashTimerExpiry
  | flashPhaseEnd (generator : Generator)
  | oneShotEnd
  | inputLevelChange (t : Time) (level : InputLevel)
  | acknowledgePress (part : PressPart := .whole)
  | scrollPress
  | buttonRelease (button : PressButton)
  | testPress
  | testRelease
  | keyChange
  | dimmerChange
  | attemptStart (t : Time)
  | attemptSuccess (t : Time)
  | attemptFailure (t : Time)
  | prunedHeadEnd (t : Time)
  | startBitHeard (t : Time)
  | frameDiscard (t : Time) (frame : List Byte) (ending : FrameEnding)
  | receiverReady (t : Time)
  | frameDropped (t : Time) (frame : List Byte)
  deriving DecidableEq, Repr

end Sys2Proof
end

