-- ==== Sys2Proof/Decode.lean ====
section
/-! DEFINITION. The commands that words spell. No row of spec/opcode_table.json gives bits (its "fields" are empty and the part
has no register window, scope 1.2), so no word spells a command (log 21). -/

namespace Sys2Proof

/-- The command that the word `w` of `nbits` bits spells by the table: none, for every word. -/
def decodeTableWord (_nbits _w : Nat) : Option Instr := none

end Sys2Proof
end

