-- ==== Sys2Proof/Machine/State.lean ====
section
/-! DEFINITION. The state of the part, block by block, as plain data; the reasons a step may stop; and the state right after
the power-on reset. A running timer is the moment it runs to; `none` is a stopped timer. -/

namespace Sys2Proof.Machine

open Sys2Proof

/-! ## Source Supervisor (chapter 1) -/

/-- The five states of a Source Table entry (R4). -/
inductive EntryState where
  | absent | qualifying | valid | suspect | lost
  deriving DecidableEq, Repr

/-- The runtime fields of one Source Table entry (R4). -/
structure Entry where
  state        : EntryState
  lastSeq      : Option Seq
  lastAccepted : Option Time
  violations   : Nat
  progress     : Nat
  lossReported : Bool
  lateAt       : Option Time
  deriving DecidableEq, Repr

structure Ssv where
  entries      : Vector Entry 24
  graceAt      : Option Time
  graceExpired : Bool
  deriving DecidableEq, Repr

/-! ## Speed Fusion Unit (chapter 2) -/

inductive Direction where
  | standstill | forward | reverse | unknown
  deriving DecidableEq, Repr

inductive Quality where
  | good | degraded | invalid
  deriving DecidableEq, Repr

inductive SpeedState where
  | unknown | degraded | good
  deriving DecidableEq, Repr

/-- The held report of a speed slot, after clamping (R26, R27). -/
structure SpeedReport where
  speed     : Nat
  direction : Direction
  quality   : Quality
  deriving DecidableEq, Repr

structure Slot where
  state    : EntryState
  report   : Option SpeedReport
  outliers : Nat
  deriving DecidableEq, Repr

/-- The slots, the fused speed record (R29) and the SFU's own flags. -/
structure Sfu where
  slots         : Vector Slot 4
  fused         : Option Nat
  usable        : Nat
  speedState    : SpeedState
  direction     : Direction
  disagree      : Bool
  disagreements : Nat
  noSpeedRaised : Bool
  graceExpired  : Bool
  deriving DecidableEq, Repr

/-! ## Speed Display and Overspeed Monitor (chapter 3) -/

inductive OverspeedLevel where
  | notSupervised | normal | warn | alarm
  deriving DecidableEq, Repr

/-- The three values the ASU publishes to the SDM (R44, R75). -/
structure Limits where
  permitted : Option Nat
  target    : Option Nat
  distance  : Option Nat
  deriving DecidableEq, Repr

structure Sdm where
  fused           : Option Nat
  limits          : Limits
  displayed       : Option Nat
  lit             : Nat
  permittedMarker : Option Nat
  targetMarker    : Option Nat
  targetReadout   : Option Nat
  bar             : Nat
  level           : OverspeedLevel
  rearm           : Bool
  deriving DecidableEq, Repr

/-! ## Aspect Unit (chapter 4) -/

/-- The held report of an aspect source (R67). A code of `none` is a code out of range. -/
structure AspectReport where
  station : Nat
  inst    : InstanceNo
  code    : Option (Fin 16)
  limits  : Limits
  deriving DecidableEq, Repr

structure SourceView where
  state  : EntryState
  report : Option AspectReport
  deriving DecidableEq, Repr

/-- The displayed aspect record (R73). A code of `none` is NONE. -/
structure ShownAspect where
  code    : Option (Fin 16)
  rank    : Nat
  station : Option Nat
  inst    : Option InstanceNo
  limits  : Limits
  deriving DecidableEq, Repr

/-- The pending acknowledgement record (R76). -/
structure PendingAck where
  station  : Nat
  inst     : InstanceNo
  rank     : Nat
  overdue  : Bool
  openedAt : Time
  deriving DecidableEq, Repr

structure Asu where
  primary        : SourceView
  secondary      : SourceView
  graceExpired   : Bool
  shown          : ShownAspect
  pendingAck     : Option PendingAck
  ackAt          : Option Time
  repeatAt       : Option Time
  disagreeAt     : Option Time
  lossRaised     : Bool
  disagreeRaised : Bool
  deriving DecidableEq, Repr

/-! ## Fault List Manager (chapter 5) -/

inductive FaultClass where
  | stop | action | advisory | note
  deriving DecidableEq, Repr

inductive RecordState where
  | raisedUnack | raisedAck | clearedUnack
  deriving DecidableEq, Repr

/-- One record of the Fault List (R88). -/
structure FaultRecord where
  origin   : Nat
  internal : Bool
  code     : FaultCode
  cls      : FaultClass
  state    : RecordState
  stale    : Bool
  count    : Nat
  stamp    : Nat
  deriving DecidableEq, Repr

structure Flm where
  records    : List FaultRecord
  counter    : Nat
  overflow   : Bool
  reminderAt : Option Time
  deriving DecidableEq, Repr

/-! ## Cab Role Unit (chapter 6) -/

inductive Role where
  | idle | mirror | claiming | active | conflict
  deriving DecidableEq, Repr

/-- What a peer desk view holds of the peer's DESK content: the role code as received and the key state (R115). -/
structure HeldRole where
  roleCode : Byte
  keyOn    : Bool
  deriving DecidableEq, Repr

structure PeerView where
  state : EntryState
  held  : Option HeldRole
  deriving DecidableEq, Repr

structure Cru where
  role               : Role
  keyOn              : Bool
  peers              : Vector PeerView 3
  claimAt            : Option Time
  deskAt             : Option Time
  /-- The end of a DESK period whose expiry came together with a change of role that was taken first, and is still to be taken
  (R124, log 29). -/
  deskDue            : Option Time
  peerConflictRaised : Bool
  deriving DecidableEq, Repr

/-! ## Desk Input Unit (chapter 7) -/

/-- A debounced two-level input: the level now at the pin, the state taken, and the end of the stability interval in
progress (R133, R134). `true` is pressed, or key on. -/
structure Contact where
  level  : Bool
  taken  : Bool
  endsAt : Option Time
  deriving DecidableEq, Repr

/-- The debounced dimmer code (R135). -/
structure DimmerInput where
  level  : BitVec 3
  taken  : BitVec 3
  endsAt : Option Time
  deriving DecidableEq, Repr

/-- The record a selected window position names (R139). -/
structure RecordName where
  origin : Nat
  code   : FaultCode
  deriving DecidableEq, Repr

structure Diu where
  acknowledge : Contact
  scroll      : Contact
  test        : Contact
  key         : Contact
  dimmer      : DimmerInput
  testHeld    : Bool
  /-- `none` is TOP. -/
  window      : Option RecordName
  scrollAt    : Option Time
  deriving DecidableEq, Repr

/-- Where the DIU has routed an acknowledge press (R137): to the ASU, or to the FLM, naming a record. -/
inductive PressRoute where
  | toAsu
  | toFlm (record : RecordName)
  deriving DecidableEq, Repr

/-- A press that the DIU has routed and its receiver has not yet taken (R137, R138), with the moment at which it was routed. -/
structure RoutedPress where
  route : PressRoute
  at0   : Time
  deriving DecidableEq, Repr

/-! ## Indication Driver (chapter 8) -/

/-- The ten tone patterns (R157). -/
inductive Pattern where
  | overdue | aspectRestrict | overspeedAlarm | faultStop | cabConflict
  | overspeedWarn | overspeedClear | faultAction | reminder | startChirp
  deriving DecidableEq, Repr

/-- A running flash generator: its phase and the end of that phase (R146). -/
structure FlashPhase where
  lit    : Bool
  endsAt : Time
  deriving DecidableEq, Repr

/-- The held drive states of the thirteen lamps (R148). -/
structure Lamps where
  aspect    : Vector Drive 8
  stop      : Drive
  action    : Drive
  overspeed : Drive
  cab       : Drive
  source    : Drive
  deriving DecidableEq, Repr

/-- The one-shot member of the request set and the end of its length (R160). -/
structure OneShot where
  pattern : Pattern
  endsAt  : Time
  deriving DecidableEq, Repr

/-- The playing member and the moment its pattern began (R159). -/
structure Playing where
  pattern : Pattern
  since   : Time
  deriving DecidableEq, Repr

/-- The tone arbiter (R157). `asserted` holds the continuous members, highest priority first, none twice. -/
structure Arbiter where
  asserted : List Pattern
  oneShot  : Option OneShot
  playing  : Option Playing
  deriving DecidableEq, Repr

structure Idr where
  f1         : Option FlashPhase
  f2         : Option FlashPhase
  lamps      : Lamps
  brightness : BitVec 3
  arbiter    : Arbiter
  deriving DecidableEq, Repr

/-! ## Line Interface (chapter 9) -/

/-- What a DESK frame carries of the pending acknowledgement record (R125). -/
structure PendingBrief where
  station : Nat
  inst    : InstanceNo
  overdue : Bool
  deriving DecidableEq, Repr

/-- The content of a DESK frame (R125). -/
structure DeskContent where
  role       : Role
  keyOn      : Bool
  cabEndB    : Bool
  displayed  : Option Nat
  speedState : SpeedState
  level      : OverspeedLevel
  code       : Option (Fin 16)
  pendingAck : Option PendingBrief
  top        : Option RecordName
  count      : Nat
  overflow   : Bool
  fallback   : Bool
  deriving DecidableEq, Repr

/-- The content of a SNAPSTATE frame (R190). -/
structure SnapStateContent where
  requester    : Nat
  runTime      : BitVec 32
  role         : Role
  displayed    : Option Nat
  fused        : Option Nat
  speedState   : SpeedState
  level        : OverspeedLevel
  code         : Option (Fin 16)
  pendingOpen  : Bool
  overdue      : Bool
  count        : Nat
  overflow     : Bool
  deriving DecidableEq, Repr

/-- The content of a SNAPFAULTS frame (R190): at most six records in display order. -/
structure SnapFaultsContent where
  requester : Nat
  records   : List FaultRecord
  deriving DecidableEq, Repr

/-- The content of a frame the part sends (R166, R175). -/
inductive TxContent where
  | desk (content : DeskContent)
  | acknAspect (station : Nat) (inst : InstanceNo)
  | acknFault (origin : Nat) (code : FaultCode)
  | overdue (station : Nat) (inst : InstanceNo) (time : Nat)
  | snapState (content : SnapStateContent)
  | snapFaults (content : SnapFaultsContent)
  deriving DecidableEq, Repr

/-- A frame of the transmit queue that is not the head: its content and its time of entry (R175). -/
structure QueuedFrame where
  content : TxContent
  entered : Time
  deriving DecidableEq, Repr

/-- The head frame, with the sequence it took at its first attempt and its attempt count (R172, R173). -/
structure HeadFrame where
  content  : TxContent
  entered  : Time
  seq      : Seq
  attempts : Nat
  deriving DecidableEq, Repr

/-- Whether the part drives the line, and with what: an attempt of the head, or a frame that was pruned while on the line
(R176). -/
inductive LineDrive where
  | released | head | pruned
  deriving DecidableEq, Repr

/-- The two levels of LTXD and LRXD (R165). -/
inductive LineLevel where
  | idle | nonIdle
  deriving DecidableEq, Repr

/-- One sequence counter for each kind the part sends (R172). -/
structure SeqCounters where
  desk       : Seq
  ackn       : Seq
  overdue    : Seq
  snapState  : Seq
  snapFaults : Seq
  deriving DecidableEq, Repr

/-- `drivenAt` is the moment at which the part began to drive the frame `driven`. Where the line is not idle (`idleSince` is
`none`) because of another station, `busyUntil` is the moment before which the line is known not to have fallen idle. -/
structure Lif where
  head             : Option HeadFrame
  waiting          : List QueuedFrame
  drive            : LineDrive
  driven           : List Byte
  drivenAt         : Option Time
  hold             : Option DeskContent
  counters         : SeqCounters
  clashAt          : Option Time
  clashRaised      : Bool
  failedSendRaised : Bool
  queueLossRaised  : Bool
  idleSince        : Option Time
  busyUntil        : Time
  ignoring         : Bool
  deriving DecidableEq, Repr

/-! ## Configuration Loader (chapter 10) -/

inductive StartState where
  | sampling | loading | lampCheck | running | strapFault
  deriving DecidableEq, Repr

structure Cfl where
  start        : StartState
  straps       : Option Straps
  config       : Option Configuration
  fallback     : Bool
  lampCheckAt  : Option Time
  runningSince : Option Time
  busReleased  : Bool
  deriving DecidableEq, Repr

/-! ## Snapshot Unit (chapter 11) -/

/-- The two parts of a snapshot, as asked for or as still outstanding (R189). -/
structure SnapParts where
  state  : Bool
  faults : Bool
  deriving DecidableEq, Repr

structure SnapLatch where
  requester   : Nat
  asked       : SnapParts
  outstanding : SnapParts
  deriving DecidableEq, Repr

structure Snu where
  latch : Option SnapLatch
  deriving DecidableEq, Repr

/-! ## The whole part -/

/-- The state of the part: its eleven blocks, the press on its way between two of them, its reset inputs, the present moment, the
counter of the free value, and the commands that wait. -/
structure State where
  lif        : Lif
  ssv        : Ssv
  sfu        : Sfu
  sdm        : Sdm
  asu        : Asu
  flm        : Flm
  cru        : Cru
  diu        : Diu
  idr        : Idr
  cfl        : Cfl
  snu        : Snu
  routed     : Option RoutedPress
  supokHigh  : Bool
  rstnHigh   : Bool
  now        : Time
  freeIndex  : Nat
  pending    : List Instr
  deriving DecidableEq, Repr

/-- The part has no fault that stops it: what the manual calls faults are records of its Fault List. -/
inductive Fault where
  deriving DecidableEq, Repr

/-- Why a command is refused. -/
inductive Refusal where
  /-- Raised by an arm of `exec` whose command has no meaning yet; safe. No arm raises it now. -/
  | notModelled (mnemonic : String)
  deriving DecidableEq, Repr

/-! ## Reset values -/

/-- R4. -/
def Entry.reset : Entry :=
  { state := .absent, lastSeq := none, lastAccepted := none, violations := 0, progress := 0, lossReported := false,
    lateAt := none }

/-- R4. -/
def Ssv.reset : Ssv := { entries := Vector.replicate 24 Entry.reset, graceAt := none, graceExpired := false }

/-- R41. -/
def Slot.reset : Slot := { state := .absent, report := none, outliers := 0 }

/-- R41. -/
def Sfu.reset : Sfu :=
  { slots := Vector.replicate 4 Slot.reset, fused := none, usable := 0, speedState := .unknown, direction := .unknown,
    disagree := false, disagreements := 0, noSpeedRaised := false, graceExpired := false }

/-- All three values absent. -/
def Limits.absent : Limits := { permitted := none, target := none, distance := none }

/-- R64. -/
def Sdm.reset : Sdm :=
  { fused := none, limits := Limits.absent, displayed := none, lit := 0, permittedMarker := none, targetMarker := none,
    targetReadout := none, bar := 0, level := .notSupervised, rearm := true }

/-- R86. -/
def SourceView.reset : SourceView := { state := .absent, report := none }

/-- NONE, with the values of R71. -/
def ShownAspect.nothing : ShownAspect :=
  { code := none, rank := 0, station := none, inst := none, limits := Limits.absent }

/-- R86. -/
def Asu.reset : Asu :=
  { primary := SourceView.reset, secondary := SourceView.reset, graceExpired := false, shown := ShownAspect.nothing,
    pendingAck := none, ackAt := none, repeatAt := none, disagreeAt := none, lossRaised := false, disagreeRaised := false }

/-- R113. -/
def Flm.reset : Flm := { records := [], counter := 0, overflow := false, reminderAt := none }

/-- R131. -/
def PeerView.reset : PeerView := { state := .absent, held := none }

/-- R131. -/
def Cru.reset : Cru :=
  { role := .idle, keyOn := false, peers := Vector.replicate 3 PeerView.reset, claimAt := none, deskAt := none,
    deskDue := none, peerConflictRaised := false }

/-- R145: released or off, no interval in progress, with `level` at the pin. -/
def Contact.reset (level : Bool) : Contact := { level := level, taken := false, endsAt := none }

/-- R145: level 7, no interval in progress, with the code `level` at the pins. -/
def DimmerInput.reset (level : BitVec 3) : DimmerInput := { level := level, taken := 7, endsAt := none }

/-- R145. The levels at the pins stand outside the part: DESIGN CHOICE (log 9), released, off and code 7. -/
def Diu.reset : Diu :=
  { acknowledge := Contact.reset false, scroll := Contact.reset false, test := Contact.reset false,
    key := Contact.reset false, dimmer := DimmerInput.reset 7, testHeld := false, window := none, scrollAt := none }

/-- R164. -/
def Lamps.reset : Lamps :=
  { aspect := Vector.replicate 8 .off, stop := .off, action := .off, overspeed := .off, cab := .off, source := .fast }

/-- R164: the request set empty, the output silent. -/
def Arbiter.reset : Arbiter := { asserted := [], oneShot := none, playing := none }

/-- R164. -/
def Idr.reset : Idr :=
  { f1 := none, f2 := none, lamps := Lamps.reset, brightness := 7, arbiter := Arbiter.reset }

/-- R178. -/
def SeqCounters.reset : SeqCounters := { desk := 0, ackn := 0, overdue := 0, snapState := 0, snapFaults := 0 }

/-- R178. `idleSince`, `busyUntil` and `ignoring`: DESIGN CHOICE (log 9), an idle line and a ready receiver. -/
def Lif.reset : Lif :=
  { head := none, waiting := [], drive := .released, driven := [], drivenAt := none, hold := none, counters := SeqCounters.reset,
    clashAt := none, clashRaised := false, failedSendRaised := false, queueLossRaised := false, idleSince := some 0,
    busyUntil := 0, ignoring := false }

/-- R188. -/
def Cfl.reset : Cfl :=
  { start := .sampling, straps := none, config := none, fallback := false, lampCheckAt := none, runningSince := none,
    busReleased := true }

/-- R192. -/
def Snu.reset : Snu := { latch := none }

/-- The part in the power-on reset (R188): every block at the reset values of its chapter, no command waiting. The levels
of the reset inputs, the moment and the counter are the model's choice (log 1, log 7, log 9). -/
def State.reset : State :=
  { lif := Lif.reset, ssv := Ssv.reset, sfu := Sfu.reset, sdm := Sdm.reset, asu := Asu.reset, flm := Flm.reset,
    cru := Cru.reset, diu := Diu.reset, idr := Idr.reset, cfl := Cfl.reset, snu := Snu.reset, routed := none,
    supokHigh := false, rstnHigh := true, now := 0, freeIndex := 0, pending := [] }

end Sys2Proof.Machine
end

