-- ==== Sys2Proof/Machine/Frames.lean ====
section
/-! DEFINITION. Frames as they stand on the consist line: the check, the tests a received frame must pass, the value codes and
the layouts of what the part sends (sections 9.2, 9.3 and 9.6). -/

namespace Sys2Proof.Machine

open Sys2Proof

/-! ## Byte order -/

/-- The two bytes of a sixteen-bit field, most significant first (R166, R182). -/
def bytesOf16 (v : BitVec 16) : List Byte := [v.extractLsb' 8 8, v.extractLsb' 0 8]

/-- The four bytes of a 32-bit field, most significant first (R168). -/
def bytesOf32 (v : BitVec 32) : List Byte :=
  [v.extractLsb' 24 8, v.extractLsb' 16 8, v.extractLsb' 8 8, v.extractLsb' 0 8]

/-- Byte `i`; 0 where there is none. -/
def byteAt (bytes : List Byte) (i : Nat) : Byte := bytes.getD i 0

/-- The sixteen-bit field at byte `i`, most significant byte first. -/
def wordAt (bytes : List Byte) (i : Nat) : BitVec 16 := byteAt bytes i ++ byteAt bytes (i + 1)

/-! ## The check (R166) -/

/-- One bit, most significant first, through the register of the generator x^16 + x^12 + x^5 + 1. -/
def checkBit (register : BitVec 16) (bit : Bool) : BitVec 16 :=
  if register.msb != bit then (register <<< 1) ^^^ 0x1021 else register <<< 1

/-- One byte, most significant bit first. -/
def checkByte (register : BitVec 16) (b : Byte) : BitVec 16 :=
  [7, 6, 5, 4, 3, 2, 1, 0].foldl (fun r k => checkBit r (b.getLsbD k)) register

/-- The check of a frame's header and payload: the register starts with all ones, with no final inversion. -/
def checkOf (bytes : List Byte) : BitVec 16 := bytes.foldl checkByte 0xFFFF

/-! ## Kinds (R166) -/

/-- The nine kinds of frame (R166). -/
inductive FrameKind where
  | speed | aspect | fault | desk | ackn | overdue | snapreq | snapstate | snapfaults
  deriving DecidableEq, Repr

def FrameKind.code : FrameKind → BitVec 4
  | .speed => 1
  | .aspect => 2
  | .fault => 3
  | .desk => 4
  | .ackn => 5
  | .overdue => 6
  | .snapreq => 7
  | .snapstate => 8
  | .snapfaults => 9

/-- The kind of a code; none for 0 and for 10 to 15, which the LIF discards (R169). -/
def kindOfCode (code : BitVec 4) : Option FrameKind :=
  [FrameKind.speed, .aspect, .fault, .desk, .ackn, .overdue, .snapreq, .snapstate, .snapfaults].find?
    (fun k => k.code == code)

/-- The supervised kind of a frame kind (R1); none for the kinds the SSV does not supervise. -/
def FrameKind.supervised : FrameKind → Option SourceKind
  | .speed => some .speed
  | .aspect => some .aspect
  | .fault => some .fault
  | .desk => some .desk
  | _ => none

/-- Whether a payload has the length R166 gives for the kind, and passes the tests R169 makes on its content: the counts of
FAULT and SNAPFAULTS, the what of ACKN, the parts of SNAPREQ. -/
def payloadFits (kind : FrameKind) (payload : List Byte) : Bool :=
  match kind with
  | .speed => payload.length == 4
  | .aspect => payload.length == 9
  | .fault => decide ((byteAt payload 0).toNat ≤ 6) && payload.length == 1 + 3 * (byteAt payload 0).toNat
  | .desk => payload.length == 13
  | .ackn => payload.length == 4 && decide ((byteAt payload 0).toNat ≤ 1)
  | .overdue => payload.length == 3
  | .snapreq => payload.length == 2 && ((byteAt payload 1).getLsbD 0 || (byteAt payload 1).getLsbD 1)
  | .snapstate => payload.length == 15
  | .snapfaults => decide ((byteAt payload 1).toNat ≤ 6) && payload.length == 2 + 4 * (byteAt payload 1).toNat

/-! ## Frames (R166, R169) -/

/-- A good frame: source station, kind, sequence and payload. -/
structure Frame where
  station : Nat
  kind    : FrameKind
  seq     : Seq
  payload : List Byte
  deriving DecidableEq, Repr

/-- The header of R166. -/
def frameHeader (f : Frame) : List Byte :=
  [BitVec.ofNat 8 f.station, f.kind.code ++ f.seq, BitVec.ofNat 8 f.payload.length]

/-- A frame as sent (R166): header, payload, check high byte first. -/
def frameBytes (f : Frame) : List Byte :=
  frameHeader f ++ f.payload ++ bytesOf16 (checkOf (frameHeader f ++ f.payload))

/-- A frame the line can carry: source station 1 to 31 and a payload that fits its kind. -/
def Frame.ok (f : Frame) : Bool :=
  decide (1 ≤ f.station) && decide (f.station ≤ 31) && payloadFits f.kind f.payload

/-- The tests of R169 on the bytes of one whole frame: the good frame, or none where the LIF discards it. DESIGN CHOICE (log 31):
bytes that go on behind the last check byte without an idle period are taken with the frame, which is then discarded; R169 does
not say what becomes of them. -/
def parseFrame (bytes : List Byte) : Option Frame :=
  match bytes with
  | b0 :: b1 :: b2 :: rest =>
    match kindOfCode (b1.extractLsb' 4 4) with
    | none => none
    | some kind =>
      let payload := rest.take b2.toNat
      if 1 ≤ b0.toNat ∧ b0.toNat ≤ 31 ∧ payload.length = b2.toNat ∧ payloadFits kind payload = true ∧
          rest.drop b2.toNat = bytesOf16 (checkOf (b0 :: b1 :: b2 :: payload)) then
        some { station := b0.toNat, kind := kind, seq := b1.extractLsb' 0 4, payload := payload }
      else none
  | _ => none

/-- Whether fewer bytes were heard than the frame's header announces (R169): the header itself is not whole, or payload and
check are not. -/
def fallsShort (bytes : List Byte) : Bool :=
  match bytes with
  | _ :: _ :: b2 :: rest => decide (rest.length < b2.toNat + 2)
  | _ => true

/-- Whether a frame heard with this ending is discarded (R169). -/
def isDiscarded (bytes : List Byte) (ending : FrameEnding) : Bool :=
  match ending with
  | .whole => (parseFrame bytes).isNone
  | .badStopBit => true
  | .cutShort => fallsShort bytes

/-! ## Value codes (section 9.6) -/

def Role.code : Role → Byte
  | .idle => 0
  | .mirror => 1
  | .claiming => 2
  | .active => 3
  | .conflict => 4

/-- The role a received role code counts as; a code outside the five counts as IDLE (R115). -/
def roleOfCode (code : Byte) : Role :=
  if code = 1 then .mirror else if code = 2 then .claiming else if code = 3 then .active
  else if code = 4 then .conflict else .idle

def SpeedState.code : SpeedState → Byte
  | .unknown => 0
  | .degraded => 1
  | .good => 2

def OverspeedLevel.code : OverspeedLevel → Byte
  | .notSupervised => 0
  | .normal => 1
  | .warn => 2
  | .alarm => 3

/-- The class number: 1 the most severe (R88). -/
def FaultClass.num : FaultClass → Nat
  | .stop => 1
  | .action => 2
  | .advisory => 3
  | .note => 4

/-- The class of a received class byte; a value outside 1 to 4 is taken as STOP (R93). -/
def classOfCode (code : Byte) : FaultClass :=
  if code = 2 then .action else if code = 3 then .advisory else if code = 4 then .note else .stop

def RecordState.code : RecordState → BitVec 2
  | .raisedUnack => 0
  | .raisedAck => 1
  | .clearedUnack => 2

/-- The direction of a received direction code; a code outside the four is UNKNOWN (R27). -/
def directionOfCode (code : Byte) : Direction :=
  if code = 0 then .standstill else if code = 1 then .forward else if code = 2 then .reverse else .unknown

/-- The quality of a received quality code; a code outside the three is INVALID (R27). -/
def qualityOfCode (code : Byte) : Quality :=
  if code = 0 then .good else if code = 1 then .degraded else .invalid

/-! ## What the part sends (R167, R168) -/

/-- The kind of a frame the part sends. -/
def TxContent.kind : TxContent → FrameKind
  | .desk _ => .desk
  | .acknAspect _ _ => .ackn
  | .acknFault _ _ => .ackn
  | .overdue _ _ _ => .overdue
  | .snapState _ => .snapstate
  | .snapFaults _ => .snapfaults

/-- The urgent class (R166): ACKN and OVERDUE. -/
def TxContent.urgent : TxContent → Bool
  | .acknAspect _ _ => true
  | .acknFault _ _ => true
  | .overdue _ _ _ => true
  | _ => false

def TxContent.isDesk : TxContent → Bool
  | .desk _ => true
  | _ => false

/-- SNAPSTATE or SNAPFAULTS. -/
def TxContent.isSnap : TxContent → Bool
  | .snapState _ => true
  | .snapFaults _ => true
  | _ => false

/-- A bit as the byte with that bit at place `k`. -/
def flagBit (k : Nat) (b : Bool) : Byte := if b then (1 : Byte) <<< k else 0

/-- The displayed aspect code, 255 for NONE (R167). -/
def aspectCodeByte (code : Option (Fin 16)) : Byte :=
  match code with
  | some c => BitVec.ofNat 8 c.val
  | none => 255

/-- The DESK payload (R167). -/
def deskPayload (c : DeskContent) : List Byte :=
  [c.role.code,
   flagBit 0 c.keyOn ||| flagBit 1 c.cabEndB ||| flagBit 2 c.displayed.isSome ||| flagBit 3 c.pendingAck.isSome |||
     flagBit 4 (match c.pendingAck with
       | some p => p.overdue
       | none => false) |||
     flagBit 5 c.top.isSome ||| flagBit 6 c.overflow ||| flagBit 7 c.fallback] ++
  bytesOf16 (BitVec.ofNat 16 (c.displayed.getD 0)) ++
  [c.speedState.code, c.level.code, aspectCodeByte c.code] ++
  (match c.pendingAck with
   | some p => [BitVec.ofNat 8 p.station, p.inst]
   | none => [0, 0]) ++
  (match c.top with
   | some r => BitVec.ofNat 8 r.origin :: bytesOf16 r.code
   | none => [0, 0, 0]) ++
  [BitVec.ofNat 8 c.count]

/-- The SNAPSTATE payload (R168). -/
def snapStatePayload (c : SnapStateContent) : List Byte :=
  [BitVec.ofNat 8 c.requester] ++ bytesOf32 c.runTime ++
  [c.role.code,
   flagBit 0 c.displayed.isSome ||| flagBit 1 c.fused.isSome ||| flagBit 2 c.pendingOpen ||| flagBit 3 c.overdue |||
     flagBit 4 c.overflow] ++
  bytesOf16 (BitVec.ofNat 16 (c.displayed.getD 0)) ++ bytesOf16 (BitVec.ofNat 16 (c.fused.getD 0)) ++
  [c.speedState.code, c.level.code, aspectCodeByte c.code, BitVec.ofNat 8 c.count]

/-- One record of a SNAPFAULTS payload (R168). -/
def snapRecordBytes (r : FaultRecord) : List Byte :=
  [BitVec.ofNat 8 (r.origin % 32) ||| BitVec.ofNat 8 (r.cls.num - 1) <<< 5 ||| flagBit 7 r.stale] ++ bytesOf16 r.code ++
  [BitVec.ofNat 4 r.count ++ ((0 : BitVec 2) ++ r.state.code)]

/-- The SNAPFAULTS payload (R168). -/
def snapFaultsPayload (c : SnapFaultsContent) : List Byte :=
  [BitVec.ofNat 8 c.requester, BitVec.ofNat 8 c.records.length] ++ c.records.flatMap snapRecordBytes

/-- The payload of a frame the part sends (R167, R168). -/
def TxContent.payload : TxContent → List Byte
  | .desk c => deskPayload c
  | .acknAspect station inst => [0, BitVec.ofNat 8 station, 0, inst]
  | .acknFault origin code => [1, BitVec.ofNat 8 origin] ++ bytesOf16 code
  | .overdue station inst time => [BitVec.ofNat 8 station, inst, BitVec.ofNat 8 time]
  | .snapState c => snapStatePayload c
  | .snapFaults c => snapFaultsPayload c

/-- The bytes of an attempt (R166): the own station as source station, the sequence the frame took. -/
def txBytes (own : Nat) (seq : Seq) (content : TxContent) : List Byte :=
  frameBytes { station := own, kind := content.kind, seq := seq, payload := content.payload }

end Sys2Proof.Machine
end

