-- ==== Sys2Proof/Machine/Image.lean ====
section
/-! DEFINITION. The configuration image: when it is taken, how its fields are read and clamped, which entries are disabled, and
the fallback configuration (R3, R181 to R186). -/

namespace Sys2Proof

open Sys2Proof.Machine

/-! ## The load (R181) -/

/-- The rate of MSCL in hertz (R181). -/
def msclHz : Nat := 100000

/-- What the CFL does on the serial memory bus, step by step (R181). A start within the transaction is a repeated start. -/
inductive BusStep where
  /-- One pulse of MSCL with MSDA released. -/
  | pulse
  | start
  | stop
  /-- A byte sent to the memory, which acknowledges it or does not. -/
  | send (b : Byte)
  /-- Image byte `i` read, which the CFL acknowledges (`more`) or, at the last one, does not. -/
  | read (i : Nat) (more : Bool)
  deriving DecidableEq, Repr

/-- The pulses of MSCL that a step takes: eight bits and an acknowledge for a byte. Start and stop are conditions of the bus,
which have none. -/
def BusStep.pulses : BusStep → Nat
  | .pulse => 1
  | .start => 0
  | .stop => 0
  | .send _ => 9
  | .read _ _ => 9

/-- What the serial memory does in a load: its acknowledges, and the bytes it gives from word address 0. -/
structure MemoryAnswer where
  acks  : MemoryAcks
  bytes : List Byte
  deriving DecidableEq, Repr

/-- The I2C device address of the serial memory (R181). -/
def deviceAddress : BitVec 7 := 0x50

/-- Byte `i` the serial memory gives. A byte the operand does not give reads as all ones, as an undriven MSDA does (DEDUCED,
log 11). -/
def MemoryAnswer.byte (m : MemoryAnswer) (i : Nat) : Byte := m.bytes.getD i 0xFF

/-- The length in image bytes 0 and 1, high byte first (R181). -/
def MemoryAnswer.length (m : MemoryAnswer) : Nat := (m.byte 0 ++ m.byte 1).toNat

/-- The length lies in 64 to 1024 (R181). -/
def lengthInRange (n : Nat) : Bool := decide (64 ≤ n) && decide (n ≤ 1024)

/-- How many bytes the load reads: the whole image, or bytes 0 and 1 where the length is out of range (R181). -/
def MemoryAnswer.readCount (m : MemoryAnswer) : Nat := if lengthInRange m.length then m.length else 2

/-- Step 1: nine pulses with MSDA released, then a stop (R181). -/
def busClear : List BusStep := List.replicate 9 .pulse ++ [.stop]

/-- Step 2, each part with the acknowledge that the memory gives to its byte (R181): the device address for writing, the word
address 0x0000 in two bytes, the device address for reading. -/
def MemoryAnswer.addressing (m : MemoryAnswer) : List (List BusStep × Bool) :=
  [([.start, .send (deviceAddress ++ 0#1)], m.acks.writeAddress), ([.send 0x00], m.acks.wordHigh),
   ([.send 0x00], m.acks.wordLow), ([.start, .send (deviceAddress ++ 1#1)], m.acks.readAddress)]

/-- The parts in order, then `rest`; a missing acknowledge ends the transaction with a stop at once (R181). -/
def untilUnacknowledged (rest : List BusStep) : List (List BusStep × Bool) → List BusStep
  | [] => rest
  | (steps, ack) :: parts => steps ++ (if ack then untilUnacknowledged rest parts else [.stop])

/-- Steps 3 and 4: one sequential read, ended with a not-acknowledge and a stop (R181; that a length out of range is ended
so too, log 11). -/
def MemoryAnswer.reading (m : MemoryAnswer) : List BusStep :=
  (List.range m.readCount).map (fun i => .read i (decide (i + 1 < m.readCount))) ++ [.stop]

/-- The whole transaction of the load (R181). -/
def MemoryAnswer.transaction (m : MemoryAnswer) : List BusStep :=
  busClear ++ untilUnacknowledged m.reading m.addressing

/-- The pulses of MSCL that the load takes. -/
def MemoryAnswer.pulses (m : MemoryAnswer) : Nat := (m.transaction.map BusStep.pulses).sum

/-- The bytes that the load has read when the transaction has ended, byte 0 first. -/
def MemoryAnswer.bytesRead (m : MemoryAnswer) : List Byte :=
  m.transaction.filterMap (fun step =>
    match step with
    | .read i _ => some (m.byte i)
    | _ => none)

/-- The memory has answered (R181): it has acknowledged both device addresses and both word address bytes. -/
def MemoryAnswer.answered (m : MemoryAnswer) : Bool :=
  m.acks.writeAddress && m.acks.wordHigh && m.acks.wordLow && m.acks.readAddress

/-- The sum of bytes 5 to length − 1, modulo 65536. -/
def imageSum (image : List Byte) : Nat := (image.drop 5).foldl (fun sum b => (sum + b.toNat) % 65536) 0

/-- Why an image is not taken: the condition of R181 that fails first. -/
inductive LoadFailure where
  | noAnswer | lengthOutOfRange | wrongFormat | wrongSum
  deriving DecidableEq, Repr

/-- The four conditions tested in their order, up to the first that fails (R181). -/
def MemoryAnswer.failure (m : MemoryAnswer) : Option LoadFailure :=
  let image := m.bytesRead
  if m.answered = false then some .noAnswer
  else if lengthInRange (wordAt image 0).toNat = false then some .lengthOutOfRange
  else if byteAt image 2 ≠ 1 then some .wrongFormat
  else if imageSum image ≠ (wordAt image 3).toNat then some .wrongSum
  else none

/-- The image is taken: all four conditions hold (R181). -/
def MemoryAnswer.imageTaken (m : MemoryAnswer) : Bool := m.failure.isNone

end Sys2Proof

namespace Sys2Proof.Machine

open Sys2Proof

/-! ## Reading and clamping (R182 to R184) -/

/-- The nearer bound for a value outside `lo` to `hi` (R184). -/
def clamp (lo hi v : Nat) : Nat := max lo (min hi v)

/-- A one-byte setting: its clamped value, or its default where it lies beyond the length (R183). -/
def setting8 (image : List Byte) (i lo hi dflt : Nat) : Nat :=
  if i + 1 ≤ image.length then clamp lo hi (byteAt image i).toNat else dflt

/-- A two-byte setting, high byte first. -/
def setting16 (image : List Byte) (i lo hi dflt : Nat) : Nat :=
  if i + 2 ≤ image.length then clamp lo hi (wordAt image i).toNat else dflt

/-- The reporting mode of its code; a code above 2 is ENTRY_ONLY (R184). -/
def reportingOfCode (code : Nat) : ReportingMode :=
  if code = 0 then .continuous else if code = 1 then .entryAndReturn else .entryOnly

/-- The report mode of its code; code 3 is SILENT (R184). -/
def reportModeOfCode (code : BitVec 2) : ReportMode :=
  if code = 0 then .fault else if code = 1 then .warning else .silent

/-- The kind of a source entry's code (R183). -/
def sourceKindOfCode (code : BitVec 2) : SourceKind :=
  if code = 0 then .speed else if code = 1 then .aspect else if code = 2 then .fault else .desk

/-- The drive state of a catalogue code (R183). -/
def driveOfCode (code : BitVec 2) : Drive :=
  if code = 0 then .off else if code = 1 then .steady else if code = 2 then .slow else .fast

/-- A disabled entry with nothing configured: entry 21 to 23 of the fallback (R186), and an entry that the image does not reach
(R183). DESIGN CHOICE (log 25): the manual says of such an entry only that it is disabled; the values of its other fields are
the model's. -/
def unusedSource : SourceConfig :=
  { enabled := false, station := 0, kind := .speed, roleIndex := 0, lowerMs := 0, upperMs := 20, lossLimit := 1,
    qualCount := 1, report := .silent }

/-- The entry `c` with the window and reporting settings of its kind (R3). -/
def withKindDefaults (c : SourceConfig) : SourceConfig :=
  match c.kind with
  | .speed => { c with lowerMs := 20, upperMs := 250, lossLimit := 3, qualCount := 2, report := .fault }
  | .aspect => { c with lowerMs := 20, upperMs := 600, lossLimit := 3, qualCount := 2, report := .fault }
  | .fault => { c with lowerMs := 100, upperMs := 2500, lossLimit := 3, qualCount := 1, report := .warning }
  | .desk => { c with lowerMs := 20, upperMs := 350, lossLimit := 3, qualCount := 2, report := .silent }

/-- The role index as clamped: ASPECT 2 and 3 are SECONDARY, DESK 3 is desk slot 2 (R184). -/
def clampRoleIndex (kind : SourceKind) (index : Nat) : Nat :=
  match kind with
  | .speed => min 3 index
  | .aspect => min 1 index
  | .fault => 0
  | .desk => min 2 index

/-- The five bytes of a source entry (R183), clamped (R184). -/
def sourceEntryOf (b0 b1 b2 b3 b4 : Byte) : SourceConfig :=
  let kind := sourceKindOfCode (b1.extractLsb' 6 2)
  let c : SourceConfig :=
    { enabled := b0.getLsbD 7
      station := (b0.extractLsb' 0 5).toNat
      kind := kind
      roleIndex := clampRoleIndex kind (b1.extractLsb' 4 2).toNat
      lowerMs := 10 * b2.toNat
      upperMs := 10 * max 2 b3.toNat
      lossLimit := if b1.getLsbD 1 then 3 else 1
      qualCount := clamp 1 8 b4.toNat
      report := reportModeOfCode (b1.extractLsb' 2 2) }
  if b0.getLsbD 6 then withKindDefaults c else c

/-- Source entry `i` of the image; disabled where its bytes do not all lie below the length (R183). -/
def sourceEntryAt (image : List Byte) (i : Nat) : SourceConfig :=
  let at0 := 33 + 5 * i
  if at0 + 5 ≤ image.length then
    sourceEntryOf (byteAt image at0) (byteAt image (at0 + 1)) (byteAt image (at0 + 2)) (byteAt image (at0 + 3))
      (byteAt image (at0 + 4))
  else unusedSource

/-- An unused catalogue entry: one that the image does not wholly reach (R183), and every code but 0 and 15 of the fallback (R186).
DESIGN CHOICE (log 25): the manual says of such an entry only that it is unused; its rank, lamps and default speed are the
model's. -/
def unusedAspect : CatalogueEntry :=
  { used := false, rank := 0, lamps := Vector.replicate 8 .off, defaultSpeed := none }

/-- What the loss aspect code's entry becomes where it was configured unused (R66). -/
def lossAspectFill : CatalogueEntry :=
  { used := true, rank := 15, lamps := Vector.replicate 8 .fast, defaultSpeed := none }

/-- The five bytes of a catalogue entry (R183), clamped (R184). -/
def catalogueEntryOf (b0 b1 b2 : Byte) (speed : BitVec 16) : CatalogueEntry :=
  let lampOf (b : Byte) (k : Nat) : Drive := driveOfCode (b.extractLsb' k 2)
  { used := b0.getLsbD 7
    rank := (b0.extractLsb' 0 4).toNat
    lamps := ⟨#[lampOf b1 6, lampOf b1 4, lampOf b1 2, lampOf b1 0, lampOf b2 6, lampOf b2 4, lampOf b2 2, lampOf b2 0], rfl⟩
    defaultSpeed := if b0.getLsbD 6 then some (min 400 speed.toNat) else none }

/-- The catalogue entry of a code; unused where it is not wholly present (R183). -/
def catalogueEntryAt (image : List Byte) (c : Nat) : CatalogueEntry :=
  let at0 := 153 + 5 * c
  if at0 + 5 ≤ image.length then
    catalogueEntryOf (byteAt image at0) (byteAt image (at0 + 1)) (byteAt image (at0 + 2)) (wordAt image (at0 + 3))
  else unusedAspect

/-- The loss aspect code's entry is always used (R66, R184). -/
def useLossEntry (code : Fin 16) (catalogue : Vector CatalogueEntry 16) : Vector CatalogueEntry 16 :=
  if (catalogue.get code).used then catalogue else catalogue.set code lossAspectFill

/-! ## Disabling (R185) -/

/-- Whether R185 disables an enabled entry, given the entries of lower index that stay enabled. -/
def entryConflicts (own : Nat) (kept : List SourceConfig) (c : SourceConfig) : Bool :=
  c.station == 0 || c.station == own ||
    kept.any (fun k => k.station == c.station && k.kind == c.kind) ||
    (c.kind != .fault && kept.any (fun k => k.kind == c.kind && k.roleIndex == c.roleIndex))

/-- The entries in order of index, each checked against the enabled ones before it (R185). -/
def disableFrom (own : Nat) (kept : List SourceConfig) : List SourceConfig → List SourceConfig
  | [] => []
  | c :: rest =>
    if c.enabled then
      if entryConflicts own kept c then { c with enabled := false } :: disableFrom own kept rest
      else c :: disableFrom own (c :: kept) rest
    else c :: disableFrom own kept rest

/-- The 24 entries after the check of R185. -/
def checkedEntries (own : Nat) (entries : List SourceConfig) : Vector SourceConfig 24 :=
  Vector.ofFn (fun i => (disableFrom own [] entries).getD i unusedSource)

/-! ## The two configurations -/

/-- A flash generator's setting: the period clamped first, then the on-time to the clamped period (R146, R184). -/
def flashSetting (image : List Byte) (i dfltPeriod dfltOn : Nat) : FlashConfig :=
  let period := setting8 image i 10 255 dfltPeriod
  { period := period, onTime := setting8 image (i + 1) 1 (period - 1) dfltOn }

/-- The loss aspect code (R182, R183). -/
def lossCodeOf (image : List Byte) : Fin 16 := Fin.ofNat 16 (setting8 image 233 0 15 15)

/-- The configuration of a taken image (R182 to R185). -/
def imageConfiguration (own : Nat) (image : List Byte) : Configuration :=
  let warnBand := setting8 image 15 1 10 3
  let lossCode := lossCodeOf image
  { graceMs := setting16 image 5 500 10000 3000
    tolerance := setting16 image 7 50 1000 150
    standstill := setting8 image 9 0 200 30
    hysteresis := setting8 image 10 0 50 20
    arcScale := setting16 image 11 120 400 160
    barScale := setting16 image 13 500 4000 2000
    warnBand := warnBand
    returnHyst := min warnBand (setting8 image 16 0 5 2)
    reporting := reportingOfCode (setting8 image 17 0 2 1)
    ackMs := setting16 image 18 2000 8000 4000
    reminderS := setting16 image 20 30 300 60
    claimMs := setting16 image 22 200 1000 300
    deskPeriodMs := setting16 image 24 50 500 100
    scrollReturnS := setting8 image 26 2 30 10
    f1 := flashSetting image 27 100 50
    f2 := flashSetting image 29 50 25
    toneEnables := if 33 ≤ image.length then wordAt image 31 else 0xFFFF
    entries := checkedEntries own ((List.range 24).map (sourceEntryAt image))
    catalogue := useLossEntry lossCode (Vector.ofFn (fun c => catalogueEntryAt image c))
    lossCode := lossCode }

/-- An enabled entry with its kind's defaults (R186). -/
def fallbackEntry (station : Nat) (kind : SourceKind) (roleIndex : Nat) : SourceConfig :=
  withKindDefaults
    { unusedSource with enabled := true, station := station, kind := kind, roleIndex := roleIndex }

/-- The stations of the fallback's three DESK entries: the first three of 19 to 22 that are not the own station. -/
def fallbackDesks (own : Nat) : List Nat := ([19, 20, 21, 22].filter (· != own)).take 3

/-- The fallback's entries before the check of R185 (R186). -/
def fallbackEntries (own : Nat) : List SourceConfig :=
  (List.range 4).map (fun k => fallbackEntry (k + 1) .speed k) ++
  [fallbackEntry 5 .aspect 0, fallbackEntry 6 .aspect 1] ++
  (List.range 12).map (fun k => fallbackEntry (k + 7) .fault 0) ++
  (List.range 3).map (fun k => fallbackEntry ((fallbackDesks own).getD k 0) .desk k)

/-- Code 0 of the fallback's catalogue: rank 0, LA1 STEADY, no default permitted speed (R186). -/
def fallbackCodeZero : CatalogueEntry :=
  { used := true, rank := 0, lamps := (Vector.replicate 8 .off).set 0 .steady, defaultSpeed := none }

/-- The built-in configuration (R186): every general setting at its default, every tone enable on. -/
def fallbackConfiguration (own : Nat) : Configuration :=
  { graceMs := 3000, tolerance := 150, standstill := 30, hysteresis := 20, arcScale := 160, barScale := 2000,
    warnBand := 3, returnHyst := 2, reporting := .entryAndReturn, ackMs := 4000, reminderS := 60, claimMs := 300,
    deskPeriodMs := 100, scrollReturnS := 10, f1 := { period := 100, onTime := 50 }, f2 := { period := 50, onTime := 25 },
    toneEnables := 0xFFFF
    entries := checkedEntries own (fallbackEntries own)
    catalogue := ((Vector.replicate 16 unusedAspect).set 0 fallbackCodeZero).set 15 lossAspectFill
    lossCode := 15 }

/-- The configuration the load ends with (R181). -/
def loadedConfiguration (own : Nat) (m : MemoryAnswer) : Configuration :=
  if m.imageTaken then imageConfiguration own m.bytesRead else fallbackConfiguration own

end Sys2Proof.Machine
end

