-- ==== Sys2Proof/Machine/Ops.lean ====
section
/-! DEFINITION. What every block reads and does: the own station and the settings, the passing of time, the timers, and the
reset of all blocks. -/

namespace Sys2Proof.Machine

open Sys2Proof

/-- A number of milliseconds as a length of time. -/
def ms (n : Nat) : Time := 1000 * n

/-- The own station (R179); 0, which is no station, while no straps are sampled. -/
def State.own (s : State) : Nat :=
  match s.cfl.straps with
  | some p => p.station.toNat
  | none => 0

/-- The settings in use. Before the load has ended no block uses them (log 17). -/
def State.cfg (s : State) : Configuration := s.cfl.config.getD (fallbackConfiguration 0)

/-- The start state is RUNNING. -/
def State.running (s : State) : Bool := s.cfl.start == .running

/-- The UNIT strap reads mph (R43). -/
def State.mph (s : State) : Bool :=
  match s.cfl.straps with
  | some p => p.mph
  | none => false

/-- The CABEND strap reads B (R114). -/
def State.cabEndB (s : State) : Bool :=
  match s.cfl.straps with
  | some p => p.cabEndB
  | none => false

/-- One bit time of the line (R165): 4 microseconds at 250 kbit/s, 8 at 125. Before the straps are sampled: 8 (DESIGN
CHOICE, log 16). -/
def State.bitTime (s : State) : Time :=
  match s.cfl.straps with
  | some p => if p.rate250 then 4 else 8
  | none => 8

/-! ## Time -/

/-- The moment `t` is reached. The clock does not go back (log 1). -/
def State.reach (t : Time) (s : State) : State := { s with now := max s.now t }

/-- The expiry of a timer: what it does, at the moment the timer runs to. A stopped timer does not expire (R17, R83: "the
expiry does not happen"; log 2). -/
def State.onExpiry (timer : Option Time) (act : State → State) (s : State) : State :=
  match timer with
  | some t => act (s.reach t)
  | none => s

/-- A number of milliseconds from now. -/
def State.inMs (s : State) (n : Nat) : Option Time := some (s.now + ms n)

/-! ## The time a frame takes on the line (R165) -/

/-- The bits of one byte on the line: a start bit, eight data bits, a stop bit (R165). -/
def byteBits : Nat := 10

/-- The time that a number of bytes takes on the line: 10 × k bit times for k of them (R165). -/
def State.bytesTime (s : State) (k : Nat) : Time := byteBits * k * s.bitTime

/-- The end of the last stop bit of the frame that the part drives (R165). -/
def State.driveEnd (s : State) : Option Time := s.lif.drivenAt.map (fun t => t + s.bytesTime s.lif.driven.length)

/-- The last stop bit of the frame that the part drives has been driven. -/
def State.driveOver (s : State) : Bool :=
  match s.driveEnd with
  | some e => decide (e ≤ s.now)
  | none => true

/-- The moment at which the line falls idle where the part stops driving now: the end of the frame's last stop bit, or now,
where a failure cuts the frame off before it (R165, R174). -/
def State.idleStart (s : State) : Time :=
  match s.driveEnd with
  | some e => min s.now e
  | none => s.now

/-! ## Reset (R188) -/

/-- The desk inputs after a reset: every debounced state at its reset value, the levels at the pins as they are (R145,
log 10). -/
def resetDiu (d : Diu) : Diu :=
  { Diu.reset with
    acknowledge := Contact.reset d.acknowledge.level
    scroll := Contact.reset d.scroll.level
    test := Contact.reset d.test.level
    key := Contact.reset d.key.level
    dimmer := DimmerInput.reset d.dimmer.level }

/-- The line interface after a reset: a frame being driven is cut off, which leaves the line idle from the last bit driven
(R178); otherwise the line stands as it stood. -/
def resetLif (idleStart : Time) (l : Lif) : Lif :=
  { Lif.reset with idleSince := if l.drive = .released then l.idleSince else some idleStart, busyUntil := l.busyUntil }

/-- Every block at its reset values, and the part held in SAMPLING (R188). The moment, the pins, the counter of the free
value and the waiting commands are not the blocks' own. -/
def State.resetBlocks (s : State) : State :=
  { State.reset with
    lif := resetLif s.idleStart s.lif
    diu := resetDiu s.diu
    supokHigh := s.supokHigh
    rstnHigh := s.rstnHigh
    now := s.now
    freeIndex := s.freeIndex
    pending := s.pending }

end Sys2Proof.Machine
end

