-- ==== Sys2Proof/Machine/Tones.lean ====
section
/-! DEFINITION. The tone arbiter of the Indication Driver (section 8.6). -/

namespace Sys2Proof.Machine

open Sys2Proof

/-- The ten patterns, highest priority first (R157). -/
def patternsByPriority : List Pattern :=
  [.overdue, .aspectRestrict, .overspeedAlarm, .faultStop, .cabConflict, .overspeedWarn, .overspeedClear, .faultAction,
   .reminder, .startChirp]

/-- The priority, 1 the highest (R157). -/
def Pattern.priority : Pattern → Nat
  | .overdue => 1
  | .aspectRestrict => 2
  | .overspeedAlarm => 3
  | .faultStop => 4
  | .cabConflict => 5
  | .overspeedWarn => 6
  | .overspeedClear => 7
  | .faultAction => 8
  | .reminder => 9
  | .startChirp => 10

/-- The length of a pattern's one-shot in milliseconds (R157); 0 for the patterns that are continuous only. -/
def Pattern.oneShotMs : Pattern → Nat
  | .overspeedAlarm => 1500
  | .overspeedWarn => 300
  | .overspeedClear => 200
  | .faultAction => 400
  | .reminder => 200
  | .startChirp => 200
  | _ => 0

/-- The enable condition (R158): OVERDUE and ASPECT_RESTRICT meet it always. -/
def toneEnabled (enables : BitVec 16) (p : Pattern) : Bool :=
  match p with
  | .overdue => true
  | .aspectRestrict => true
  | p => enables.getLsbD 0 && enables.getLsbD p.priority

/-- The tone column of the role gating table (R126). -/
def roleAllows (role : Role) (p : Pattern) : Bool :=
  match role with
  | .idle => p == .faultStop
  | .mirror => p == .faultStop
  | .claiming => p != .overdue
  | .active => true
  | .conflict => p == .cabConflict || p == .faultStop

/-- Whether a member is eligible (R158). Before RUNNING the enable condition alone counts. -/
def State.eligible (s : State) (p : Pattern) : Bool :=
  toneEnabled s.cfg.toneEnables p && (!s.running || roleAllows s.cru.role p)

/-- Whether a pattern is in the request set. -/
def Arbiter.member (a : Arbiter) (p : Pattern) : Bool :=
  a.asserted.contains p || (a.oneShot.map (·.pattern)) == some p

/-- The eligible member of the highest priority (R159). -/
def Arbiter.best (ok : Pattern → Bool) (a : Arbiter) : Option Pattern :=
  patternsByPriority.find? (fun p => ok p && a.member p)

/-- The playing member chosen afresh (R159). A one-shot that is not it is dropped (R160, R161); a member that stays the
playing one goes on without a break. -/
def Arbiter.rechoose (ok : Pattern → Bool) (now : Time) (a : Arbiter) : Arbiter :=
  let best := a.best ok
  { a with
    oneShot := if a.oneShot.map (·.pattern) = best then a.oneShot else none
    playing := if a.playing.map (·.pattern) = best then a.playing else best.map (fun p => { pattern := p, since := now }) }

/-- A continuous request joins or leaves the set (R157). -/
def Arbiter.hold (p : Pattern) (on : Bool) (a : Arbiter) : Arbiter :=
  { a with asserted := patternsByPriority.filter (fun q => if q = p then on else a.asserted.contains q) }

/-- An eligible member of higher priority than `p` is in the set (R160). -/
def Arbiter.higherIn (ok : Pattern → Bool) (p : Pattern) (a : Arbiter) : Bool :=
  patternsByPriority.any (fun q => decide (q.priority < p.priority) && ok q && a.member q)

/-- A one-shot issue (R160): dropped where it is not eligible or a higher eligible member is in the set; else it plays from
its beginning for its full length, in place of what played. -/
def Arbiter.issue (ok : Pattern → Bool) (now : Time) (p : Pattern) (a : Arbiter) : Arbiter :=
  if !ok p || a.higherIn ok p then a
  else
    { a with
      oneShot := some { pattern := p, endsAt := now + ms p.oneShotMs }
      playing := some { pattern := p, since := now } }

/-- The playing one-shot reaches the end of its length and leaves the set (R160). -/
def Arbiter.endOneShot (a : Arbiter) : Arbiter :=
  { a with oneShot := none, playing := if a.oneShot.isSome then none else a.playing }

/-! ## On the whole state: each is one event at the arbiter (R159) -/

/-- The arbiter replaced. -/
def State.withArbiter (a : Arbiter) (s : State) : State := { s with idr := { s.idr with arbiter := a } }

/-- A change of role, or of what is eligible: the arbiter chooses again (R161). -/
def State.toneRechoose (s : State) : State :=
  s.withArbiter (s.idr.arbiter.rechoose s.eligible s.now)

/-- A continuous request asserted (`on`) or withdrawn by its owner. Handing the same again changes nothing (R157). -/
def State.toneHold (p : Pattern) (on : Bool) (s : State) : State :=
  s.withArbiter ((s.idr.arbiter.hold p on).rechoose s.eligible s.now)

/-- A one-shot issued by its owner. -/
def State.toneIssue (p : Pattern) (s : State) : State :=
  s.withArbiter (s.idr.arbiter.issue s.eligible s.now p)

/-- A one-shot issued when the condition holds. -/
def State.toneIssueIf (b : Bool) (p : Pattern) (s : State) : State :=
  s.withArbiter (if b then s.idr.arbiter.issue s.eligible s.now p else s.idr.arbiter)

/-- The end of the playing one-shot's length. -/
def State.toneEnd (s : State) : State :=
  s.withArbiter (s.idr.arbiter.endOneShot.rechoose s.eligible s.now)

end Sys2Proof.Machine
end

