-- ==== Sys2Proof/Machine/FaultList.lean ====
section
/-! DEFINITION. The Fault List Manager (chapter 5), and the window position's return to TOP when its record leaves the list
(R142). -/

namespace Sys2Proof.Machine

open Sys2Proof

/-! ## Display order (R90) -/

/-- The order of the states within a class: RAISED_UNACK, CLEARED_UNACK, RAISED_ACK. -/
def RecordState.rank : RecordState → Nat
  | .raisedUnack => 0
  | .clearedUnack => 1
  | .raisedAck => 2

/-- `a` comes before `b`, or is `b`, in display order: by class, then state, then stamp (R90). -/
def displayLe (a b : FaultRecord) : Bool :=
  decide (a.cls.num < b.cls.num) ||
    (a.cls.num == b.cls.num &&
      (decide (a.state.rank < b.state.rank) || (a.state.rank == b.state.rank && decide (a.stamp ≤ b.stamp))))

/-- A record put into its place. -/
def placeRecord (r : FaultRecord) : List FaultRecord → List FaultRecord
  | [] => [r]
  | q :: rest => if displayLe r q then r :: q :: rest else q :: placeRecord r rest

/-- The records moved to their places in display order. -/
def inDisplayOrder : List FaultRecord → List FaultRecord
  | [] => []
  | r :: rest => placeRecord r (inDisplayOrder rest)

/-! ## Finding, stamping, making room -/

/-- The record is the one of this origin and code (R89). -/
def FaultRecord.is (origin : Nat) (code : FaultCode) (r : FaultRecord) : Bool := r.origin == origin && r.code == code

/-- The record of an origin and code. -/
def Flm.find (f : Flm) (origin : Nat) (code : FaultCode) : Option FaultRecord :=
  f.records.find? (FaultRecord.is origin code)

/-- The capacity of the list (R87). -/
def capacity : Nat := 32

/-- The greatest number of records at which the overflow flag is cleared (R87, R106). -/
def overflowClearLevel : Nat := 24

/-- New stamps 0, 1, 2 and so on in ascending order of the present ones (R91). -/
def renumber (l : List FaultRecord) : List FaultRecord :=
  l.map (fun r => { r with stamp := (l.filter (fun q => decide (q.stamp < r.stamp))).length })

/-- The records left when some are removed; a removal that leaves the list empty returns the counter to 0 (R91). -/
def Flm.withRemaining (f : Flm) (rest : List FaultRecord) : Flm :=
  { f with records := rest, counter := if rest.isEmpty && !f.records.isEmpty then 0 else f.counter }

/-- The rank of a state in the choice of an eviction: RAISED_ACK first, then CLEARED_UNACK, then RAISED_UNACK (R105). -/
def RecordState.evictionRank : RecordState → Nat
  | .raisedAck => 0
  | .clearedUnack => 1
  | .raisedUnack => 2

/-- `a` is given up before `b` (R105): the less severe class, then the state, then the older stamp. -/
def evictedBefore (a b : FaultRecord) : Bool :=
  decide (b.cls.num < a.cls.num) ||
    (a.cls.num == b.cls.num &&
      (decide (a.state.evictionRank < b.state.evictionRank) ||
        (a.state.evictionRank == b.state.evictionRank && decide (a.stamp < b.stamp))))

/-- The record given up first among some. -/
def firstEvicted : List FaultRecord → Option FaultRecord
  | [] => none
  | r :: rest =>
    match firstEvicted rest with
    | none => some r
    | some best => if evictedBefore best r then some best else some r

/-- The record evicted for a newcomer of a class: among those of a less severe class (R104, R105). -/
def Flm.victim (f : Flm) (cls : FaultClass) : Option FaultRecord :=
  firstEvicted (f.records.filter (fun r => decide (cls.num < r.cls.num)))

/-- The list after the new record `r` has taken the next stamp (R91). -/
def Flm.add (f : Flm) (r : FaultRecord) : Flm :=
  let l := { r with stamp := f.counter } :: f.records
  if f.counter < 65535 then { f with records := inDisplayOrder l, counter := f.counter + 1 }
  else { f with records := inDisplayOrder (renumber l), counter := l.length }

/-- A record as it is created (R96, R98); its stamp is given by `Flm.add`. -/
def newRecord (origin : Nat) (internal : Bool) (code : FaultCode) (cls : FaultClass) : FaultRecord :=
  { origin := origin, internal := internal, code := code, cls := cls, state := .raisedUnack, stale := false, count := 1,
    stamp := 0 }

/-- A new record is needed (R104): created at once while the list has room; else for an evicted record; else refused. An
eviction and a refusal set the overflow flag (R106). -/
def Flm.create (f : Flm) (r : FaultRecord) : Flm :=
  if f.records.length < capacity then f.add r
  else
    match f.victim r.cls with
    | none => { f with overflow := true }
    | some v => { f.withRemaining (f.records.filter (fun q => q != v)) with overflow := true }.add r

/-- Whether `Flm.create` would create the record. -/
def Flm.admits (f : Flm) (cls : FaultClass) : Bool :=
  decide (f.records.length < capacity) || (f.victim cls).isSome

/-! ## Raising, clearing, acknowledging one record -/

/-- An existing record that is listed or raised again (R95, R98): CLEARED_UNACK is re-raised, and the class is set. -/
def relist (cls : FaultClass) (r : FaultRecord) : FaultRecord :=
  match r.state with
  | .clearedUnack => { r with state := .raisedUnack, count := min 15 (r.count + 1), cls := cls }
  | _ => { r with cls := cls }

/-- What the absence of its code makes of a record (R94, R99). -/
def settleAbsent (r : FaultRecord) : Option FaultRecord :=
  match r.state with
  | .raisedUnack => some { r with state := .clearedUnack }
  | .raisedAck => none
  | .clearedUnack => some r

/-- What an acknowledgement makes of a record (R101, R102). -/
def settleAcknowledged (r : FaultRecord) : Option FaultRecord :=
  match r.state with
  | .raisedUnack => some { r with state := .raisedAck }
  | .clearedUnack => none
  | .raisedAck => some r

/-- The records that `sel` selects settled by `settle`, each record moved to its place. -/
def Flm.settle (f : Flm) (sel : FaultRecord → Bool) (settle : FaultRecord → Option FaultRecord) : Flm :=
  f.withRemaining (inDisplayOrder (f.records.filterMap (fun r => if sel r then settle r else some r)))

/-- The class of an existing record's code set, and a cleared record re-raised (R95). -/
def Flm.relist (f : Flm) (origin : Nat) (code : FaultCode) (cls : FaultClass) : Flm :=
  { f with
    records := inDisplayOrder (f.records.map (fun r => if r.is origin code then Machine.relist cls r else r)) }

/-- The list after an event, and whether the event created or re-raised an ACTION record (R110). -/
structure FlmResult where
  flm    : Flm
  action : Bool
  deriving DecidableEq, Repr

/-- A code listed by a summary, or raised internally (R95, R96, R98): its record is re-raised or refreshed; where there is
none, one is created if the list admits it. `action` is FAULT_ACTION's cause (R110): where one event re-raises a record and also
changes its class, the class that it has after the event decides (DESIGN CHOICE, log 26). -/
def Flm.raiseCode (f : Flm) (origin : Nat) (internal : Bool) (code : FaultCode) (cls : FaultClass) : FlmResult :=
  match f.find origin code with
  | some r => { flm := f.relist origin code cls, action := r.state == .clearedUnack && cls == .action }
  | none => { flm := f.create (newRecord origin internal code cls), action := f.admits cls && cls == .action }

/-- The end of each event: with 24 or fewer records the overflow flag is cleared (R106). -/
def Flm.settleOverflow (f : Flm) : Flm :=
  { f with overflow := f.overflow && decide (overflowClearLevel < f.records.length) }

/-! ## Summaries (R93 to R97) -/

/-- One entry of a summary: a code and its class. -/
structure ListedFault where
  code : FaultCode
  cls  : FaultClass
  deriving DecidableEq, Repr

/-- The entries of a FAULT payload in the order listed (R167), a class outside 1 to 4 as STOP (R93). -/
def listedFaults (payload : List Byte) : List ListedFault :=
  (List.range (byteAt payload 0).toNat).map (fun i =>
    { code := wordAt payload (1 + 3 * i), cls := classOfCode (byteAt payload (3 + 3 * i)) })

/-- Each code once, with the class of its first listing (R93). -/
def firstListings : List ListedFault → List ListedFault
  | [] => []
  | e :: rest => e :: (firstListings rest).filter (fun q => q.code != e.code)

/-- The set E of a summary (R93). -/
def summaryOf (payload : List Byte) : List ListedFault := firstListings (listedFaults payload)

/-- One code of E after another, listed by origin `origin` (R95, R96). -/
def raiseListed (origin : Nat) (listed : List ListedFault) (r : FlmResult) : FlmResult :=
  listed.foldl (fun acc e =>
    let next := acc.flm.raiseCode origin false e.code e.cls
    { flm := next.flm, action := acc.action || next.action }) r

/-- The stale mark of every record of an origin, internal records excepted (R97). -/
def Flm.markStale (f : Flm) (origin : Nat) (mark : Bool) : Flm :=
  { f with
    records := f.records.map (fun r => if r.origin == origin && !r.internal then { r with stale := mark } else r) }

/-- Reconciliation of a summary from an origin (R94 to R97): the absent codes, then the codes that have a record, then those
that have none, then the stale marks. -/
def Flm.reconcile (f : Flm) (origin : Nat) (listed : List ListedFault) : FlmResult :=
  let absent := f.settle
    (fun r => r.origin == origin && !r.internal && !(listed.any (fun e => e.code == r.code))) settleAbsent
  let present := raiseListed origin (listed.filter (fun e => (absent.find origin e.code).isSome))
    { flm := absent, action := false }
  let created := raiseListed origin (listed.filter (fun e => (absent.find origin e.code).isNone)) present
  { created with flm := created.flm.markStale origin false }

/-! ## What the FLM hands on after each event (R108 to R112) -/

/-- A record of the class is in the list with this test. -/
def Flm.anyOf (f : Flm) (cls : FaultClass) (test : RecordState → Bool) : Bool :=
  f.records.any (fun r => r.cls == cls && test r.state)

/-- The drive state of a fault lamp (R108); `flash` is FAST for STOP, SLOW for ACTION. -/
def Flm.lamp (f : Flm) (cls : FaultClass) (flash : Drive) : Drive :=
  if f.anyOf cls (· != .raisedAck) then flash
  else if f.anyOf cls (· == .raisedAck) then .steady
  else .off

/-- A STOP record is RAISED_UNACK: FAULT_STOP is asserted (R109). -/
def Flm.stopSounds (f : Flm) : Bool := f.anyOf .stop (· == .raisedUnack)

/-- An ACTION record is RAISED_UNACK: the reminder timer runs (R111). -/
def Flm.reminds (f : Flm) : Bool := f.anyOf .action (· == .raisedUnack)

/-- The reminder timer after an event (R111): started when it is stopped and must run, else left, or stopped. -/
def Flm.runReminder (f : Flm) (start : Option Time) : Flm :=
  { f with reminderAt := if f.reminds then (match f.reminderAt with
      | some t => some t
      | none => start) else none }

/-- The window position against the list (R142): a selected record that is not in the list returns it to TOP and stops the
scroll-return timer. -/
def windowKept (f : Flm) (d : Diu) : Diu :=
  match d.window with
  | none => d
  | some n => if (f.find n.origin n.code).isSome then d else { d with window := none, scrollAt := none }

/-- The end of one event at the FLM, with the list it leaves: overflow flag and reminder timer, the window position, the STOP
and ACTION lamps, FAULT_STOP, and FAULT_ACTION when the event created or re-raised an ACTION record. The continuous request
is handed before the one-shot (DESIGN CHOICE, log 18). -/
def State.flmEvent (r : FlmResult) (s : State) : State :=
  let f := r.flm.settleOverflow.runReminder (some (s.now + ms (1000 * s.cfg.reminderS)))
  let held := ({ s with
    flm := f
    diu := windowKept f s.diu
    idr := { s.idr with lamps := { s.idr.lamps with stop := f.lamp .stop .fast, action := f.lamp .action .slow } } } : State)
  (held.toneHold .faultStop f.stopSounds).toneIssueIf r.action .faultAction

/-- An internal raise request (R98). -/
def State.flmRaise (code : FaultCode) (cls : FaultClass) (s : State) : State :=
  s.flmEvent (s.flm.raiseCode s.own true code cls)

/-- An internal clear request (R99). -/
def State.flmClear (code : FaultCode) (s : State) : State :=
  s.flmEvent { flm := s.flm.settle (FaultRecord.is s.own code) settleAbsent, action := false }

/-- A request of a raising block: raise or clear. -/
inductive FaultRequest where
  | raise (code : FaultCode) (cls : FaultClass)
  | clear (code : FaultCode)
  deriving DecidableEq, Repr

/-- One request taken by the FLM. -/
def State.request (q : FaultRequest) (s : State) : State :=
  match q with
  | .raise code cls => s.flmRaise code cls
  | .clear code => s.flmClear code

/-- The requests of one event, in the order given. -/
def State.requests (qs : List FaultRequest) (s : State) : State := qs.foldl (fun s q => s.request q) s

/-- The reconciliation of a used summary (R92). -/
def State.flmReconcile (origin : Nat) (payload : List Byte) (s : State) : State :=
  s.flmEvent (s.flm.reconcile origin (summaryOf payload))

/-- The stale marks at the loss of an origin's FAULT entry (R97). -/
def State.flmStale (origin : Nat) (s : State) : State :=
  s.flmEvent { flm := s.flm.markStale origin true, action := false }

/-- An acknowledgement of the records that `sel` selects (R101, R102). -/
def State.flmAcknowledge (sel : FaultRecord → Bool) (s : State) : State :=
  s.flmEvent { flm := s.flm.settle sel settleAcknowledged, action := false }

/-- A peer's FAULT acknowledgement (R102): it never matches an internal record (R100). -/
def State.flmPeerAckn (origin : Nat) (code : FaultCode) (s : State) : State :=
  s.flmAcknowledge (fun r => r.is origin code && !r.internal)

/-- The expiry of the reminder timer (R111): REMINDER is issued and the timer restarted. -/
def State.reminderExpiry (s : State) : State :=
  ({ s with flm := { s.flm with reminderAt := s.inMs (1000 * s.cfg.reminderS) } } : State).toneIssue .reminder

end Sys2Proof.Machine
end

