-- ==== Sys2Proof/Machine/Line.lean ====
section
/-! DEFINITION. The Line Interface (chapter 9): the transmit queue, the attempts, what is heard on the line, and the notices to
the Snapshot Unit (R191). -/

namespace Sys2Proof.Machine

open Sys2Proof

/-! ## The notice of a snapshot frame that has left (R176, R191) -/

/-- A frame that has left the queue, or was dropped at entry: a snapshot frame leaves the outstanding set, and the latch is
free when the set is empty (R191). -/
def Snu.notice (u : Snu) (content : TxContent) : Snu :=
  match u.latch with
  | none => u
  | some l =>
    let out : SnapParts :=
      match content with
      | .snapState _ => { l.outstanding with state := false }
      | .snapFaults _ => { l.outstanding with faults := false }
      | _ => l.outstanding
    if content.isSnap then
      (if out.state || out.faults then { u with latch := some { l with outstanding := out } } else { u with latch := none })
    else u

/-! ## The transmit queue (R175) -/

/-- The number of frames the transmit queue can hold (R175). -/
def queueCapacity : Nat := 8

/-- The frames in the queue, the head included. -/
def Lif.length (l : Lif) : Nat := l.waiting.length + (if l.head.isSome then 1 else 0)

/-- The head is a DESK frame. -/
def Lif.headIsDesk (l : Lif) : Bool :=
  match l.head with
  | some h => h.content.isDesk
  | none => false

/-- A frame enters the queue in its place: urgent before normal, and within a class behind the older ones (R175). -/
def enterQueue (f : QueuedFrame) (waiting : List QueuedFrame) : List QueuedFrame :=
  if f.content.urgent then
    waiting.filter (fun q => q.content.urgent) ++ f :: waiting.filter (fun q => !q.content.urgent)
  else waiting ++ [f]

/-- The newest frame with this test, which is the last in queue order. -/
def newestWhere (test : TxContent → Bool) (waiting : List QueuedFrame) : Option QueuedFrame :=
  waiting.reverse.find? (fun q => test q.content)

/-- The queue without the newest frame with this test. -/
def removeNewest (test : TxContent → Bool) (waiting : List QueuedFrame) : List QueuedFrame :=
  (waiting.reverse.eraseP (fun q => test q.content)).reverse

/-- The content of a queued DESK frame replaced; the frame keeps its time of entry and its place (R175). -/
def refreshDesk (content : TxContent) (waiting : List QueuedFrame) : List QueuedFrame :=
  waiting.map (fun q => if q.content.isDesk then { q with content := content } else q)

/-- What became of a frame handed to the LIF: the new interface, the frame that was evicted or dropped if one was. -/
structure Placed where
  lif  : Lif
  lost : Option TxContent
  deriving DecidableEq, Repr

/-- A frame enters in place of the newest one with this test; where there is none it is dropped. -/
def Lif.enterFor (l : Lif) (f : QueuedFrame) (test : TxContent → Bool) : Placed :=
  match newestWhere test l.waiting with
  | some q => { lif := { l with waiting := enterQueue f (removeNewest test l.waiting) }, lost := some q.content }
  | none => { lif := l, lost := some f.content }

/-- A frame handed by an owner is placed (R175). -/
def Lif.place (l : Lif) (now : Time) (content : TxContent) : Placed :=
  let f : QueuedFrame := { content := content, entered := now }
  let roomy : Bool := decide (l.length < queueCapacity)
  let entered : Placed := { lif := { l with waiting := enterQueue f l.waiting }, lost := none }
  match content with
  | .desk c =>
    if l.headIsDesk then { lif := { l with hold := some c }, lost := none }
    else if l.waiting.any (fun q => q.content.isDesk) then
      { lif := { l with waiting := refreshDesk content l.waiting }, lost := none }
    else if roomy then entered
    else l.enterFor f TxContent.isSnap
  | .snapState _ => if roomy then entered else { lif := l, lost := some content }
  | .snapFaults _ => if roomy then entered else { lif := l, lost := some content }
  | .acknAspect _ _ => if roomy then entered else l.enterFor f (fun c => !c.urgent)
  | .acknFault _ _ => if roomy then entered else l.enterFor f (fun c => !c.urgent)
  | .overdue _ _ _ => if roomy then entered else l.enterFor f (fun c => !c.urgent)

/-- An eviction or a drop for lack of room: 0xF072 is raised unless it is raised already (R175). -/
def State.queueLoss (s : State) : State :=
  if s.lif.queueLossRaised then s
  else ({ s with lif := { s.lif with queueLossRaised := true } } : State).flmRaise 0xF072 .note

/-- A frame handed to the LIF: placed, the SNU told of a snapshot frame that was lost, and the loss reported (R175, R176). -/
def State.handFrame (content : TxContent) (s : State) : State :=
  let p := s.lif.place s.now content
  match p.lost with
  | none => { s with lif := p.lif }
  | some c => ({ s with lif := p.lif, snu := s.snu.notice c } : State).queueLoss

/-- After an event that has removed a frame: with 4 or fewer in the queue, 0xF072 is cleared if it is raised (R175). -/
def State.queueEased (s : State) : State :=
  if s.lif.queueLossRaised && decide (s.lif.length ≤ 4) then
    ({ s with lif := { s.lif with queueLossRaised := false } } : State).flmClear 0xF072
  else s

/-- The content of the DESK hold enters the queue as a new DESK frame, and the hold is emptied (R175). -/
def State.enterHold (s : State) : State :=
  match s.lif.hold with
  | some c => ({ s with lif := { s.lif with hold := none } } : State).handFrame (.desk c)
  | none => s

/-- The head leaves the queue (R176): the SNU is told of a snapshot frame, the DESK hold enters, and the length is tested as
the whole event leaves it (DEDUCED, log 14). -/
def State.headLeaves (s : State) : State :=
  match s.lif.head with
  | none => s
  | some h =>
    ({ s with lif := { s.lif with head := none }, snu := s.snu.notice h.content } : State).enterHold.queueEased

/-- The head is an ACKN or OVERDUE frame. -/
def Lif.headUrgent (l : Lif) : Bool :=
  match l.head with
  | some h => h.content.urgent
  | none => false

/-- Every ACKN and OVERDUE frame leaves the queue; one that is on the line completes without a result (R128, R176). -/
def Lif.pruned (l : Lif) : Lif :=
  { l with
    waiting := l.waiting.filter (fun q => !q.content.urgent)
    head := if l.headUrgent then none else l.head
    drive := if l.headUrgent && l.drive == .head then .pruned else l.drive }

/-- The pruning of the transmit queue when the role leaves ACTIVE (R128). -/
def State.pruneQueue (s : State) : State :=
  let p : State := { s with lif := s.lif.pruned }
  if p.lif.length < s.lif.length then p.queueEased else p

/-! ## Attempts (R172 to R174) -/

/-- The sequence counter of a content's kind (R172). -/
def SeqCounters.of (c : SeqCounters) : TxContent → Seq
  | .desk _ => c.desk
  | .acknAspect _ _ => c.ackn
  | .acknFault _ _ => c.ackn
  | .overdue _ _ _ => c.overdue
  | .snapState _ => c.snapState
  | .snapFaults _ => c.snapFaults

/-- The counter of a content's kind advanced by 1, 15 followed by 0 (R172). -/
def SeqCounters.advance (c : SeqCounters) : TxContent → SeqCounters
  | .desk _ => { c with desk := c.desk + 1 }
  | .acknAspect _ _ => { c with ackn := c.ackn + 1 }
  | .acknFault _ _ => { c with ackn := c.ackn + 1 }
  | .overdue _ _ _ => { c with overdue := c.overdue + 1 }
  | .snapState _ => { c with snapState := c.snapState + 1 }
  | .snapFaults _ => { c with snapFaults := c.snapFaults + 1 }

/-- The first frame in queue order becomes the head, unless there is a head, and takes its sequence (R172, R173). -/
def Lif.withHead (l : Lif) : Lif :=
  match l.head, l.waiting with
  | none, q :: rest =>
    { l with
      head := some { content := q.content, entered := q.entered, seq := l.counters.of q.content, attempts := 0 }
      waiting := rest
      counters := l.counters.advance q.content }
  | _, _ => l

/-- The access gap of a frame in bit times (R173). -/
def accessGap (own : Nat) (content : TxContent) : Nat := (if content.urgent then 12 else 44) + own

/-- The content of the frame first in queue order: the head where there is one (R175). -/
def Lif.first (l : Lif) : Option TxContent :=
  match l.head with
  | some h => some h.content
  | none => l.waiting.head?.map (·.content)

/-- Whether the LIF may start an attempt now (R173): RUNNING, no frame of its own on the line, and an idle period that has
lasted the gap of the first frame. -/
def State.mayAttempt (s : State) : Bool :=
  match s.lif.first, s.lif.idleSince with
  | some c, some since =>
    s.running && s.lif.drive == .released && decide (since + accessGap s.own c * s.bitTime ≤ s.now)
  | _, _ => false

/-- The bytes of the head's attempt. -/
def Lif.headBytes (l : Lif) (own : Nat) : List Byte :=
  match l.head with
  | some h => txBytes own h.seq h.content
  | none => []

/-- The start of an attempt (R173). -/
def State.startAttempt (s : State) : State :=
  if s.mayAttempt then
    let l := s.lif.withHead
    { s with lif := { l with
      drive := .head, driven := l.headBytes s.own, drivenAt := some s.now, idleSince := none } }
  else s

/-! ## The frame on the line (R165) -/

/-- The level of a data bit on the line (log 28). -/
def dataLevel (bit : Bool) : LineLevel := if bit = Config.oneAtIdleLevel then .idle else .nonIdle

/-- The levels of the ten bits of a byte in the order in which they travel: the start bit at the non-idle level, the data bits
with the least significant first, the stop bit at the idle level (R165). -/
def byteLevels (b : Byte) : List LineLevel :=
  .nonIdle :: [0, 1, 2, 3, 4, 5, 6, 7].map (fun k => dataLevel (b.getLsbD k)) ++ [.idle]

/-- The levels of a whole frame, whose bytes follow one another without pause (R165). -/
def frameLevels (bytes : List Byte) : List LineLevel := bytes.flatMap byteLevels

/-- LTXEN is active (R165, R174): from the start of an attempt to the end of its last stop bit, unless it is cut off. -/
def State.ltxen (s : State) : Bool := s.lif.drive != .released && !s.driveOver

/-- The level on LTXD (R165): that of the bit being driven, and the idle level while the part drives nothing (R178). -/
def State.ltxd (s : State) : LineLevel :=
  match s.lif.drivenAt with
  | some t => (frameLevels s.lif.driven).getD ((s.now - t) / s.bitTime) .idle
  | none => .idle

/-- The attempt count (R173, R174, R178): that of the head, and 0 while there is no head. -/
def Lif.attemptCount (l : Lif) : Nat :=
  match l.head with
  | some h => h.attempts
  | none => 0

/-! ## The end of an attempt (R174) -/

/-- The part stops driving, and the line is idle from the last bit driven (R165, R174). -/
def State.releaseLine (s : State) : State :=
  { s with lif := { s.lif with drive := .released, driven := [], drivenAt := none, idleSince := some s.idleStart } }

/-- A successful send clears 0xF070 if it is raised (R174). -/
def State.sendSucceeded (s : State) : State :=
  if s.lif.failedSendRaised then
    ({ s with lif := { s.lif with failedSendRaised := false } } : State).flmClear 0xF070
  else s

/-- A frame discarded after its 16th failed attempt raises 0xF070 unless it is raised (R174). -/
def State.sendFailed (s : State) : State :=
  if s.lif.failedSendRaised then s
  else ({ s with lif := { s.lif with failedSendRaised := true } } : State).flmRaise 0xF070 .action

/-- The failed attempts after which the head is discarded (R174). -/
def attemptLimit : Nat := 16

/-- A successful attempt (R174): the frame has been read back whole, to the end of its last stop bit. -/
def State.attemptSucceeds (s : State) : State :=
  if s.lif.drive = .head ∧ s.driveOver = true then s.releaseLine.headLeaves.sendSucceeded else s

/-- The head after a failed attempt: it stays with its count risen by 1, or is discarded at the 16th (R174). -/
def State.attemptCounted (s : State) : State :=
  match s.lif.head with
  | none => s
  | some h =>
    if h.attempts + 1 < attemptLimit then
      { s with lif := { s.lif with head := some { h with attempts := h.attempts + 1 } } }
    else s.headLeaves.sendFailed

/-- A failed attempt (R174): at one of the bits of the frame, or when all have been driven and what was read back is not
good. -/
def State.attemptFails (s : State) : State :=
  if s.lif.drive = .head then s.releaseLine.attemptCounted else s

/-- The end of a frame that was pruned while on the line (R176): the LIF drives it to the end of its last byte. -/
def State.prunedFrameEnds (s : State) : State :=
  if s.lif.drive = .pruned ∧ s.driveOver = true then s.releaseLine else s

/-! ## What is heard (R165, R169 to R171) -/

/-- The idle time, in bit times, that cuts a frame short and that makes the receiver ready again (R169). -/
def receiverGap : Nat := 11

/-- The end of a frame heard from another station: the line is idle from now, and a frame that fails a test of R169 is
discarded. While the part drives the line, it hears its own frame only (R171, R174). -/
def State.hearFrame (bytes : List Byte) (s : State) : State :=
  if s.lif.drive = .released then
    { s with lif := { s.lif with
      idleSince := some s.now, ignoring := s.lif.ignoring || (parseFrame bytes).isNone } }
  else s

/-- The good frame the LIF has assembled from these bytes, or none: it assembles nothing while it drives the line, nor while
it ignores the line after a discard (R169). -/
def State.assembled (bytes : List Byte) (s : State) : Option Frame :=
  if s.lif.drive = .released && !s.lif.ignoring then parseFrame bytes else none

/-- A good frame from another station that may be handed on, in RUNNING (R170). -/
def State.fromPeer (bytes : List Byte) (s : State) : Option Frame :=
  match s.assembled bytes with
  | some f => if s.running && f.station != s.own then some f else none
  | none => none

/-- A start bit heard ends the idle period (R165). Its byte keeps the line until ten bit times later. -/
def State.hearStartBit (s : State) : State :=
  if s.lif.drive = .released then
    { s with lif := { s.lif with idleSince := none, busyUntil := s.now + byteBits * s.bitTime } }
  else s

/-- The earliest moment from which the line can have been idle until now: the beginning of the idle period, or where none has
been heard to begin, the end of what was heard last. -/
def Lif.idleFrom (l : Lif) : Time := l.idleSince.getD l.busyUntil

/-- The line can have been idle for 11 bit times (R169). -/
def State.idleForReceiver (s : State) : Bool := decide (s.lif.idleFrom + receiverGap * s.bitTime ≤ s.now)

/-- Whether a frame can have ended so (R165, R169): one is cut short only where the line can have been idle for 11 bit times. -/
def State.canEnd (ending : FrameEnding) (s : State) : Bool :=
  match ending with
  | .whole => true
  | .badStopBit => true
  | .cutShort => s.idleForReceiver

/-- The idle period at the moment of a discard (log 12): begun now after a whole frame, not begun where a stop bit was wrong,
begun 11 bit times ago where the frame was cut short. -/
def State.idleAfter (ending : FrameEnding) (s : State) : Option Time :=
  match ending with
  | .whole => some s.now
  | .badStopBit => none
  | .cutShort => some (s.now - receiverGap * s.bitTime)

/-- A discarded frame: the LIF ignores the line until it has been idle for 11 bit times (R169). -/
def State.discardFrame (bytes : List Byte) (ending : FrameEnding) (s : State) : State :=
  if s.lif.drive = .released ∧ s.canEnd ending = true then
    { s with lif := { s.lif with
      idleSince := s.idleAfter ending, busyUntil := s.now, ignoring := s.lif.ignoring || isDiscarded bytes ending } }
  else s

/-- After a discard the line has been idle for 11 bit times: the receiver is ready (R169). Where the idle period was not heard
to begin, it began 11 bit times ago at the latest, and is counted from there (log 12). -/
def State.becomeReady (s : State) : State :=
  if s.lif.drive = .released && s.lif.ignoring && s.idleForReceiver then
    { s with lif := { s.lif with
      ignoring := false, idleSince := some (s.lif.idleSince.getD (s.now - receiverGap * s.bitTime)) } }
  else s

/-- The time without a clash after which 0xF071 is cleared (R171). -/
def clashMs : Nat := 10000

/-- A station clash (R171): the timer is restarted, and 0xF071 raised unless it is raised. -/
def State.clash (s : State) : State :=
  let r : State := { s with lif := { s.lif with clashAt := s.inMs clashMs } }
  if r.lif.clashRaised then r
  else ({ r with lif := { r.lif with clashRaised := true } } : State).flmRaise 0xF071 .stop

/-- Ten seconds without a clash (R171): 0xF071 is cleared. -/
def State.clashOver (s : State) : State :=
  ({ s with lif := { s.lif with clashAt := none, clashRaised := false } } : State).flmClear 0xF071

end Sys2Proof.Machine
end

