-- ==== Sys2Proof/Machine/SpeedDisplay.lean ====
section
/-! DEFINITION. The Speed Display and Overspeed Monitor (chapter 3). -/

namespace Sys2Proof.Machine

open Sys2Proof

/-! ## Displayed speed (R45, R46) -/

/-- A value multiplied by 0.6214 and rounded, a half up (R45, R50). -/
def toMph (v : Nat) : Nat := (v * 6214 + 5000) / 10000

/-- A value in the display unit: as it is in km/h, converted in mph. -/
def inDisplayUnit (mph : Bool) (v : Nat) : Nat := if mph then toMph v else v

/-- The candidate value c of the source value g, rounded to a whole unit with a half up (R45). -/
def candidate (g : Nat) : Nat := (g + 50) / 100

/-- |a − b|. -/
def distance (a b : Nat) : Nat := (a - b) + (b - a)

/-- The displayed speed after a hand-off: the first case of R46 that applies. -/
def displayedAfter (mph : Bool) (standstill hysteresis : Nat) (before fused : Option Nat) : Option Nat :=
  match fused with
  | none => none
  | some f =>
    let g := inDisplayUnit mph f
    if f < standstill then some 0
    else
      match before with
      | none => some (candidate g)
      | some d =>
        if candidate g ≠ d ∧ 50 + hysteresis ≤ distance g (100 * d) then some (candidate g) else some d

/-! ## Arc, markers, bar (R49 to R53) -/

/-- min(60, v × 60 div S): a value on the arc's scale (R49, R50). -/
def onArc (scale v : Nat) : Nat := min 60 (v * 60 / scale)

/-- The number of lit arc segments L (R49). -/
def litSegments (scale : Nat) (displayed : Option Nat) : Nat :=
  match displayed with
  | none => 0
  | some d => onArc scale d

/-- The position of a marker; none for an absent speed and where m is 0 (R50). -/
def markerAt (mph : Bool) (scale : Nat) (speed : Option Nat) : Option Nat :=
  match speed with
  | none => none
  | some v => if onArc scale (inDisplayUnit mph v) = 0 then none else some (onArc scale (inDisplayUnit mph v))

/-- The number of lit distance bar segments B (R53). -/
def barSegments (full : Nat) (dist : Option Nat) : Nat :=
  match dist with
  | none => 0
  | some d => min 10 ((d * 10 + full - 1) / full)

/-- The drive state of marker segment `k`, 1 to 60 (R51). -/
def Sdm.markerDrive (d : Sdm) (k : Nat) : Drive :=
  if d.permittedMarker = some k ∨ d.targetMarker = some k then (if k ≤ d.lit then .fast else .steady) else .off

/-! ## Overspeed (R54, R55) -/

/-- warn_on (R54). -/
def warnOn (p : Nat) : Nat := 100 * p
/-- alarm_on (R54). -/
def alarmOn (p w : Nat) : Nat := 100 * (p + w)
/-- alarm_off (R54). -/
def alarmOff (p w r : Nat) : Nat := alarmOn p w - 100 * r
/-- warn_off (R54). -/
def warnOff (p r : Nat) : Nat := warnOn p - 100 * r

/-- The level after an evaluation with f known and P present (R55). -/
def supervisedLevel (w r : Nat) (before : OverspeedLevel) (f p : Nat) : OverspeedLevel :=
  if alarmOn p w < f then .alarm
  else if before = .alarm ∧ alarmOff p w r ≤ f then .alarm
  else if warnOn p < f then .warn
  else if (before = .warn ∨ before = .alarm) ∧ warnOff p r ≤ f then .warn
  else .normal

/-- The level after an evaluation (R55). -/
def levelAfter (w r : Nat) (before : OverspeedLevel) (fused permitted : Option Nat) : OverspeedLevel :=
  match fused, permitted with
  | some f, some p => supervisedLevel w r before f p
  | _, _ => .notSupervised

/-- The drive state of the OVERSPEED lamp (R62). -/
def OverspeedLevel.lamp : OverspeedLevel → Drive
  | .warn => .steady
  | .alarm => .fast
  | _ => .off

/-- The re-arm flag after an evaluation (R61). -/
def rearmAfter (before after : OverspeedLevel) (flag : Bool) : Bool :=
  match after with
  | .alarm => if before = .alarm then flag else false
  | .warn => flag
  | _ => true

/-- The one-shot an evaluation issues, if any (R58, R60, R61). `rearm` is the flag before it. -/
def overspeedIssue (mode : ReportingMode) (rearm : Bool) (before after : OverspeedLevel) : Option Pattern :=
  match before, after with
  | .normal, .warn => some .overspeedWarn
  | .notSupervised, .warn => some .overspeedWarn
  | .alarm, .alarm => none
  | _, .alarm =>
    match mode with
    | .continuous => none
    | .entryAndReturn => some .overspeedAlarm
    | .entryOnly => if rearm then some .overspeedAlarm else none
  | .alarm, .warn => if mode = .entryAndReturn then some .overspeedClear else none
  | .alarm, .normal => if mode = .entryAndReturn then some .overspeedClear else none
  | _, _ => none

/-- A one-shot issued where there is one. -/
def State.toneIssueOpt (p : Option Pattern) (s : State) : State :=
  match p with
  | some q => s.toneIssue q
  | none => s

/-- One evaluation of the overspeed level (R55, R56), with its lamp (R62), its continuous request (R59), and its one-shot. -/
def State.evaluateOverspeed (s : State) : State :=
  let before := s.sdm.level
  let after := levelAfter s.cfg.warnBand s.cfg.returnHyst before s.sdm.fused s.sdm.limits.permitted
  let held := ({ s with
    sdm := { s.sdm with level := after, rearm := rearmAfter before after s.sdm.rearm }
    idr := { s.idr with lamps := { s.idr.lamps with overspeed := after.lamp } } } : State)
  (held.toneHold .overspeedAlarm (s.cfg.reporting == .continuous && after == .alarm)).toneIssueOpt
    (overspeedIssue s.cfg.reporting s.sdm.rearm before after)

/-- The hand-off of the fused speed record (R44): f is taken, then D and L, then the level. -/
def State.sdmHandOff (fused : Option Nat) (s : State) : State :=
  let d := displayedAfter s.mph s.cfg.standstill s.cfg.hysteresis s.sdm.displayed fused
  ({ s with sdm := { s.sdm with fused := fused, displayed := d, lit := litSegments s.cfg.arcScale d } } : State).evaluateOverspeed

/-- The publication of the displayed aspect values (R44): the copies, the markers, the target readout, the bar, the level. -/
def State.sdmLimits (limits : Limits) (s : State) : State :=
  ({ s with sdm := { s.sdm with
      limits := limits
      permittedMarker := markerAt s.mph s.cfg.arcScale limits.permitted
      targetMarker := markerAt s.mph s.cfg.arcScale limits.target
      targetReadout := limits.target.map (inDisplayUnit s.mph)
      bar := barSegments s.cfg.barScale limits.distance } } : State).evaluateOverspeed

end Sys2Proof.Machine
end

