-- ==== Sys2Proof/Machine/SpeedFusion.lean ====
section
/-! DEFINITION. The Speed Fusion Unit (chapter 2). -/

namespace Sys2Proof.Machine

open Sys2Proof

/-! ## Slots (R26 to R28) -/

/-- The greatest speed a slot stores (R27). -/
def speedCap : Nat := 40000

/-- A SPEED payload (R167) as a slot stores it (R27). -/
def storedSpeed (payload : List Byte) : SpeedReport :=
  let raw := (wordAt payload 0).toNat
  let quality := qualityOfCode (byteAt payload 3)
  { speed := min speedCap raw
    direction := directionOfCode (byteAt payload 2)
    quality := if speedCap < raw ∧ quality = .good then .degraded else quality }

/-- A slot after a publication (R26). -/
def Slot.published (slot : Slot) (after : EntryState) (payload : Option (List Byte)) : Slot :=
  match after, payload with
  | .valid, some p => { slot with state := after, report := some (storedSpeed p) }
  | .suspect, some p => { slot with state := after, report := some (storedSpeed p) }
  | .lost, _ => { slot with state := after, report := none }
  | _, _ => { slot with state := after }

/-- The entry states in which a source counts as present. -/
def EntryState.present : EntryState → Bool
  | .valid => true
  | .suspect => true
  | _ => false

/-- The effective quality of a held report (R28). -/
def effectiveQuality (state : EntryState) (quality : Quality) : Quality :=
  if state = .suspect ∧ quality = .good then .degraded else quality

/-- The report of a usable slot (R28). -/
def Slot.usable (slot : Slot) : Option SpeedReport :=
  match slot.report with
  | some r => if slot.state.present && r.quality != .invalid then some r else none
  | none => none

/-! ## The fused value (R31) -/

/-- A number put into its place in ascending order. -/
def placeNat (v : Nat) : List Nat → List Nat
  | [] => [v]
  | w :: rest => if v ≤ w then v :: w :: rest else w :: placeNat v rest

/-- The speeds in ascending order. -/
def ascending (l : List Nat) : List Nat := l.foldr placeNat []

/-- f, for the speeds of the usable slots in ascending order (R31). -/
def fuse (tolerance : Nat) (v : List Nat) : Option Nat :=
  match v with
  | [] => none
  | [v1] => some v1
  | [v1, v2] => some (if v2 - v1 ≤ tolerance then (v1 + v2 + 1) / 2 else v2)
  | [_, v2, _] => some v2
  | _ :: v2 :: v3 :: _ => some ((v2 + v3 + 1) / 2)

/-- The disagreement flag (R31). -/
def fuseDisagrees (tolerance : Nat) (v : List Nat) : Bool :=
  match v with
  | [v1, v2] => decide (tolerance < v2 - v1)
  | _ => false

/-- The usable slots of the four. -/
def Sfu.usableSlots (u : Sfu) : List Slot := u.slots.toList.filter (fun k => k.usable.isSome)

/-- Their reports. -/
def Sfu.reports (u : Sfu) : List SpeedReport := u.slots.toList.filterMap Slot.usable

/-- A usable slot has effective quality DEGRADED (R28, R33). -/
def Sfu.anyDegraded (u : Sfu) : Bool :=
  u.usableSlots.any (fun k => match k.report with
    | some r => effectiveQuality k.state r.quality == .degraded
    | none => false)

/-- The speed state (R33). -/
def speedStateOf (n : Nat) (degraded disagree : Bool) : SpeedState :=
  if n = 0 then .unknown else if n = 1 || degraded || disagree then .degraded else .good

/-- The number of reports with this direction. -/
def votes (d : Direction) (reports : List SpeedReport) : Nat := (reports.filter (fun r => r.direction == d)).length

/-- The direction (R34). -/
def directionOf (standstill : Nat) (reports : List SpeedReport) (fused : Option Nat) : Direction :=
  match fused with
  | none => .unknown
  | some f =>
    if votes .reverse reports < votes .forward reports then .forward
    else if votes .forward reports < votes .reverse reports then .reverse
    else if f < standstill then .standstill
    else .unknown

/-! ## Agreement checks (R35, R36) -/

/-- The count at which a record is raised (R35, R36). -/
def persistCount : Nat := 5

/-- A count that rises by 1 to at most 5 while its condition holds, and is 0 otherwise (R35, R36). -/
def persist (holds : Bool) (count : Nat) : Nat := if holds then min persistCount (count + 1) else 0

/-- The request a change of a count calls for (R35, R36). -/
def persistRequest (code : FaultCode) (before after : Nat) : List FaultRequest :=
  if before < persistCount ∧ after = persistCount then [.raise code .advisory]
  else if before = persistCount ∧ after = 0 then [.clear code]
  else []

/-- Whether a slot is an outlier in a computation that gives f with n usable slots (R35). -/
def Slot.isOutlier (slot : Slot) (tolerance n : Nat) (fused : Option Nat) : Bool :=
  match slot.usable, fused with
  | some r, some f => decide (3 ≤ n) && decide (tolerance < distance r.speed f)
  | _, _ => false

/-- The drive state of the SOURCE lamp (R40). -/
def SpeedState.lamp : SpeedState → Drive
  | .good => .off
  | .degraded => .steady
  | .unknown => .fast

/-! ## Computation (R30) -/

/-- The record and counts after one computation on the slots as they stand (R30 to R37). -/
def Sfu.computed (u : Sfu) (c : Configuration) : Sfu :=
  let reports := u.reports
  let v := ascending (reports.map (·.speed))
  let n := reports.length
  let fused := fuse c.tolerance v
  let disagree := fuseDisagrees c.tolerance v
  let state := speedStateOf n u.anyDegraded disagree
  { u with
    slots := Vector.ofFn (fun k =>
      let slot := u.slots.get k
      { slot with outliers := persist (slot.isOutlier c.tolerance n fused) slot.outliers })
    fused := fused
    usable := n
    speedState := state
    direction := directionOf c.standstill reports fused
    disagree := disagree
    disagreements := persist disagree u.disagreements
    noSpeedRaised :=
      if u.graceExpired then
        (if state = .unknown then u.noSpeedRaised || u.speedState != .unknown
         else u.noSpeedRaised && u.speedState != .unknown)
      else u.noSpeedRaised }

/-- The code of a slot's outlier record (R35). -/
def outlierCode (k : Fin 4) : FaultCode := 0xF020 + BitVec.ofNat 16 k.val

/-- The requests of a computation that leads from `u` to `v` (R35 to R37). -/
def Sfu.requestsTo (u v : Sfu) : List FaultRequest :=
  (List.finRange 4).flatMap (fun k => persistRequest (outlierCode k) (u.slots.get k).outliers (v.slots.get k).outliers) ++
  persistRequest 0xF010 u.disagreements v.disagreements ++
  (if u.graceExpired then
    (if v.speedState = .unknown ∧ u.speedState ≠ .unknown then [.raise 0xF030 .action]
     else if v.speedState ≠ .unknown ∧ u.speedState = .unknown ∧ u.noSpeedRaised = true then [.clear 0xF030]
     else [])
   else [])

/-- One computation (R30): the record, the SOURCE lamp (R40), the requests, then the hand-off to the SDM (R39; the order of
the last two: log 6). -/
def State.sfuCompute (s : State) : State :=
  let v := s.sfu.computed s.cfg
  let computed : State := { s with
    sfu := v, idr := { s.idr with lamps := { s.idr.lamps with source := v.speedState.lamp } } }
  (computed.requests (s.sfu.requestsTo v)).sdmHandOff v.fused

/-- A publication for slot `k` (R26, R30). -/
def State.sfuPublished (k : Fin 4) (after : EntryState) (payload : Option (List Byte)) (s : State) : State :=
  ({ s with sfu := { s.sfu with slots := s.sfu.slots.set k ((s.sfu.slots.get k).published after payload) } } : State).sfuCompute

/-- The SSV's grace notice at the SFU (R37). -/
def State.sfuGrace (s : State) : State :=
  let flagged : State := { s with sfu := { s.sfu with graceExpired := true } }
  if s.sfu.speedState = .unknown then
    ({ flagged with sfu := { flagged.sfu with noSpeedRaised := true } } : State).flmRaise 0xF030 .action
  else flagged

end Sys2Proof.Machine
end

