-- ==== Sys2Proof/Machine/Aspect.lean ====
section
/-! DEFINITION. The Aspect Unit (chapter 4). -/

namespace Sys2Proof.Machine

open Sys2Proof

/-- The fixed disagreement time (R65). -/
def disagreementMs : Nat := 2000
/-- The fixed interval between OVERDUE frames (R65). -/
def overdueRepeatMs : Nat := 1000
/-- The greatest speed an aspect report stores (R67). -/
def aspectSpeedCap : Nat := 400
/-- The greatest target distance an aspect report stores (R67). -/
def targetDistanceCap : Nat := 65000

/-! ## The two sources (R67 to R69) -/

/-- The aspect code of its byte; none for a value out of range (R67). -/
def aspectCodeOf (b : Byte) : Option (Fin 16) := if h : b.toNat < 16 then some ⟨b.toNat, h⟩ else none

/-- A field that is present when its bit is set, and stored at most at its cap (R67, R167). -/
def presentField (presence : Byte) (bit cap : Nat) (value : BitVec 16) : Option Nat :=
  if presence.getLsbD bit then some (min cap value.toNat) else none

/-- An ASPECT payload (R167) as a view holds it (R67). -/
def storedAspect (station : Nat) (payload : List Byte) : AspectReport :=
  let presence := byteAt payload 2
  { station := station
    inst := byteAt payload 0
    code := aspectCodeOf (byteAt payload 1)
    limits :=
      { permitted := presentField presence 0 aspectSpeedCap (wordAt payload 3)
        target := presentField presence 1 aspectSpeedCap (wordAt payload 5)
        distance := presentField presence 2 targetDistanceCap (wordAt payload 7) } }

/-- A source view after a publication (R67). -/
def SourceView.published (v : SourceView) (station : Nat) (after : EntryState) (payload : Option (List Byte)) :
    SourceView :=
  match after, payload with
  | .valid, some p => { state := after, report := some (storedAspect station p) }
  | .suspect, some p => { state := after, report := some (storedAspect station p) }
  | .lost, _ => { state := after, report := none }
  | _, _ => { v with state := after }

/-- The effective permitted speed (R69): the report's own, else the catalogue's default. -/
def effectivePermitted (own dflt : Option Nat) : Option Nat :=
  match own with
  | some v => some v
  | none => dflt

/-- What a usable view would display (R68, R69, R73); none for a view that is not usable. -/
def SourceView.usable (catalogue : Vector CatalogueEntry 16) (v : SourceView) : Option ShownAspect :=
  match v.report with
  | none => none
  | some r =>
    match r.code with
    | none => none
    | some c =>
      if v.state.present && (catalogue.get c).used then
        some { code := some c, rank := (catalogue.get c).rank, station := some r.station, inst := some r.inst,
               limits := { r.limits with permitted := effectivePermitted r.limits.permitted (catalogue.get c).defaultSpeed } }
      else none

/-! ## Selection (R70 to R73) -/

/-- The loss aspect as displayed (R72). -/
def lossAspect (own : Nat) (c : Configuration) : ShownAspect :=
  { code := some c.lossCode, rank := (c.catalogue.get c.lossCode).rank, station := some own, inst := some 0,
    limits := Limits.absent }

/-- What a reselection displays (R70). -/
def selectAspect (own : Nat) (c : Configuration) (grace : Bool) (primary secondary : Option ShownAspect) : ShownAspect :=
  match primary, secondary with
  | some p, none => p
  | none, some q => q
  | some p, some q => if p.rank < q.rank then q else p
  | none, none => if grace then lossAspect own c else ShownAspect.nothing

/-- Both inputs are usable and their codes differ (R74). -/
def codesDiffer (primary secondary : Option ShownAspect) : Bool :=
  match primary, secondary with
  | some p, some q => p.code != q.code
  | _, _ => false

/-! ## The pending acknowledgement record (R76 to R78) -/

/-- The record opened or restarted for a displayed aspect at a moment. -/
def PendingAck.opened (shown : ShownAspect) (now : Time) : PendingAck :=
  { station := shown.station.getD 0, inst := shown.inst.getD 0, rank := shown.rank, overdue := false, openedAt := now }

/-- Whether a reselection from `old` to `new` opens the record (R77) or restarts it (R78). -/
def opensRecord (old new : ShownAspect) (record : Option PendingAck) : Bool :=
  old.code != new.code &&
    (match record with
     | none => decide (old.rank < new.rank)
     | some r => decide (r.rank < new.rank))

/-- The time overdue an OVERDUE frame carries (R80): whole steps of 100 ms since the acknowledgement timer expired, at most
255. -/
def timeOverdue (now openedAt : Time) (ackMs : Nat) : Nat := min 255 ((now - openedAt - ms ackMs) / ms 100)

/-! ## Indications (R84, R85) -/

/-- The drive states of LA1 to LA8 (R84). -/
def aspectLamps (catalogue : Vector CatalogueEntry 16) (code : Option (Fin 16)) (recordOpen : Bool) : Vector Drive 8 :=
  match code with
  | none => Vector.replicate 8 .off
  | some c =>
    Vector.ofFn (fun k =>
      let d := (catalogue.get c).lamps.get k
      if recordOpen && d != .off then .fast else d)

/-- ASPECT_RESTRICT is asserted (R85). -/
def Asu.restricts (a : Asu) : Bool :=
  match a.pendingAck with
  | some r => !r.overdue
  | none => false

/-- OVERDUE is asserted (R85). -/
def Asu.isOverdue (a : Asu) : Bool :=
  match a.pendingAck with
  | some r => r.overdue
  | none => false

/-- The ASU hands its lamp states and its two continuous requests (R75, R84, R85). -/
def State.asuIndicate (s : State) : State :=
  let lit : State := { s with idr := { s.idr with lamps := { s.idr.lamps with
    aspect := aspectLamps s.cfg.catalogue s.asu.shown.code s.asu.pendingAck.isSome } } }
  (lit.toneHold .aspectRestrict s.asu.restricts).toneHold .overdue s.asu.isOverdue

/-! ## Reselection (R70) -/

/-- The ASU after a reselection (R70, R72 to R74, R77, R78). -/
def Asu.reselected (a : Asu) (own : Nat) (c : Configuration) (now : Time) : Asu :=
  let p := a.primary.usable c.catalogue
  let q := a.secondary.usable c.catalogue
  let new := selectAspect own c a.graceExpired p q
  let opens := opensRecord a.shown new a.pendingAck
  let differ := codesDiffer p q
  { a with
    shown := new
    pendingAck := if opens then some (PendingAck.opened new now) else a.pendingAck
    ackAt := if opens then some (now + ms c.ackMs) else a.ackAt
    repeatAt := if opens then none else a.repeatAt
    disagreeAt :=
      if differ then
        (match a.disagreeAt with
         | some t => some t
         | none => if a.disagreeRaised then none else some (now + ms disagreementMs))
      else none
    disagreeRaised := a.disagreeRaised && differ
    lossRaised :=
      if p.isSome || q.isSome then false else a.lossRaised || a.graceExpired }

/-- The requests of a reselection from `a` to `b` (R72, R74). -/
def Asu.requestsTo (a b : Asu) : List FaultRequest :=
  (if a.disagreeRaised && !b.disagreeRaised then [.clear 0xF040] else []) ++
  (if !a.lossRaised && b.lossRaised then [.raise 0xF041 .stop]
   else if a.lossRaised && !b.lossRaised then [.clear 0xF041]
   else [])

/-- A reselection (R70): the record, the requests, then the hand-offs of R75 (order: log 6). -/
def State.reselect (s : State) : State :=
  let b := s.asu.reselected s.own s.cfg s.now
  let chosen : State := { s with asu := b }
  let asked := chosen.requests (s.asu.requestsTo b)
  let told := if b.shown.limits = s.asu.shown.limits then asked else asked.sdmLimits b.shown.limits
  told.asuIndicate

/-- The two aspect inputs (R67). -/
def State.asuPublished (secondary : Bool) (station : Nat) (after : EntryState) (payload : Option (List Byte)) (s : State) :
    State :=
  (if secondary then
    ({ s with asu := { s.asu with secondary := s.asu.secondary.published station after payload } } : State)
  else { s with asu := { s.asu with primary := s.asu.primary.published station after payload } }).reselect

/-- The SSV's grace notice at the ASU (R71). -/
def State.asuGrace (s : State) : State :=
  ({ s with asu := { s.asu with graceExpired := true } } : State).reselect

/-! ## Timers, presses, acknowledgements, role notices (R74, R79 to R82) -/

/-- The expiry of the disagreement timer (R74). -/
def State.disagreementExpiry (s : State) : State :=
  ({ s with asu := { s.asu with disagreeAt := none, disagreeRaised := true } } : State).flmRaise 0xF040 .advisory

/-- The record is closed: no record, both timers stopped, the requests withdrawn, the lamps at their pattern (R81). -/
def State.closeRecord (s : State) : State :=
  ({ s with asu := { s.asu with pendingAck := none, ackAt := none, repeatAt := none } } : State).asuIndicate

/-- An OVERDUE frame for the record, with a time overdue, and the repeat timer started (R79, R80). -/
def State.announceOverdue (r : PendingAck) (time : Nat) (s : State) : State :=
  ({ s with asu := { s.asu with repeatAt := s.inMs overdueRepeatMs } } : State).handFrame (.overdue r.station r.inst time)

/-- The expiry of the acknowledgement timer (R79). -/
def State.acknowledgementExpiry (s : State) : State :=
  match s.asu.pendingAck with
  | none => { s with asu := { s.asu with ackAt := none } }
  | some r =>
    let late := ({ s with asu := { s.asu with pendingAck := some { r with overdue := true }, ackAt := none } } : State).asuIndicate
    if s.cru.role = .active then late.announceOverdue r 0 else late

/-- The expiry of the overdue repeat timer (R80). -/
def State.repeatExpiry (s : State) : State :=
  let stopped : State := { s with asu := { s.asu with repeatAt := none } }
  match s.asu.pendingAck with
  | none => stopped
  | some r =>
    if r.overdue && s.cru.role == .active then
      stopped.announceOverdue r (timeOverdue s.now r.openedAt s.cfg.ackMs)
    else stopped

/-- The notice that the role leaves ACTIVE (R80). -/
def State.asuLeavesActive (s : State) : State := { s with asu := { s.asu with repeatAt := none } }

/-- The notice that the role enters ACTIVE (R80). -/
def State.asuEntersActive (s : State) : State :=
  match s.asu.pendingAck with
  | none => s
  | some r => if r.overdue then s.announceOverdue r (timeOverdue s.now r.openedAt s.cfg.ackMs) else s

/-- An acknowledge press routed to the ASU (R81). -/
def State.asuPress (s : State) : State :=
  match s.asu.pendingAck with
  | none => s
  | some r => if s.cru.role = .active then s.closeRecord.handFrame (.acknAspect r.station r.inst) else s

/-- A peer's ASPECT acknowledgement (R82): the match is exact. -/
def State.asuPeerAckn (station : Nat) (inst : InstanceNo) (s : State) : State :=
  match s.asu.pendingAck with
  | none => s
  | some r => if r.station = station ∧ r.inst = inst then s.closeRecord else s

end Sys2Proof.Machine
end

