-- ==== Sys2Proof/Machine/CabRole.lean ====
section
/-! DEFINITION. The Cab Role Unit (chapter 6). -/

namespace Sys2Proof.Machine

open Sys2Proof

/-! ## The peers (R115) -/

/-- A DESK payload (R167) as a peer view holds it: role code and key state. -/
def heldRoleOf (payload : List Byte) : HeldRole :=
  { roleCode := byteAt payload 0, keyOn := (byteAt payload 1).getLsbD 0 }

/-- A peer view after a publication (R115). -/
def PeerView.published (v : PeerView) (after : EntryState) (payload : Option (List Byte)) : PeerView :=
  match after, payload with
  | .valid, some p => { state := after, held := some (heldRoleOf p) }
  | .suspect, some p => { state := after, held := some (heldRoleOf p) }
  | .valid, none => { v with state := after }
  | .suspect, none => { v with state := after }
  | _, _ => { state := after, held := none }

/-- The counted role of a peer (R115). -/
def PeerView.counted (v : PeerView) : Role :=
  match v.held with
  | some h => if v.state.present then roleOfCode h.roleCode else .idle
  | none => .idle

/-- The peer holds a claim (R115). -/
def PeerView.claims (v : PeerView) : Bool :=
  match v.counted, v.held with
  | .claiming, _ => true
  | .active, _ => true
  | .conflict, some h => h.keyOn
  | _, _ => false

/-- Some peer passes the test. -/
def Cru.anyPeer (c : Cru) (test : PeerView → Bool) : Bool := c.peers.toList.any test

/-! ## The decision (R117 to R122) -/

/-- The role after an evaluation. `expiry` marks the evaluation of the claim-window timer's expiry (R120). -/
def Cru.nextRole (c : Cru) (expiry : Bool) : Role :=
  if c.keyOn then
    match c.role with
    | .idle => if c.anyPeer PeerView.claims then .conflict else .claiming
    | .mirror => if c.anyPeer PeerView.claims then .conflict else .claiming
    | .claiming =>
      if c.anyPeer (fun v => v.counted == .claiming || v.counted == .active) then .conflict
      else if expiry then .active else .claiming
    | .active => if c.anyPeer (fun v => v.counted == .active) then .conflict else .active
    | .conflict =>
      if c.anyPeer (fun v => v.counted != .idle && v.counted != .mirror) then .conflict else .claiming
  else if c.anyPeer (fun v => v.counted == .active) then .mirror
  else .idle

/-- The drive state of the CAB lamp (R129). -/
def Role.lamp : Role → Drive
  | .claiming => .slow
  | .active => .steady
  | .conflict => .fast
  | _ => .off

/-! ## DESK frames (R124, R125) -/

/-- What a reader of the FLM sees (R112): the first record, the count, the overflow flag. -/
structure FlmView where
  top      : Option RecordName
  count    : Nat
  overflow : Bool
  deriving DecidableEq, Repr

def Flm.view (f : Flm) : FlmView :=
  { top := f.records.head?.map (fun r => { origin := r.origin, code := r.code })
    count := f.records.length
    overflow := f.overflow }

/-- The content of a DESK frame handed now (R125), with the FLM read as `v`. -/
def State.deskContent (s : State) (v : FlmView) : DeskContent :=
  { role := s.cru.role
    keyOn := s.cru.keyOn
    cabEndB := s.cabEndB
    displayed := s.sdm.displayed
    speedState := s.sfu.speedState
    level := s.sdm.level
    code := s.asu.shown.code
    pendingAck := s.asu.pendingAck.map (fun r => { station := r.station, inst := r.inst, overdue := r.overdue })
    top := v.top
    count := v.count
    overflow := v.overflow
    fallback := s.cfl.fallback }

/-- The reading of the FLM among three moments of one event: where they differ, the manual leaves the choice open and it is
the free value (R125, R127, R187; log 7). -/
def State.deskReading (s : State) (before between after : FlmView) : FlmView :=
  if before = after ∧ between = after then after
  else if Config.deskReading s.freeIndex = 0 then before
  else if Config.deskReading s.freeIndex = 1 then between
  else after

/-- The expiry of the DESK period timer that is still to be taken when the timer is started again at a moment (R124, log 29): one
that waited before, or that of the timer itself where it has run to its end. -/
def Cru.dueAt (c : Cru) (now : Time) : Option Time := c.deskDue.or (c.deskAt.filter (fun e => decide (e ≤ now)))

/-- The end to which the next expiry of the DESK period timer belongs: that of an expiry still to be taken, else the timer's. -/
def Cru.periodEnd (c : Cru) : Option Time := c.deskDue.or c.deskAt

/-- A DESK frame handed to the LIF, and the DESK period timer started again for a full period (R124). An expiry that has come
together with this event is not lost: it is taken second. The three views are those of the FLM in the event that hands the
frame. -/
def State.handDesk (before between after : FlmView) (s : State) : State :=
  ({ s with
    cru := { s.cru with deskAt := s.inMs s.cfg.deskPeriodMs, deskDue := s.cru.dueAt s.now }
    freeIndex := s.freeIndex + 1 } : State).handFrame (.desk (s.deskContent (s.deskReading before between after)))

/-- The expiry of the DESK period timer (R124): with it no expiry is left to be taken. -/
def State.deskPeriod (s : State) : State :=
  ({ s with cru := { s.cru with deskAt := none, deskDue := none } } : State).handDesk s.flm.view s.flm.view s.flm.view

/-! ## The change of role (R127 to R130) -/

/-- The new role, its claim-window timer, its lamp and its tone request (R118 to R120, R129). -/
def State.takeRole (role : Role) (s : State) : State :=
  ({ s with
    cru := { s.cru with role := role, claimAt := if role = .claiming then s.inMs s.cfg.claimMs else none }
    idr := { s.idr with lamps := { s.idr.lamps with cab := role.lamp } } } : State).toneHold .cabConflict (role == .conflict)

/-- What a change of role does outside the Fault List (R127): the IDR, the notice to the ASU, the pruning. -/
def State.enterRole (role : Role) (s : State) : State :=
  let taken := s.takeRole role
  if role = .active then taken.asuEntersActive
  else if s.cru.role = .active then taken.asuLeavesActive.pruneQueue
  else taken

/-- The record 0xF050 at a change of role from `old` (R130). -/
def State.conflictRecord (old : Role) (s : State) : State :=
  if s.cru.role = .conflict then s.flmRaise 0xF050 .stop
  else if old = .conflict then s.flmClear 0xF050
  else s

/-- The role is ACTIVE and some peer's counted role is CONFLICT (R130). -/
def Cru.seesConflict (c : Cru) : Bool := c.role == .active && c.anyPeer (fun v => v.counted == .conflict)

/-- The test for the record 0xF051 at the end of an evaluation (R130). -/
def State.peerConflictTest (s : State) : State :=
  let sees := s.cru.seesConflict
  if sees = s.cru.peerConflictRaised then s
  else
    let flagged : State := { s with cru := { s.cru with peerConflictRaised := sees } }
    if sees then flagged.flmRaise 0xF051 .advisory else flagged.flmClear 0xF051

/-- One evaluation (R117), with the DESK frame of a change of role (R124). -/
def State.evaluateRole (expiry : Bool) (s : State) : State :=
  let role := s.cru.nextRole expiry
  if role = s.cru.role then s.peerConflictTest
  else
    let entered := s.enterRole role
    let marked := entered.conflictRecord s.cru.role
    let tested := marked.peerConflictTest
    tested.handDesk entered.flm.view marked.flm.view tested.flm.view

/-- The first evaluation, at the move to RUNNING (R131), with the record of the fallback (R186) and the first DESK frame. -/
def State.firstEvaluation (s : State) : State :=
  let keyed : State := { s with cru := { s.cru with keyOn := s.diu.key.taken } }
  let role := keyed.cru.nextRole false
  let entered := if role = s.cru.role then keyed else keyed.enterRole role
  let tested := (if role = s.cru.role then entered else entered.conflictRecord s.cru.role).peerConflictTest
  let raised := if s.cfl.fallback then tested.flmRaise 0xF060 .stop else tested
  raised.handDesk entered.flm.view tested.flm.view raised.flm.view

/-- A publication for peer desk slot `k` (R115). -/
def State.cruPublished (k : Fin 3) (after : EntryState) (payload : Option (List Byte)) (s : State) : State :=
  ({ s with cru := { s.cru with peers := s.cru.peers.set k ((s.cru.peers.get k).published after payload) } } : State).evaluateRole
    false

/-- A key change handed by the DIU (R116). -/
def State.cruKey (on : Bool) (s : State) : State :=
  ({ s with cru := { s.cru with keyOn := on } } : State).evaluateRole false

/-- The expiry of the claim-window timer (R120). -/
def State.claimExpiry (s : State) : State :=
  ({ s with cru := { s.cru with claimAt := none } } : State).evaluateRole true

end Sys2Proof.Machine
end

