-- ==== Sys2Proof/Machine/Desk.lean ====
section
/-! DEFINITION. The Desk Input Unit (chapter 7). -/

namespace Sys2Proof.Machine

open Sys2Proof

/-! ## Debouncing (R132 to R135) -/

/-- The stability interval of a button in milliseconds (R132). -/
def buttonMs : Nat := 30
/-- The stability interval of the cab key (R132). -/
def keyMs : Nat := 50
/-- The stability interval of the dimmer (R132). -/
def dimmerMs : Nat := 100

/-- The interval in progress for a level against the state taken: started now where they differ, none where they agree or
where the part is held in reset (R133, R136). -/
def intervalFrom (debouncing differs : Bool) (now : Time) (lengthMs : Nat) : Option Time :=
  if debouncing && differs then some (now + ms lengthMs) else none

/-- A change of level at a contact (R133). The level it already has is no change. -/
def Contact.change (c : Contact) (debouncing : Bool) (now : Time) (lengthMs : Nat) (level : Bool) : Contact :=
  if level = c.level then c
  else { c with level := level, endsAt := intervalFrom debouncing (level != c.taken) now lengthMs }

/-- A change of the dimmer code (R135): a third code starts a new interval. -/
def DimmerInput.change (d : DimmerInput) (debouncing : Bool) (now : Time) (code : BitVec 3) : DimmerInput :=
  if code = d.level then d
  else { d with level := code, endsAt := intervalFrom debouncing (code != d.taken) now dimmerMs }

/-- The end of the interval in which the contact has held the level `level` against the opposite state taken, if such an
interval is in progress: the moment a change to `level` is taken (R133). -/
def Contact.due (c : Contact) (level : Bool) : Option Time :=
  if c.level = level ∧ c.taken ≠ level then c.endsAt else none

/-- The new state taken at the end of the interval. -/
def Contact.take (c : Contact) : Contact := { c with taken := c.level, endsAt := none }

/-- The new code taken at the end of the interval. -/
def DimmerInput.take (d : DimmerInput) : DimmerInput := { d with taken := d.level, endsAt := none }

/-- The inputs are debounced: from the release of reset (R136). -/
def State.debouncing (s : State) : Bool := s.cfl.start != .sampling

/-- How the level of BACK, BSCRL, BTEST or KEYON reads (R132): low is the active level, pressed or key on. -/
def activeLow (high : Bool) : Bool := !high

/-- The dimmer code with the level of the line DIM`k` in its place (R132): DIM0 is the least significant bit. DESIGN CHOICE
(log 30): R132 gives no polarity; a line at the high level is a 1. -/
def withDimLine (code : BitVec 3) (k : Nat) (high : Bool) : BitVec 3 :=
  if high then code ||| (1#3 <<< k) else code &&& ~~~(1#3 <<< k)

/-- A level change at one of the input pins (R132 to R135). -/
def State.inputChange (level : InputLevel) (s : State) : State :=
  let d := s.diu
  let on := s.debouncing
  { s with diu :=
    match level with
    | .back high => { d with acknowledge := d.acknowledge.change on s.now buttonMs (activeLow high) }
    | .bscrl high => { d with scroll := d.scroll.change on s.now buttonMs (activeLow high) }
    | .btest high => { d with test := d.test.change on s.now buttonMs (activeLow high) }
    | .keyon high => { d with key := d.key.change on s.now keyMs (activeLow high) }
    | .dim0 high => { d with dimmer := d.dimmer.change on s.now (withDimLine d.dimmer.level 0 high) }
    | .dim1 high => { d with dimmer := d.dimmer.change on s.now (withDimLine d.dimmer.level 1 high) }
    | .dim2 high => { d with dimmer := d.dimmer.change on s.now (withDimLine d.dimmer.level 2 high) } }

/-- The inputs at the release of reset: an input that differs from its reset state starts its interval (R145). -/
def debouncedFrom (d : Diu) (now : Time) : Diu :=
  let begin (c : Contact) (lengthMs : Nat) : Contact :=
    { c with endsAt := intervalFrom true (c.level != c.taken) now lengthMs }
  { d with
    acknowledge := begin d.acknowledge buttonMs
    scroll := begin d.scroll buttonMs
    test := begin d.test buttonMs
    key := begin d.key keyMs
    dimmer := { d.dimmer with endsAt := intervalFrom true (d.dimmer.level != d.dimmer.taken) now dimmerMs } }

/-! ## The fault window (R139 to R141) -/

/-- The record the window shows (R139, R156). -/
def shownRecord (f : Flm) (window : Option RecordName) : Option FaultRecord :=
  match window with
  | none => f.records.head?
  | some n => (f.find n.origin n.code).or f.records.head?

/-- The record that follows a named one in display order. -/
def recordAfter (n : RecordName) : List FaultRecord → Option FaultRecord
  | [] => none
  | r :: rest => if r.is n.origin n.code then rest.head? else recordAfter n rest

/-- The record a scroll press moves to (R140). -/
def scrolledTo (f : Flm) (window : Option RecordName) : Option FaultRecord :=
  match window with
  | none => (f.records[1]?).or f.records.head?
  | some n => (recordAfter n f.records).or f.records.head?

/-- A scroll press (R140): the next record is selected and the scroll-return timer started or restarted. -/
def State.scrollWindow (s : State) : State :=
  match scrolledTo s.flm s.diu.window with
  | none => { s with diu := { s.diu with window := none } }
  | some r =>
    { s with diu := { s.diu with
      window := some { origin := r.origin, code := r.code }
      scrollAt := s.inMs (1000 * s.cfg.scrollReturnS) } }

/-- The expiry of the scroll-return timer (R141). -/
def State.scrollReturns (s : State) : State := { s with diu := { s.diu with window := none, scrollAt := none } }

/-! ## The acknowledge press (R101, R137, R138) -/

/-- A press routed to the FLM (R101): it changes an unacknowledged record and queues an ACKN, in ACTIVE only. -/
def State.flmPress (origin : Nat) (code : FaultCode) (s : State) : State :=
  match s.flm.find origin code with
  | none => s
  | some r =>
    if s.cru.role = .active ∧ r.state ≠ .raisedAck then
      (s.flmAcknowledge (FaultRecord.is origin code)).handFrame (.acknFault origin code)
    else s

/-- The route of an acknowledge press (the four cases of R137), none for a press that is ignored or has no effect. -/
def State.pressRoute (s : State) : Option PressRoute :=
  if s.cru.role = .active then
    if s.asu.pendingAck.isSome then some .toAsu
    else
      match shownRecord s.flm s.diu.window with
      | some r => if r.state = .raisedAck then none else some (.toFlm { origin := r.origin, code := r.code })
      | none => none
  else none

/-- A routed press at its receiving block (R81, R101, R137). -/
def State.receivePress (route : PressRoute) (s : State) : State :=
  match route with
  | .toAsu => s.asuPress
  | .toFlm n => s.flmPress n.origin n.code

/-- The receiving block takes the press that is on its way, if there is one (R137). -/
def State.takeRoutedPress (s : State) : State :=
  match s.routed with
  | some p => ({ s with routed := none } : State).receivePress p.route
  | none => s

/-- The DIU takes an acknowledge press and routes it (R133, R136, R137); before RUNNING a press has no effect. A press routed
before is taken by its receiver first (log 27). -/
def State.routeAckPress (s : State) : State :=
  let before := s.takeRoutedPress
  let taken : State := { before with diu := { before.diu with acknowledge := before.diu.acknowledge.take } }
  if taken.running then
    { taken with routed := taken.pressRoute.map (fun r => { route := r, at0 := taken.now }) }
  else taken

/-- An acknowledge press routed and taken, nothing between the two. -/
def State.takeAckPress (s : State) : State := s.routeAckPress.takeRoutedPress

/-- A scroll press taken. -/
def State.takeScrollPress (s : State) : State :=
  let taken : State := { s with diu := { s.diu with scroll := s.diu.scroll.take } }
  if s.running then taken.scrollWindow else taken

/-- A press or release of the test button taken (R136, R144): in STRAP_FAULT it has no effect. -/
def State.takeTest (s : State) : State :=
  { s with diu := { s.diu with
    test := s.diu.test.take
    testHeld := if s.cfl.start = .strapFault then s.diu.testHeld else s.diu.test.level } }

/-- A key change taken (R134, R136): in RUNNING it is handed to the CRU. -/
def State.takeKey (s : State) : State :=
  let taken : State := { s with diu := { s.diu with key := s.diu.key.take } }
  if s.running then taken.cruKey taken.diu.key.taken else taken

/-- A dimmer code taken (R135, R136, R150): handed to the IDR, but in STRAP_FAULT without effect (log 19). -/
def State.takeDimmer (s : State) : State :=
  { s with
    diu := { s.diu with dimmer := s.diu.dimmer.take }
    idr := { s.idr with
      brightness := if s.cfl.start = .strapFault then s.idr.brightness else s.diu.dimmer.level } }

end Sys2Proof.Machine
end

