-- ==== Sys2Proof/Machine/StartUp.lean ====
section
/-! DEFINITION. The Configuration Loader: reset, its release, the end of the load, the move to RUNNING (chapter 10); and the
flash generators, which start there (R146). -/

namespace Sys2Proof.Machine

open Sys2Proof

/-- The time of the lamp check (R187). -/
def lampCheckMs : Nat := 1000

/-- A reset input goes low (R179, R188). -/
def State.holdReset (source : ResetSource) (s : State) : State :=
  let r := s.resetBlocks
  match source with
  | .supok => { r with supokHigh := false }
  | .rstn => { r with rstnHigh := false }

/-- The release of reset (R179): the straps are sampled; LOADING, or STRAP_FAULT for station 0. The load begins with its bus
clear (R181), and the inputs are debounced from here (R136). -/
def State.release (straps : Straps) (s : State) : State :=
  if s.cfl.start = .sampling then
    { s with
      supokHigh := true
      rstnHigh := true
      cfl := { s.cfl with
        straps := some straps
        start := if straps.station = 0 then .strapFault else .loading
        busReleased := straps.station == 0 }
      diu := debouncedFrom s.diu s.now }
  else s

/-- The end of the load (R181, R187): the configuration, LAMP_CHECK with its timer, START_CHIRP. -/
def State.endLoad (memory : MemoryAnswer) (s : State) : State :=
  if s.cfl.start = .loading then
    ({ s with cfl := { s.cfl with
      start := .lampCheck
      config := some (loadedConfiguration s.own memory)
      fallback := !memory.imageTaken
      lampCheckAt := s.inMs lampCheckMs
      busReleased := true } } : State).toneIssue .startChirp
  else s

/-- The length of a generator's phase (R146): its on-time, or its period less the on-time; both are in steps of 10 ms. -/
def FlashPhase.length (f : FlashConfig) (lit : Bool) : Time := ms (10 * (if lit then f.onTime else f.period - f.onTime))

/-- A generator at the beginning of its on-phase. -/
def FlashPhase.start (f : FlashConfig) (now : Time) : FlashPhase :=
  { lit := true, endsAt := now + FlashPhase.length f true }

/-- A generator turned to its other phase, which begins where the last one ended (R146). -/
def FlashPhase.turned (p : FlashPhase) (f : FlashConfig) : FlashPhase :=
  { lit := !p.lit, endsAt := p.endsAt + FlashPhase.length f (!p.lit) }

/-- The move to RUNNING (R187): the grace timer, the flash generators, the run-time count; the role gates the tones from here
(R158); then the CRU's first evaluation, the record of the fallback and the first DESK frame. -/
def State.run (s : State) : State :=
  if s.cfl.start = .lampCheck then
    ({ s with
      cfl := { s.cfl with start := .running, lampCheckAt := none, runningSince := some s.now }
      ssv := { s.ssv with graceAt := s.inMs s.cfg.graceMs }
      idr := { s.idr with
        f1 := some (FlashPhase.start s.cfg.f1 s.now)
        f2 := some (FlashPhase.start s.cfg.f2 s.now) } } : State).toneRechoose.firstEvaluation
  else s

/-- The end of a phase of a generator (R146). A stopped generator has no phase. -/
def State.turnFlash (g : Generator) (s : State) : State :=
  match g with
  | .f1 => { s with idr := { s.idr with f1 := s.idr.f1.map (fun p => p.turned s.cfg.f1) } }
  | .f2 => { s with idr := { s.idr with f2 := s.idr.f2.map (fun p => p.turned s.cfg.f2) } }

/-- The generator's phase. -/
def State.flash (s : State) (g : Generator) : Option FlashPhase :=
  match g with
  | .f1 => s.idr.f1
  | .f2 => s.idr.f2

end Sys2Proof.Machine
end

