-- ==== Sys2Proof/Machine/DeskCommands.lean ====
section
/-! DEFINITION. The meanings of the desk family: input levels, presses and releases, key, dimmer, the fault window's timer; and
of the indication family: flash phases and the end of a one-shot. -/

namespace Sys2Proof.Machine

open Sys2Proof

/-- INPUT_LEVEL_CHANGE (R132, R133). -/
def execInputLevelChange (t : Time) (level : InputLevel) (s : State) : Host.Outcome State Fault Refusal :=
  .next ((s.reach t).inputChange level)

/-- ACKNOWLEDGE_PRESS (R137, R138): the press routed and taken in succession, or one of the two alone. -/
def execAcknowledgePress (s : State) (part : PressPart := .whole) : Host.Outcome State Fault Refusal :=
  .next (match part with
    | .whole => s.onExpiry (s.diu.acknowledge.due true) State.takeAckPress
    | .routing => s.onExpiry (s.diu.acknowledge.due true) State.routeAckPress
    | .taking => s.takeRoutedPress)

/-- SCROLL_PRESS (R140). -/
def execScrollPress (s : State) : Host.Outcome State Fault Refusal :=
  .next (s.onExpiry (s.diu.scroll.due true) State.takeScrollPress)

/-- BUTTON_RELEASE (R133): the release is taken and has no effect. -/
def execButtonRelease (button : PressButton) (s : State) : Host.Outcome State Fault Refusal :=
  .next (match button with
    | .acknowledge => s.onExpiry (s.diu.acknowledge.due false)
        (fun r => { r with diu := { r.diu with acknowledge := r.diu.acknowledge.take } })
    | .scroll => s.onExpiry (s.diu.scroll.due false)
        (fun r => { r with diu := { r.diu with scroll := r.diu.scroll.take } }))

/-- TEST_PRESS (R144). -/
def execTestPress (s : State) : Host.Outcome State Fault Refusal :=
  .next (s.onExpiry (s.diu.test.due true) State.takeTest)

/-- TEST_RELEASE (R144). -/
def execTestRelease (s : State) : Host.Outcome State Fault Refusal :=
  .next (s.onExpiry (s.diu.test.due false) State.takeTest)

/-- KEY_CHANGE (R134). -/
def execKeyChange (s : State) : Host.Outcome State Fault Refusal :=
  .next (s.onExpiry s.diu.key.endsAt State.takeKey)

/-- DIMMER_CHANGE (R135). -/
def execDimmerChange (s : State) : Host.Outcome State Fault Refusal :=
  .next (s.onExpiry s.diu.dimmer.endsAt State.takeDimmer)

/-- SCROLL_RETURN_EXPIRY (R141). -/
def execScrollReturnExpiry (s : State) : Host.Outcome State Fault Refusal :=
  .next (s.onExpiry s.diu.scrollAt State.scrollReturns)

/-- FLASH_PHASE_END (R146). -/
def execFlashPhaseEnd (generator : Generator) (s : State) : Host.Outcome State Fault Refusal :=
  .next (s.onExpiry ((s.flash generator).map (·.endsAt)) (State.turnFlash generator))

/-- ONE_SHOT_END (R159). -/
def execOneShotEnd (s : State) : Host.Outcome State Fault Refusal :=
  .next (s.onExpiry (s.idr.arbiter.oneShot.map (·.endsAt)) State.toneEnd)

end Sys2Proof.Machine
end

