-- ==== Sys2Proof/Machine/Supervisor.lean ====
section
/-! DEFINITION. The Source Supervisor (chapter 1). -/

namespace Sys2Proof.Machine

open Sys2Proof

/-! ## One entry -/

/-- The early check is on (R5). -/
def earlyCheck (c : SourceConfig) : Bool := decide (0 < c.lowerMs) && decide (c.lowerMs < c.upperMs)

/-- The arrival is early (R8): it is less than the lower bound after the last accepted one. -/
def Entry.early (e : Entry) (c : SourceConfig) (now : Time) : Bool :=
  match e.lastAccepted with
  | some t => earlyCheck c && decide (now - t < ms c.lowerMs)
  | none => false

/-- The arrival is a duplicate (R7). -/
def Entry.duplicate (e : Entry) (seq : Seq) : Bool := e.lastSeq == some seq

/-- The accepted arrival is a gap violation (R9). -/
def Entry.gap (e : Entry) (seq : Seq) : Bool :=
  match e.lastSeq with
  | some q => seq != q + 1
  | none => false

/-- What an event at an entry gives: the entry after it, whether its arrival was used (R10), whether a loss report is made
(R21), whether the loss record is to be cleared (R22). -/
structure EntryResult where
  entry  : Entry
  used   : Bool
  report : Bool
  clear  : Bool
  deriving DecidableEq, Repr

/-- Nothing but the entry. -/
def Entry.only (e : Entry) : EntryResult := { entry := e, used := false, report := false, clear := false }

/-- The entry in LOST (R18); the loss-reported flag is set where a report is made (R21). -/
def Entry.lose (e : Entry) (report : Bool) : EntryResult :=
  { entry := { state := .lost, lastSeq := none, lastAccepted := none, violations := 0, progress := 0,
               lossReported := e.lossReported || report, lateAt := none }
    used := false, report := report, clear := false }

/-- A violation in VALID or SUSPECT (R15). -/
def Entry.violate (e : Entry) (c : SourceConfig) (used : Bool) : EntryResult :=
  if e.violations + 1 = c.lossLimit then e.lose true
  else { entry := { e with state := .suspect, violations := e.violations + 1 }, used := used, report := false, clear := false }

/-- The qualifying progress reaches a number: VALID at the qualifying count, with the loss record cleared if it was reported
(R11, R13, R19, R22). -/
def Entry.qualify (e : Entry) (c : SourceConfig) (progress : Nat) : EntryResult :=
  if progress = c.qualCount then
    { entry := { e with state := .valid, progress := progress, violations := 0, lossReported := false }
      used := true, report := false, clear := e.lossReported }
  else Entry.only { e with state := .qualifying, progress := progress }

/-- What every accepted arrival does (R9): late timer, time of last accepted arrival, last sequence. -/
def Entry.accept (e : Entry) (c : SourceConfig) (now : Time) (seq : Seq) : Entry :=
  { e with lateAt := some (now + ms c.upperMs), lastAccepted := some now, lastSeq := some seq }

/-- An accepted arrival, by the entry's state (R11, R13, R15, R16, R19). -/
def Entry.accepted (e : Entry) (c : SourceConfig) (now : Time) (seq : Seq) : EntryResult :=
  let a := e.accept c now seq
  match e.state with
  | .absent => a.qualify c 1
  | .lost => a.qualify c 1
  | .qualifying => if e.gap seq then Entry.only { a with progress := 0 } else a.qualify c (e.progress + 1)
  | .valid =>
    if e.gap seq then a.violate c true else { entry := a, used := true, report := false, clear := false }
  | .suspect =>
    if e.gap seq then a.violate c true
    else { entry := { a with state := .valid, violations := 0 }, used := true, report := false, clear := false }

/-- An early arrival, by the entry's state (R8). -/
def Entry.tooEarly (e : Entry) (c : SourceConfig) : EntryResult :=
  match e.state with
  | .qualifying => Entry.only { e with progress := 0 }
  | .valid => e.violate c false
  | .suspect => e.violate c false
  | _ => Entry.only e

/-- An arrival: the duplicate test, the early test, the acceptance (R7 to R9). -/
def Entry.arrive (e : Entry) (c : SourceConfig) (now : Time) (seq : Seq) : EntryResult :=
  if e.duplicate seq then Entry.only e
  else if e.early c now then e.tooEarly c
  else e.accepted c now seq

/-- The expiry of the late timer (R14, R17). -/
def Entry.late (e : Entry) (c : SourceConfig) (now : Time) : EntryResult :=
  match e.state with
  | .qualifying => e.lose (!e.lossReported)
  | .valid => { e with lateAt := some (now + ms c.upperMs) }.violate c false
  | .suspect => { e with lateAt := some (now + ms c.upperMs) }.violate c false
  | _ => Entry.only { e with lateAt := none }

/-! ## The table -/

/-- The code of an entry's loss record (section 1.5). -/
def lossCode (i : Fin 24) : FaultCode := 0xF100 + BitVec.ofNat 16 i.val

/-- The raise request of a loss report, by the report mode (R21). -/
def lossRaise (i : Fin 24) : ReportMode → List FaultRequest
  | .fault => [.raise (lossCode i) .action]
  | .warning => [.raise (lossCode i) .advisory]
  | .silent => []

/-- The clear request of an entry that reaches VALID with its loss reported (R22). -/
def lossClear (i : Fin 24) : ReportMode → List FaultRequest
  | .silent => []
  | _ => [.clear (lossCode i)]

/-- The requests of an event at entry `i` (R21, R22). -/
def EntryResult.requests (r : EntryResult) (i : Fin 24) (mode : ReportMode) : List FaultRequest :=
  (if r.report then lossRaise i mode else []) ++ (if r.clear then lossClear i mode else [])

/-- The FLM's action on a publication (R92). -/
def State.flmPublished (station : Nat) (after : EntryState) (payload : Option (List Byte)) (s : State) : State :=
  match after, payload with
  | .lost, _ => s.flmStale station
  | _, some p => s.flmReconcile station p
  | _, none => s

/-- A publication to the consumer of the entry's kind (R23). -/
def State.publish (c : SourceConfig) (after : EntryState) (payload : Option (List Byte)) (s : State) : State :=
  match c.kind with
  | .speed => s.sfuPublished (Fin.ofNat 4 c.roleIndex) after payload
  | .aspect => s.asuPublished (c.roleIndex != 0) c.station after payload
  | .fault => s.flmPublished c.station after payload
  | .desk => s.cruPublished (Fin.ofNat 3 c.roleIndex) after payload

/-- The configuration of entry `i`. -/
def State.source (s : State) (i : Fin 24) : SourceConfig := s.cfg.entries.get i

/-- The end of an event at entry `i`: the entry is written; a change of state or a used payload is published; then the loss
report or the clear request is sent (R23; their order: log 6). -/
def State.entryEvent (i : Fin 24) (r : EntryResult) (payload : List Byte) (s : State) : State :=
  let c := s.source i
  let written : State := { s with ssv := { s.ssv with entries := s.ssv.entries.set i r.entry } }
  let told :=
    if r.used || r.entry.state != (s.ssv.entries.get i).state then
      written.publish c r.entry.state (if r.used then some payload else none)
    else written
  told.requests (r.requests i c.report)

/-- The enabled entry for a station and kind (R6); R2 leaves at most one. -/
def State.entryFor (s : State) (station : Nat) (kind : SourceKind) : Option (Fin 24) :=
  (List.finRange 24).find? (fun i =>
    (s.source i).enabled && (s.source i).station == station && (s.source i).kind == kind)

/-- A good frame of a supervised kind at the SSV (R6). -/
def State.ssvArrival (f : Frame) (s : State) : State :=
  match f.kind.supervised with
  | none => s
  | some kind =>
    match s.entryFor f.station kind with
    | none => s
    | some i => s.entryEvent i ((s.ssv.entries.get i).arrive (s.source i) s.now f.seq) f.payload

/-- The expiry of entry `i`'s late timer (R14, R17). -/
def State.lateExpiry (i : Fin 24) (s : State) : State :=
  s.entryEvent i ((s.ssv.entries.get i).late (s.source i) s.now) []

/-- One entry at the grace expiry (R12): an enabled entry still ABSENT is lost. -/
def State.graceEntry (i : Fin 24) (s : State) : State :=
  if (s.source i).enabled && (s.ssv.entries.get i).state == .absent then
    s.entryEvent i ((s.ssv.entries.get i).lose true) []
  else s

/-- The expiry of the startup-grace timer (R12): the flag, the entries in order of index, then the notice to the SFU and the
ASU. -/
def State.graceExpiry (s : State) : State :=
  let flagged : State := { s with ssv := { s.ssv with graceAt := none, graceExpired := true } }
  (((List.finRange 24).foldl (fun s i => s.graceEntry i) flagged).sfuGrace).asuGrace

/-- The DESK entry of a station is VALID or SUSPECT (R24). -/
def State.deskPresent (s : State) (station : Nat) : Bool :=
  match s.entryFor station .desk with
  | some i => (s.ssv.entries.get i).state.present
  | none => false

/-- An ACKN frame at the ASU and the FLM, by its what (R82, R102). -/
def State.takeAckn (payload : List Byte) (s : State) : State :=
  if byteAt payload 0 = 0 then s.asuPeerAckn (byteAt payload 1).toNat (byteAt payload 3)
  else s.flmPeerAckn (byteAt payload 1).toNat (wordAt payload 2)

/-- An ACKN frame at the SSV (R24). -/
def State.ssvAckn (f : Frame) (s : State) : State :=
  if s.deskPresent f.station then s.takeAckn f.payload else s

end Sys2Proof.Machine
end

