-- ==== Sys2Proof/Machine/Snapshot.lean ====
section
/-! DEFINITION. The Snapshot Unit (section 11.1) and the run-time count it reads (R187). -/

namespace Sys2Proof.Machine

open Sys2Proof

/-- The run-time count in milliseconds since RUNNING, which wraps after its maximum (R187); 0 while it is stopped. -/
def State.runTime (s : State) : BitVec 32 :=
  match s.cfl.runningSince with
  | some t => BitVec.ofNat 32 ((s.now - t) / ms 1)
  | none => 0

/-- The STATE part (R190). -/
def State.snapStateContent (s : State) (requester : Nat) : SnapStateContent :=
  { requester := requester
    runTime := s.runTime
    role := s.cru.role
    displayed := s.sdm.displayed
    fused := s.sfu.fused
    speedState := s.sfu.speedState
    level := s.sdm.level
    code := s.asu.shown.code
    pendingOpen := s.asu.pendingAck.isSome
    overdue := s.asu.isOverdue
    count := s.flm.records.length
    overflow := s.flm.overflow }

/-- The FAULTS part (R190): the first six records in display order, or fewer. -/
def State.snapFaultsContent (s : State) (requester : Nat) : SnapFaultsContent :=
  { requester := requester, records := s.flm.records.take 6 }

/-- The parts a SNAPREQ payload asks for (R168). -/
def snapPartsOf (payload : List Byte) : SnapParts :=
  { state := (byteAt payload 1).getLsbD 0, faults := (byteAt payload 1).getLsbD 1 }

/-- A frame handed when its part is asked for. -/
def State.handIf (b : Bool) (content : TxContent) (s : State) : State := if b then s.handFrame content else s

/-- The latch taken for a request, and the latched frames handed, SNAPSTATE first (R190). -/
def State.latchSnapshot (requester : Nat) (parts : SnapParts) (s : State) : State :=
  let latched : State := { s with snu := { s.snu with
    latch := some { requester := requester, asked := parts, outstanding := parts } } }
  (latched.handIf parts.state (.snapState (s.snapStateContent requester))).handIf parts.faults
    (.snapFaults (s.snapFaultsContent requester))

/-- A SNAPREQ at the SNU (R189): latched when the latch is free, ignored when it is held. -/
def State.snuRequest (f : Frame) (s : State) : State :=
  match s.snu.latch with
  | some _ => s
  | none => s.latchSnapshot f.station (snapPartsOf f.payload)

end Sys2Proof.Machine
end

