-- ==== Sys2Proof/Machine/LineCommands.lean ====
section
/-! DEFINITION. The meanings of the line family: the frames heard, the receiver, and the attempts of the part's own frames. -/

namespace Sys2Proof.Machine

open Sys2Proof

/-- A frame heard at the moment `t`: what the line interface does with it, then `act` where it is a good frame from a peer
that R170 hands on. -/
def State.onFrame (t : Time) (bytes : List Byte) (act : Frame → State → State) (s : State) : State :=
  let r := s.reach t
  match r.fromPeer bytes with
  | some f => act f (r.hearFrame bytes)
  | none => r.hearFrame bytes

/-- ARRIVAL (R6): a frame of the four supervised kinds goes to the SSV. -/
def execArrival (t : Time) (frame : List Byte) (s : State) : Host.Outcome State Fault Refusal :=
  .next (s.onFrame t frame State.ssvArrival)

/-- ACKN_FRAME (R24). -/
def execAcknFrame (t : Time) (frame : List Byte) (s : State) : Host.Outcome State Fault Refusal :=
  .next (s.onFrame t frame (fun f r => if f.kind = .ackn then r.ssvAckn f else r))

/-- SNAPREQ (R189): one whose target station is the own station goes to the SNU (R170). -/
def execSnapreq (t : Time) (frame : List Byte) (s : State) : Host.Outcome State Fault Refusal :=
  .next (s.onFrame t frame (fun f r =>
    if f.kind = .snapreq ∧ (byteAt f.payload 0).toNat = r.own then r.snuRequest f else r))

/-- STATION_CLASH (R171): a good frame with the own station number, in RUNNING. -/
def execStationClash (t : Time) (frame : List Byte) (s : State) : Host.Outcome State Fault Refusal :=
  let r := s.reach t
  match r.assembled frame with
  | some f => .next (if r.running && f.station == r.own then (r.hearFrame frame).clash else r.hearFrame frame)
  | none => .next (r.hearFrame frame)

/-- STATION_CLASH_TIMER_EXPIRY (R171). -/
def execStationClashTimerExpiry (s : State) : Host.Outcome State Fault Refusal :=
  .next (s.onExpiry s.lif.clashAt State.clashOver)

/-- ATTEMPT_START (R173). -/
def execAttemptStart (t : Time) (s : State) : Host.Outcome State Fault Refusal :=
  .next (s.reach t).startAttempt

/-- ATTEMPT_SUCCESS (R174). -/
def execAttemptSuccess (t : Time) (s : State) : Host.Outcome State Fault Refusal :=
  .next (s.reach t).attemptSucceeds

/-- ATTEMPT_FAILURE (R174). -/
def execAttemptFailure (t : Time) (s : State) : Host.Outcome State Fault Refusal :=
  .next (s.reach t).attemptFails

/-- PRUNED_HEAD_END (R176). -/
def execPrunedHeadEnd (t : Time) (s : State) : Host.Outcome State Fault Refusal :=
  .next (s.reach t).prunedFrameEnds

/-- START_BIT_HEARD (R165). -/
def execStartBitHeard (t : Time) (s : State) : Host.Outcome State Fault Refusal :=
  .next (s.reach t).hearStartBit

/-- FRAME_DISCARD (R169). -/
def execFrameDiscard (t : Time) (frame : List Byte) (ending : FrameEnding) (s : State) : Host.Outcome State Fault Refusal :=
  .next ((s.reach t).discardFrame frame ending)

/-- RECEIVER_READY (R169). -/
def execReceiverReady (t : Time) (s : State) : Host.Outcome State Fault Refusal :=
  .next (s.reach t).becomeReady

/-- FRAME_DROPPED (R170): a good frame handed on nowhere; its end begins an idle period. -/
def execFrameDropped (t : Time) (frame : List Byte) (s : State) : Host.Outcome State Fault Refusal :=
  .next ((s.reach t).hearFrame frame)

end Sys2Proof.Machine
end

