-- ==== Sys2Proof/Machine/StartCommands.lean ====
section
/-! DEFINITION. The meanings of the start family: RESET, RESET_RELEASE, LOAD_END, LAMP_CHECK_TIMER_EXPIRY. -/

namespace Sys2Proof.Machine

open Sys2Proof

/-- RESET (R188). -/
def execReset (t : Time) (source : ResetSource) (s : State) : Host.Outcome State Fault Refusal :=
  .next ((s.reach t).holdReset source)

/-- RESET_RELEASE (R179). -/
def execResetRelease (t : Time) (straps : Straps) (s : State) : Host.Outcome State Fault Refusal :=
  .next ((s.reach t).release straps)

/-- LOAD_END (R181). -/
def execLoadEnd (t : Time) (acks : MemoryAcks) (memory : List Byte) (s : State) : Host.Outcome State Fault Refusal :=
  .next ((s.reach t).endLoad { acks := acks, bytes := memory })

/-- LAMP_CHECK_TIMER_EXPIRY (R187). -/
def execLampCheckTimerExpiry (s : State) : Host.Outcome State Fault Refusal :=
  .next (s.onExpiry s.cfl.lampCheckAt State.run)

end Sys2Proof.Machine
end

