-- ==== Sys2Proof/Machine/TimerCommands.lean ====
section
/-! DEFINITION. The meanings of the timer families: supervision, aspect, fault list, cab role. -/

namespace Sys2Proof.Machine

open Sys2Proof

/-- LATE_TIMER_EXPIRY (R14, R17). -/
def execLateTimerExpiry (entry : Fin 24) (s : State) : Host.Outcome State Fault Refusal :=
  .next (s.onExpiry (s.ssv.entries.get entry).lateAt (State.lateExpiry entry))

/-- STARTUP_GRACE_EXPIRY (R12). -/
def execStartupGraceExpiry (s : State) : Host.Outcome State Fault Refusal :=
  .next (s.onExpiry s.ssv.graceAt State.graceExpiry)

/-- ACKNOWLEDGEMENT_TIMER_EXPIRY (R79). -/
def execAcknowledgementTimerExpiry (s : State) : Host.Outcome State Fault Refusal :=
  .next (s.onExpiry s.asu.ackAt State.acknowledgementExpiry)

/-- OVERDUE_REPEAT_TIMER_EXPIRY (R80). -/
def execOverdueRepeatTimerExpiry (s : State) : Host.Outcome State Fault Refusal :=
  .next (s.onExpiry s.asu.repeatAt State.repeatExpiry)

/-- DISAGREEMENT_TIMER_EXPIRY (R74). -/
def execDisagreementTimerExpiry (s : State) : Host.Outcome State Fault Refusal :=
  .next (s.onExpiry s.asu.disagreeAt State.disagreementExpiry)

/-- REMINDER_TIMER_EXPIRY (R111). -/
def execReminderTimerExpiry (s : State) : Host.Outcome State Fault Refusal :=
  .next (s.onExpiry s.flm.reminderAt State.reminderExpiry)

/-- CLAIM_WINDOW_EXPIRY (R120). -/
def execClaimWindowExpiry (s : State) : Host.Outcome State Fault Refusal :=
  .next (s.onExpiry s.cru.claimAt State.claimExpiry)

/-- DESK_PERIOD_EXPIRY (R124): that of the timer, or the one that came together with a change of role taken first. -/
def execDeskPeriodExpiry (s : State) : Host.Outcome State Fault Refusal :=
  .next (s.onExpiry s.cru.periodEnd State.deskPeriod)

end Sys2Proof.Machine
end

