-- ==== Sys2Proof/Machine/Dispatch.lean ====
section
/-! DEFINITION. The effect of each command on everything but the queue: one arm per row of spec/opcode_table.json. -/

namespace Sys2Proof.Machine

open Sys2Proof

def exec (i : Instr) (s : State) : Host.Outcome State Fault Refusal :=
  match i with
  | .reset t source => Sys2Proof.Machine.execReset t source s
  | .resetRelease t straps => Sys2Proof.Machine.execResetRelease t straps s
  | .loadEnd t acks memory => Sys2Proof.Machine.execLoadEnd t acks memory s
  | .lampCheckTimerExpiry => Sys2Proof.Machine.execLampCheckTimerExpiry s
  | .arrival t frame => Sys2Proof.Machine.execArrival t frame s
  | .acknFrame t frame => Sys2Proof.Machine.execAcknFrame t frame s
  | .snapreq t frame => Sys2Proof.Machine.execSnapreq t frame s
  | .stationClash t frame => Sys2Proof.Machine.execStationClash t frame s
  | .lateTimerExpiry entry => Sys2Proof.Machine.execLateTimerExpiry entry s
  | .startupGraceExpiry => Sys2Proof.Machine.execStartupGraceExpiry s
  | .acknowledgementTimerExpiry => Sys2Proof.Machine.execAcknowledgementTimerExpiry s
  | .overdueRepeatTimerExpiry => Sys2Proof.Machine.execOverdueRepeatTimerExpiry s
  | .disagreementTimerExpiry => Sys2Proof.Machine.execDisagreementTimerExpiry s
  | .reminderTimerExpiry => Sys2Proof.Machine.execReminderTimerExpiry s
  | .claimWindowExpiry => Sys2Proof.Machine.execClaimWindowExpiry s
  | .deskPeriodExpiry => Sys2Proof.Machine.execDeskPeriodExpiry s
  | .scrollReturnExpiry => Sys2Proof.Machine.execScrollReturnExpiry s
  | .stationClashTimerExpiry => Sys2Proof.Machine.execStationClashTimerExpiry s
  | .flashPhaseEnd generator => Sys2Proof.Machine.execFlashPhaseEnd generator s
  | .oneShotEnd => Sys2Proof.Machine.execOneShotEnd s
  | .inputLevelChange t level => Sys2Proof.Machine.execInputLevelChange t level s
  | .acknowledgePress part => Sys2Proof.Machine.execAcknowledgePress s part
  | .scrollPress => Sys2Proof.Machine.execScrollPress s
  | .buttonRelease button => Sys2Proof.Machine.execButtonRelease button s
  | .testPress => Sys2Proof.Machine.execTestPress s
  | .testRelease => Sys2Proof.Machine.execTestRelease s
  | .keyChange => Sys2Proof.Machine.execKeyChange s
  | .dimmerChange => Sys2Proof.Machine.execDimmerChange s
  | .attemptStart t => Sys2Proof.Machine.execAttemptStart t s
  | .attemptSuccess t => Sys2Proof.Machine.execAttemptSuccess t s
  | .attemptFailure t => Sys2Proof.Machine.execAttemptFailure t s
  | .prunedHeadEnd t => Sys2Proof.Machine.execPrunedHeadEnd t s
  | .startBitHeard t => Sys2Proof.Machine.execStartBitHeard t s
  | .frameDiscard t frame ending => Sys2Proof.Machine.execFrameDiscard t frame ending s
  | .receiverReady t => Sys2Proof.Machine.execReceiverReady t s
  | .frameDropped t frame => Sys2Proof.Machine.execFrameDropped t frame s

end Sys2Proof.Machine
end

