-- ==== Sys2Proof/Machine/Outputs.lean ====
section
/-! DEFINITION. What the indication pins and the display chain show: the Indication Driver's view of the state (chapter 8). Each
value an owner has handed is read at its owner (log 8). -/

namespace Sys2Proof.Machine

open Sys2Proof

/-! ## Lamps (R147 to R149, R151, R163) -/

/-- The thirteen lamp outputs (R148). LA1 is `la 0`. -/
inductive Lamp where
  | la (k : Fin 8)
  | stop | action | overspeed | cab | source
  deriving DecidableEq, Repr

/-- The drive state the IDR holds for a lamp (R148). -/
def Lamps.held (l : Lamps) : Lamp → Drive
  | .la k => l.aspect.get k
  | .stop => l.stop
  | .action => l.action
  | .overspeed => l.overspeed
  | .cab => l.cab
  | .source => l.source

/-- The gated state (R149): the aspect lamps are OFF in IDLE. -/
def State.gatedDrive (s : State) (lamp : Lamp) : Drive :=
  match lamp with
  | .la k => if s.cru.role = .idle then .off else s.idr.lamps.aspect.get k
  | other => s.idr.lamps.held other

/-- The lamp-test image is shown (R151): in LAMP_CHECK, and in RUNNING while the test is held. -/
def State.testImage (s : State) : Bool :=
  s.cfl.start == .lampCheck || (s.running && s.diu.testHeld)

/-- The drive of a lamp (R163). -/
def State.lampDrive (s : State) (lamp : Lamp) : Drive :=
  if s.testImage then .steady else if s.running then s.gatedDrive lamp else .off

/-- A generator is running and in its on-phase. -/
def phaseLit (p : Option FlashPhase) : Bool :=
  match p with
  | some f => f.lit
  | none => false

/-- Whether an output in a drive state is lit now (R147). -/
def State.isLit (s : State) : Drive → Bool
  | .off => false
  | .steady => true
  | .slow => phaseLit s.idr.f1
  | .fast => phaseLit s.idr.f2

/-- Whether a lamp is lit now. -/
def State.lampLit (s : State) (lamp : Lamp) : Bool := s.isLit (s.lampDrive lamp)

/-! ## Readouts (R152 to R154, R163) -/

/-- A decimal digit. -/
def digitChar (n : Nat) : Char := Char.ofNat (48 + n % 10)

/-- A number in three places, right-aligned with leading zeros blanked (R152). -/
def threePlaces (v : Nat) : List Char :=
  if v < 10 then [' ', ' ', digitChar v]
  else if v < 100 then [' ', digitChar (v / 10), digitChar v]
  else [digitChar (v / 100), digitChar (v / 10), digitChar v]

/-- The speed readout (R151, R152, R163). -/
def State.speedReadout (s : State) : List Char :=
  if s.testImage then ['8', '8', '8']
  else if s.running then
    (match s.sdm.displayed with
     | none => ['-', '-', '-']
     | some d => threePlaces d)
  else if s.cfl.start = .strapFault then ['E', '0', '1']
  else [' ', ' ', ' ']

/-- The target readout (R153). -/
def State.targetReadout (s : State) : List Char :=
  if s.testImage then ['8', '8', '8']
  else if s.running then
    (match s.sdm.targetReadout with
     | none => [' ', ' ', ' ']
     | some v => threePlaces v)
  else [' ', ' ', ' ']

/-- The FORWARD arrow (R152). -/
def State.forwardArrow (s : State) : Bool := s.testImage || (s.running && s.sfu.direction == .forward)

/-- The REVERSE arrow (R152). -/
def State.reverseArrow (s : State) : Bool := s.testImage || (s.running && s.sfu.direction == .reverse)

/-- Arc segment `k`, 1 to 60, is lit (R154). -/
def State.arcLit (s : State) (k : Nat) : Bool :=
  s.testImage || (s.running && decide (1 ≤ k) && decide (k ≤ s.sdm.lit))

/-- Marker segment `k`, 1 to 60, is lit (R154). -/
def State.markerLit (s : State) (k : Nat) : Bool :=
  s.testImage || (s.running && s.isLit (s.sdm.markerDrive k))

/-- Bar segment `k`, 1 to 10, is lit (R154). -/
def State.barLit (s : State) (k : Nat) : Bool :=
  s.testImage || (s.running && decide (1 ≤ k) && decide (k ≤ s.sdm.bar))

/-! ## Fault window (R155, R156) -/

/-- The class letter, in lower case for a stale record (R155). -/
def classLetter (cls : FaultClass) (stale : Bool) : Char :=
  match cls, stale with
  | .stop, false => 'S'
  | .action, false => 'A'
  | .advisory, false => 'V'
  | .note, false => 'N'
  | .stop, true => 's'
  | .action, true => 'a'
  | .advisory, true => 'v'
  | .note, true => 'n'

/-- A hexadecimal digit, letters as capitals (R155). -/
def hexChar (n : Nat) : Char := if n % 16 < 10 then Char.ofNat (48 + n % 16) else Char.ofNat (55 + n % 16)

/-- The eight characters of a record (R155). -/
def windowText (r : FaultRecord) : List Char :=
  let c := r.code.toNat
  [classLetter r.cls r.stale, digitChar (r.origin / 10), digitChar r.origin, '-',
   hexChar (c / 4096), hexChar (c / 256), hexChar (c / 16), hexChar c]

/-- What the fault window shows: eight characters, or every segment lit (R151). -/
inductive WindowImage where
  | allSegments
  | text (chars : List Char)
  deriving DecidableEq, Repr

/-- The fault window (R156). -/
def State.faultWindow (s : State) : WindowImage :=
  if s.testImage then .allSegments
  else if s.running then
    (match shownRecord s.flm s.diu.window with
     | some r => .text (windowText r)
     | none => .text (List.replicate 8 ' '))
  else .text (List.replicate 8 ' ')

/-- The record count (R156). -/
def State.recordCount (s : State) : List Char :=
  if s.testImage then ['8', '8']
  else if s.running then [digitChar (s.flm.records.length / 10), digitChar s.flm.records.length]
  else [' ', ' ']

/-- The overflow mark is lit (R156). -/
def State.overflowMark (s : State) : Bool := s.testImage || (s.running && s.flm.overflow)

/-- The level on DBRT and of every lit output (R150). -/
def State.brightness (s : State) : BitVec 3 := s.idr.brightness

/-! ## Tone (R157, R159) -/

/-- The frequency of a pattern so many milliseconds after it began; none is silence (R157). -/
def soundHz (p : Pattern) (elapsedMs : Nat) : Option Nat :=
  match p with
  | .overdue => some 2000
  | .aspectRestrict => some (if elapsedMs % 500 < 250 then 1000 else 1400)
  | .overspeedAlarm => if elapsedMs % 200 < 100 then some 1800 else none
  | .faultStop => if elapsedMs % 1500 < 500 ∧ elapsedMs % 1500 % 200 < 100 then some 1200 else none
  | .cabConflict => if elapsedMs % 1000 < 500 then some 800 else none
  | .overspeedWarn => some 1500
  | .overspeedClear => some 900
  | .faultAction => some 1100
  | .reminder => some 1100
  | .startChirp => some 1000

/-- The pattern the tone output plays (R159); silent in SAMPLING, LOADING and STRAP_FAULT (R163). -/
def State.tone (s : State) : Option Pattern :=
  if s.running || s.cfl.start == .lampCheck then s.idr.arbiter.playing.map (·.pattern) else none

/-- The frequency on TONE now; none is silence. -/
def State.toneHz (s : State) : Option Nat :=
  match s.tone, s.idr.arbiter.playing with
  | some p, some a => soundHz p ((s.now - a.since) / ms 1)
  | _, _ => none

/-! ## The reset (R179). The line driver's outputs are `State.ltxen` and `State.ltxd`. -/

/-- The part is held in reset (R179). -/
def State.heldInReset (s : State) : Bool := !(s.supokHigh && s.rstnHigh)

end Sys2Proof.Machine
end

