-- ==== Sys2Proof/Safety.lean ====
section
/-! DEFINITION. What holds in every state the part can come to, block by block, in the terms the claims use; what each command
may change; and the runs in which every timer expires in time (log 4). -/

namespace Sys2Proof

/-! ## Settings (R182 to R185) -/

/-- The number of role indices of a kind (R1); FAULT has none, held as 0. -/
def SourceKind.roles : SourceKind → Nat
  | .speed => 4
  | .aspect => 2
  | .fault => 1
  | .desk => 3

/-- The settings of one source entry lie in the ranges of R1, as R184 leaves them. -/
def SourceConfig.inRange (c : SourceConfig) : Prop :=
  c.roleIndex < c.kind.roles ∧ c.lowerMs ≤ 2550 ∧ 20 ≤ c.upperMs ∧ c.upperMs ≤ 2550 ∧ (c.lossLimit = 1 ∨ c.lossLimit = 3) ∧
    1 ≤ c.qualCount ∧ c.qualCount ≤ 8

/-- The conditions of R2 on two enabled entries: they share no (station, kind) pair, and no input of a consumer. -/
def SourceConfig.apart (a b : SourceConfig) : Prop :=
  ¬(a.station = b.station ∧ a.kind = b.kind) ∧ ¬(a.kind ≠ .fault ∧ a.kind = b.kind ∧ a.roleIndex = b.roleIndex)

/-- The conditions of R2 on the 24 entries of a part with this own station. -/
def entriesApart (own : Nat) (entries : Vector SourceConfig 24) : Prop :=
  (∀ i : Fin 24, (entries.get i).enabled = true → (entries.get i).station ≠ 0 ∧ (entries.get i).station ≠ own) ∧
  ∀ i j : Fin 24, i ≠ j → (entries.get i).enabled = true → (entries.get j).enabled = true →
    (entries.get i).apart (entries.get j)

/-- A flash generator's setting in range (R146, R182). -/
def FlashConfig.inRange (f : FlashConfig) : Prop := 10 ≤ f.period ∧ f.period ≤ 255 ∧ 1 ≤ f.onTime ∧ f.onTime < f.period

/-- Every setting of a configuration lies in its range (R182 to R185). -/
structure Configuration.InRange (own : Nat) (c : Configuration) : Prop where
  grace       : 500 ≤ c.graceMs ∧ c.graceMs ≤ 10000
  tolerance   : 50 ≤ c.tolerance ∧ c.tolerance ≤ 1000
  standstill  : c.standstill ≤ 200
  hysteresis  : c.hysteresis ≤ 50
  arcScale    : 120 ≤ c.arcScale ∧ c.arcScale ≤ 400
  barScale    : 500 ≤ c.barScale ∧ c.barScale ≤ 4000
  warnBand    : 1 ≤ c.warnBand ∧ c.warnBand ≤ 10
  returnHyst  : c.returnHyst ≤ 5 ∧ c.returnHyst ≤ c.warnBand
  ackTime     : 2000 ≤ c.ackMs ∧ c.ackMs ≤ 8000
  reminder    : 30 ≤ c.reminderS ∧ c.reminderS ≤ 300
  claim       : 200 ≤ c.claimMs ∧ c.claimMs ≤ 1000
  deskPeriod  : 50 ≤ c.deskPeriodMs ∧ c.deskPeriodMs ≤ 500
  scrollTime  : 2 ≤ c.scrollReturnS ∧ c.scrollReturnS ≤ 30
  flash       : c.f1.inRange ∧ c.f2.inRange
  entries     : ∀ i : Fin 24, (c.entries.get i).inRange
  apart       : entriesApart own c.entries
  catalogue   : ∀ k : Fin 16, (c.catalogue.get k).rank ≤ 15 ∧ ∀ v, (c.catalogue.get k).defaultSpeed = some v → v ≤ 400
  lossUsed    : (c.catalogue.get c.lossCode).used = true

end Sys2Proof

namespace Sys2Proof.Machine

open Sys2Proof

/-- A loaded configuration is in range for the part's own station. -/
def State.Configured (s : State) : Prop := ∀ c, s.cfl.config = some c → c.InRange s.own

/-! ## Before RUNNING (R4, R41, R64, R86, R113, R131, R178, R192) -/

/-- Outside RUNNING every block that acts only in RUNNING holds its reset values. -/
structure State.AtRest (s : State) : Prop where
  ssv      : s.ssv = Ssv.reset
  sfu      : s.sfu = Sfu.reset
  sdm      : s.sdm = Sdm.reset
  asu      : s.asu = Asu.reset
  flm      : s.flm = Flm.reset
  cru      : s.cru = Cru.reset
  snu      : s.snu = Snu.reset
  window   : s.diu.window = none ∧ s.diu.scrollAt = none
  lamps    : s.idr.lamps = Lamps.reset
  noHolds  : s.idr.arbiter.asserted = []
  press    : s.routed = none
  queue    : s.lif.head = none ∧ s.lif.waiting = [] ∧ s.lif.drive = .released ∧ s.lif.driven = [] ∧ s.lif.drivenAt = none ∧
    s.lif.hold = none
  counters : s.lif.counters = SeqCounters.reset
  clash    : s.lif.clashAt = none ∧ s.lif.clashRaised = false
  flags    : s.lif.failedSendRaised = false ∧ s.lif.queueLossRaised = false

/-- Outside RUNNING the part is at rest, and before LAMP_CHECK it is silent. -/
def State.Quiet (s : State) : Prop :=
  (s.cfl.start ≠ .running → s.AtRest) ∧
  (s.cfl.start ≠ .running → s.cfl.start ≠ .lampCheck → s.idr.arbiter = Arbiter.reset)

/-! ## Source Supervisor -/

/-- What R4, R5 and R9 to R22 make of one entry with settings `c`, in each of its five states. -/
def Entry.Lawful (e : Entry) (c : SourceConfig) : Prop :=
  (c.enabled = false → e = Entry.reset) ∧
  match e.state with
  | .absent => e = Entry.reset
  | .lost => e = { Entry.reset with state := .lost, lossReported := true }
  | .qualifying =>
    e.lateAt.isSome ∧ e.lastSeq.isSome ∧ e.lastAccepted.isSome ∧ e.violations = 0 ∧ e.progress < c.qualCount
  | .valid =>
    e.lateAt.isSome ∧ e.lastSeq.isSome ∧ e.lastAccepted.isSome ∧ e.violations = 0 ∧ e.lossReported = false
  | .suspect =>
    e.lateAt.isSome ∧ e.lastSeq.isSome ∧ e.lastAccepted.isSome ∧ 0 < e.violations ∧ e.violations < c.lossLimit ∧
      e.lossReported = false

/-- Every entry is lawful. -/
def State.SourcesLawful (s : State) : Prop := ∀ i : Fin 24, (s.ssv.entries.get i).Lawful (s.source i)

/-- The state a consumer holds for the entry that feeds its input is that entry's state (R23, R26, R67, R115). -/
def State.ConsumersFollow (s : State) : Prop :=
  ∀ i : Fin 24, (s.source i).enabled = true →
    match (s.source i).kind with
    | .speed => (s.sfu.slots.get (Fin.ofNat 4 (s.source i).roleIndex)).state = (s.ssv.entries.get i).state
    | .aspect =>
      (if (s.source i).roleIndex ≠ 0 then s.asu.secondary.state else s.asu.primary.state) = (s.ssv.entries.get i).state
    | .desk => (s.cru.peers.get (Fin.ofNat 3 (s.source i).roleIndex)).state = (s.ssv.entries.get i).state
    | .fault => True

/-! ## Speed -/

/-- The ranges of R26, R29, R46, R49, R53 and R67. -/
structure State.Ranges (s : State) : Prop where
  slots     : ∀ k : Fin 4, (s.sfu.slots.get k).outliers ≤ 5 ∧ ∀ r, (s.sfu.slots.get k).report = some r → r.speed ≤ 40000
  fused     : ∀ f, s.sfu.fused = some f → f ≤ 40000
  usable    : s.sfu.usable ≤ 4
  disagree  : s.sfu.disagreements ≤ 5
  copied    : ∀ f, s.sdm.fused = some f → f ≤ 40000
  displayed : ∀ d, s.sdm.displayed = some d → d ≤ 400

/-- The SDM holds the copies its owners last handed, and what R46, R49, R50, R52, R53 and R55 form from them. -/
structure State.DisplayFollows (s : State) : Prop where
  fused     : s.sdm.fused = s.sfu.fused
  limits    : s.sdm.limits = s.asu.shown.limits
  known     : s.sdm.displayed.isSome = s.sdm.fused.isSome
  lit       : s.sdm.lit = litSegments s.cfg.arcScale s.sdm.displayed
  permitted : s.sdm.permittedMarker = markerAt s.mph s.cfg.arcScale s.sdm.limits.permitted
  target    : s.sdm.targetMarker = markerAt s.mph s.cfg.arcScale s.sdm.limits.target
  readout   : s.sdm.targetReadout = s.sdm.limits.target.map (inDisplayUnit s.mph)
  bar       : s.sdm.bar = barSegments s.cfg.barScale s.sdm.limits.distance
  level     : s.sdm.level = .notSupervised ↔ s.sdm.fused = none ∨ s.sdm.limits.permitted = none

/-! ## Aspects -/

/-- The displayed aspect is the one the views call for (R70); the timers belong to the pending record and to a disagreement
(R74, R76, R79, R80). -/
structure State.AspectLawful (s : State) : Prop where
  shown    : s.asu.shown = selectAspect s.own s.cfg s.asu.graceExpired (s.asu.primary.usable s.cfg.catalogue)
               (s.asu.secondary.usable s.cfg.catalogue)
  ackTimer : s.asu.ackAt = (match s.asu.pendingAck with
               | some r => if r.overdue then none else some (r.openedAt + ms s.cfg.ackMs)
               | none => none)
  repeats  : s.asu.repeatAt.isSome = (s.asu.isOverdue && s.cru.role == .active)
  disagree : codesDiffer (s.asu.primary.usable s.cfg.catalogue) (s.asu.secondary.usable s.cfg.catalogue) =
               (s.asu.disagreeAt.isSome || s.asu.disagreeRaised)
  once     : ¬(s.asu.disagreeAt.isSome = true ∧ s.asu.disagreeRaised = true)

/-! ## Fault List -/

/-- R87, R89, R90, R91, R106, R111 on the list, its counter, its overflow flag and the reminder timer. -/
structure Flm.Lawful (f : Flm) : Prop where
  room     : f.records.length ≤ capacity
  named    : (f.records.map (fun r => (r.origin, r.code))).Nodup
  ordered  : f.records.Pairwise (fun a b => displayLe a b = true)
  stamps   : (f.records.map (·.stamp)).Nodup
  below    : ∀ r ∈ f.records, r.stamp < f.counter
  counter  : f.counter ≤ 65535
  counts   : ∀ r ∈ f.records, 1 ≤ r.count ∧ r.count ≤ 15
  empty    : f.records = [] → f.counter = 0
  overflow : f.overflow = true → overflowClearLevel < f.records.length
  reminder : f.reminderAt.isSome = f.reminds

/-- The window position names a record of the list or is TOP, and the scroll-return timer runs exactly when it is not TOP
(R139 to R142). -/
def State.WindowLawful (s : State) : Prop :=
  match s.diu.window with
  | none => s.diu.scrollAt = none
  | some n => s.diu.scrollAt.isSome = true ∧ (s.flm.find n.origin n.code).isSome = true

/-! ## Cab role -/

/-- A further evaluation would change nothing (R117), and the timers, the flag and the key copy belong to the role and the
start state (R116, R120, R124, R130). -/
structure State.RoleLawful (s : State) : Prop where
  settled  : s.cru.nextRole false = s.cru.role
  claim    : s.cru.claimAt.isSome = (s.cru.role == .claiming)
  period   : s.cru.deskAt.isSome = s.running
  due      : ∀ e, s.cru.deskDue = some e → s.running = true ∧ e ≤ s.now
  conflict : s.cru.peerConflictRaised = s.cru.seesConflict
  key      : s.running = true → s.cru.keyOn = s.diu.key.taken

/-! ## Desk inputs -/

/-- A stability interval is in progress exactly while the level differs from the state taken and the inputs are debounced
(R133 to R136). -/
def Contact.Lawful (c : Contact) (debouncing : Bool) : Prop := c.endsAt.isSome = (debouncing && c.level != c.taken)

/-- The same for the five inputs. -/
structure State.InputsLawful (s : State) : Prop where
  acknowledge : s.diu.acknowledge.Lawful s.debouncing
  scroll      : s.diu.scroll.Lawful s.debouncing
  test        : s.diu.test.Lawful s.debouncing
  key         : s.diu.key.Lawful s.debouncing
  dimmer      : s.diu.dimmer.endsAt.isSome = (s.debouncing && s.diu.dimmer.level != s.diu.dimmer.taken)

/-! ## Indications and tones -/

/-- The held lamp states and the continuous requests are the ones their owners' states call for (R40, R59, R62, R84, R85,
R108, R109, R129). -/
structure State.IndicationsFollow (s : State) : Prop where
  aspect    : s.idr.lamps.aspect = aspectLamps s.cfg.catalogue s.asu.shown.code s.asu.pendingAck.isSome
  stop      : s.idr.lamps.stop = s.flm.lamp .stop .fast
  action    : s.idr.lamps.action = s.flm.lamp .action .slow
  overspeed : s.idr.lamps.overspeed = s.sdm.level.lamp
  cab       : s.idr.lamps.cab = s.cru.role.lamp
  source    : s.idr.lamps.source = s.sfu.speedState.lamp
  asserted  : s.idr.arbiter.asserted = patternsByPriority.filter (fun p =>
                match p with
                | .overdue => s.asu.isOverdue
                | .aspectRestrict => s.asu.restricts
                | .overspeedAlarm => s.cfg.reporting == .continuous && s.sdm.level == .alarm
                | .faultStop => s.flm.stopSounds
                | .cabConflict => s.cru.role == .conflict
                | _ => false)

/-- The playing member is the eligible member of the highest priority, and a one-shot is in the set only while it plays
(R158 to R160). -/
def State.ToneLawful (s : State) : Prop :=
  s.idr.arbiter.playing.map (·.pattern) = s.idr.arbiter.best s.eligible ∧
  ∀ o, s.idr.arbiter.oneShot = some o → s.idr.arbiter.playing.map (·.pattern) = some o.pattern

/-! ## Line -/

/-- The contents of the frames in the queue, the head first. -/
def Lif.contents (l : Lif) : List TxContent :=
  (match l.head with
   | some h => [h.content]
   | none => []) ++ l.waiting.map (·.content)

/-- `a` stands before `b` in the order of R175: urgent before normal, and within a class the older one first. -/
def queuedBefore (a b : QueuedFrame) : Prop :=
  (a.content.urgent = true ∧ b.content.urgent = false) ∨ (a.content.urgent = b.content.urgent ∧ a.entered ≤ b.entered)

/-- R165, R173 to R176 and R178 on the transmit queue, the head, the DESK hold and the driver. -/
structure State.LineLawful (s : State) : Prop where
  room     : s.lif.length ≤ queueCapacity
  oneDesk  : (s.lif.contents.filter TxContent.isDesk).length ≤ 1
  ordered  : s.lif.waiting.Pairwise queuedBefore
  entered  : ∀ q ∈ s.lif.waiting, q.entered ≤ s.now
  attempts : ∀ h, s.lif.head = some h → h.attempts < attemptLimit
  hold     : s.lif.hold.isSome = true → s.lif.headIsDesk = true
  driving  : s.lif.drive = .head → s.lif.head.isSome = true ∧ s.lif.driven = s.lif.headBytes s.own
  pruned   : s.lif.drive = .pruned → s.lif.head = none
  silent   : s.lif.drive = .released → s.lif.driven = []
  idle     : s.lif.drive ≠ .released → s.lif.idleSince = none
  timed    : s.lif.drivenAt.isSome = (s.lif.drive != .released)
  begun    : (∀ t, s.lif.drivenAt = some t → t ≤ s.now) ∧ ∀ t, s.lif.idleSince = some t → t ≤ s.now

/-- ACKN and OVERDUE frames stand in the queue only while the role is ACTIVE (R126, R128). -/
def State.UrgentOnlyActive (s : State) : Prop :=
  s.cru.role ≠ .active → ∀ c ∈ s.lif.contents, c.urgent = false

/-- How many frames of the queue are SNAPSTATE. -/
def Lif.snapStates (l : Lif) : Nat :=
  (l.contents.filter (fun c => match c with
    | .snapState _ => true
    | _ => false)).length

/-- How many frames of the queue are SNAPFAULTS. -/
def Lif.snapFaults (l : Lif) : Nat :=
  (l.contents.filter (fun c => match c with
    | .snapFaults _ => true
    | _ => false)).length

/-- The outstanding set is the set of snapshot frames in the queue, and a held latch has one outstanding (R189, R191). -/
def State.LatchLawful (s : State) : Prop :=
  match s.snu.latch with
  | none => s.lif.snapStates = 0 ∧ s.lif.snapFaults = 0
  | some l =>
    (l.outstanding.state = true ∨ l.outstanding.faults = true) ∧
    s.lif.snapStates = (if l.outstanding.state then 1 else 0) ∧
    s.lif.snapFaults = (if l.outstanding.faults then 1 else 0)

/-! ## Start state and flash generators -/

/-- The timers of the start and the flash generators run in their start states only (R146, R179, R180, R187). -/
structure State.StartLawful (s : State) : Prop where
  lampCheck : s.cfl.lampCheckAt.isSome = (s.cfl.start == .lampCheck)
  running   : s.cfl.runningSince.isSome = s.running
  flash1    : s.idr.f1.isSome = s.running
  flash2    : s.idr.f2.isSome = s.running
  straps    : s.cfl.straps.isSome = (s.cfl.start != .sampling)
  config    : s.cfl.config.isSome = (s.cfl.start == .lampCheck || s.running)
  station   : ∀ p, s.cfl.straps = some p → (p.station = 0 ↔ s.cfl.start = .strapFault)
  fallback  : s.cfl.fallback = true → s.cfl.config = some (fallbackConfiguration s.own)
  pins      : s.heldInReset = (s.cfl.start == .sampling)

/-! ## Fused speed -/

/-- The fused speed record is the one that the four slots as they stand give (R30 to R34). -/
structure State.FusionFollows (s : State) : Prop where
  usable    : s.sfu.usable = s.sfu.reports.length
  fused     : s.sfu.fused = fuse s.cfg.tolerance (ascending (s.sfu.reports.map (·.speed)))
  disagree  : s.sfu.disagree = fuseDisagrees s.cfg.tolerance (ascending (s.sfu.reports.map (·.speed)))
  state     : s.sfu.speedState = speedStateOf s.sfu.usable s.sfu.anyDegraded s.sfu.disagree
  direction : s.sfu.direction = directionOf s.cfg.standstill s.sfu.reports s.sfu.fused

/-! ## All together -/

/-- What holds in every state the part can come to. -/
structure State.Inv (s : State) : Prop where
  quiet       : s.Quiet
  start       : s.StartLawful
  configured  : s.Configured
  sources     : s.SourcesLawful
  consumers   : s.ConsumersFollow
  fusion      : s.FusionFollows
  ranges      : s.Ranges
  display     : s.DisplayFollows
  aspect      : s.AspectLawful
  faults      : s.flm.Lawful
  window      : s.WindowLawful
  role        : s.RoleLawful
  inputs      : s.InputsLawful
  indications : s.IndicationsFollow
  tone        : s.ToneLawful
  line        : s.LineLawful
  urgent      : s.UrgentOnlyActive
  latch       : s.LatchLawful

/-! ## What an event at the Fault List comes to -/

/-- A record of this origin and code that the last raise request has left raised, with the request's class; or the list that
refused it (R98, R104, R106). -/
def Flm.Raised (f : Flm) (origin : Nat) (code : FaultCode) (cls : FaultClass) : Prop :=
  (∃ r ∈ f.records, r.is origin code = true ∧ r.cls = cls ∧ r.state ≠ .clearedUnack) ∨
  (f.find origin code = none ∧ f.overflow = true)

/-- No record of this origin and code is raised (R99). -/
def Flm.NotRaised (f : Flm) (origin : Nat) (code : FaultCode) : Prop :=
  ∀ r ∈ f.records, r.is origin code = true → r.state = .clearedUnack

/-- The arbiter of `s` once FAULT_STOP is asserted or withdrawn by the list of `u` (R109). -/
def State.faultStopHeld (s u : State) : Arbiter :=
  (s.idr.arbiter.hold .faultStop (u.flm.records.any (fun q => q.cls == .stop && q.state == .raisedUnack))).rechoose
    s.eligible s.now

/-- What an event at the FLM that leads from `s` to `u` hands on beside the lamps: the reminder timer (R111), FAULT_STOP (R109),
and FAULT_ACTION, issued exactly where `action` holds (R110; after FAULT_STOP, log 18). -/
structure State.FlmHandsOn (s u : State) (action : Prop) : Prop where
  started : (∃ q ∈ u.flm.records, q.cls = .action ∧ q.state = .raisedUnack) → s.flm.reminderAt = none →
              u.flm.reminderAt = some (s.now + 1000000 * s.cfg.reminderS)
  kept    : (∃ q ∈ u.flm.records, q.cls = .action ∧ q.state = .raisedUnack) → ∀ t, s.flm.reminderAt = some t →
              u.flm.reminderAt = some t
  stopped : (∀ q ∈ u.flm.records, q.cls = .action → q.state ≠ .raisedUnack) → u.flm.reminderAt = none
  issued  : action → u.idr.arbiter = (s.faultStopHeld u).issue s.eligible s.now .faultAction
  silent  : ¬action → u.idr.arbiter = s.faultStopHeld u

/-! ## What a change of role comes to -/

/-- The record 0xF051 at the end of an evaluation that leads from `s` to `u` (R130). -/
structure State.PeerConflictTested (s u : State) : Prop where
  flag    : u.cru.peerConflictRaised = true ↔ u.cru.role = .active ∧ ∃ v ∈ u.cru.peers.toList, v.counted = .conflict
  raised  : s.cru.peerConflictRaised = false → u.cru.peerConflictRaised = true → u.flm.Raised s.own 0xF051 .advisory
  cleared : s.cru.peerConflictRaised = true → u.cru.peerConflictRaised = false → u.flm.NotRaised s.own 0xF051

/-- What follows a change of role that leads from `s` to `u` (R80, R118 to R120, R124, R125, R127 to R130). What the DESK frame
reads of the Fault List is left open (log 7). -/
structure State.RoleChanged (s u : State) : Prop where
  claim     : u.cru.claimAt = if u.cru.role = .claiming then some (u.now + ms s.cfg.claimMs) else none
  period    : u.cru.deskAt = some (u.now + ms s.cfg.deskPeriodMs)
  crossed   : ∀ e, s.cru.deskAt = some e → s.cru.deskDue = none → u.cru.deskDue = if e ≤ u.now then some e else none
  lamp      : u.idr.lamps.cab = (match u.cru.role with
                | .claiming => .slow
                | .active => .steady
                | .conflict => .fast
                | _ => .off)
  tone      : .cabConflict ∈ u.idr.arbiter.asserted ↔ u.cru.role = .conflict
  desk      : s.lif.length < 7 → ∃ c : DeskContent, c.role = u.cru.role ∧ c.keyOn = u.cru.keyOn ∧ c.cabEndB = s.cabEndB ∧
                c.displayed = s.sdm.displayed ∧ c.speedState = s.sfu.speedState ∧ c.level = s.sdm.level ∧
                c.code = s.asu.shown.code ∧ c.fallback = s.cfl.fallback ∧
                c.pendingAck = s.asu.pendingAck.map (fun r => { station := r.station, inst := r.inst, overdue := r.overdue }) ∧
                (s.lif.headIsDesk = true → u.lif.hold = some c) ∧
                (s.lif.headIsDesk = false → ∃ q ∈ u.lif.waiting, q.content = .desk c)
  pruned    : s.cru.role = .active → ∀ c ∈ u.lif.contents, c.urgent = false
  stopped   : s.cru.role = .active → u.asu = { s.asu with repeatAt := none }
  takenOver : ∀ r, u.cru.role = .active → s.asu.pendingAck = some r → r.overdue = true →
                u.asu = { s.asu with repeatAt := some (u.now + 1000000) } ∧
                (s.lif.length < 8 →
                  { content := .overdue r.station r.inst
                      (min 255 ((u.now - r.openedAt - 1000 * s.cfg.ackMs) / 100000)), entered := u.now } ∈ u.lif.waiting)
  unmoved   : s.cru.role ≠ .active → (u.cru.role = .active → s.asu.isOverdue = false) → u.asu = s.asu
  entered   : u.cru.role = .conflict → u.flm.Raised s.own 0xF050 .stop
  left      : s.cru.role = .conflict → u.flm.NotRaised s.own 0xF050

/-! ## What is heard -/

/-- In RUNNING, with the line released and the receiver ready, the good frame `f` of another station ends (R169, R170). -/
def State.Hears (s : State) (bytes : List Byte) (f : Frame) : Prop :=
  s.cfl.start = .running ∧ s.lif.drive = .released ∧ s.lif.ignoring = false ∧ parseFrame bytes = some f ∧ f.station ≠ s.own

/-- The heard frame `f` is an arrival at the enabled entry `i` (R6). -/
def State.Arrives (s : State) (bytes : List Byte) (f : Frame) (i : Fin 24) : Prop :=
  s.Hears bytes f ∧ ∃ kind, f.kind.supervised = some kind ∧ s.entryFor f.station kind = some i

/-- The state at the moment `t` with an idle period begun there: all that hearing a good frame does by itself. -/
def State.heardAt (s : State) (t : Time) : State :=
  { s with now := max s.now t, lif := { s.lif with idleSince := some (max s.now t) } }

/-! ## What a command may change -/

/-- The eleven blocks of the part (scope 1.3). -/
inductive Block where
  | lif | ssv | sfu | sdm | asu | flm | cru | diu | idr | cfl | snu
  deriving DecidableEq, Repr

/-- Whether a command's event can reach a block by the rules (95_what_each_step_holds). An event of a
source entry can reach every block but the CFL; a frame that enters a full queue can reach the FLM (R175) and the SNU (R191);
an event at the FLM can reach the IDR (R108 to R110) and the DIU's window position (R142). -/
def mayChange (c : Instr) (b : Block) : Bool :=
  match c with
  | .reset _ _ => true
  | .resetRelease _ _ => b == .cfl || b == .diu
  | .loadEnd _ _ _ => b == .cfl || b == .idr
  | .lampCheckTimerExpiry => b == .cfl || b == .ssv || b == .asu || b == .flm || b == .cru || b == .snu || b == .lif || b == .diu || b == .idr
  | .arrival _ _ => b != .cfl
  | .lateTimerExpiry _ => b != .cfl
  | .startupGraceExpiry => b != .cfl
  | .acknFrame _ _ => b == .asu || b == .flm || b == .lif || b == .diu || b == .idr
  | .snapreq _ _ => b == .snu || b == .flm || b == .lif || b == .diu || b == .idr
  | .stationClash _ _ => b == .flm || b == .lif || b == .diu || b == .idr
  | .stationClashTimerExpiry => b == .flm || b == .lif || b == .diu || b == .idr
  | .acknowledgementTimerExpiry => b == .asu || b == .flm || b == .snu || b == .lif || b == .diu || b == .idr
  | .overdueRepeatTimerExpiry => b == .asu || b == .flm || b == .snu || b == .lif || b == .diu || b == .idr
  | .disagreementTimerExpiry => b == .asu || b == .flm || b == .diu || b == .idr
  | .reminderTimerExpiry => b == .flm || b == .idr
  | .claimWindowExpiry => b == .cru || b == .asu || b == .flm || b == .snu || b == .lif || b == .diu || b == .idr
  | .keyChange => b == .cru || b == .asu || b == .flm || b == .snu || b == .lif || b == .diu || b == .idr
  | .deskPeriodExpiry => b == .cru || b == .flm || b == .snu || b == .lif || b == .diu || b == .idr
  | .acknowledgePress _ => b == .asu || b == .flm || b == .snu || b == .lif || b == .diu || b == .idr
  | .attemptSuccess _ => b == .flm || b == .snu || b == .lif || b == .diu || b == .idr
  | .attemptFailure _ => b == .flm || b == .snu || b == .lif || b == .diu || b == .idr
  | .scrollReturnExpiry => b == .diu
  | .flashPhaseEnd _ => b == .idr
  | .oneShotEnd => b == .idr
  | .inputLevelChange _ _ => b == .diu
  | .scrollPress => b == .diu
  | .buttonRelease _ => b == .diu
  | .testPress => b == .diu
  | .testRelease => b == .diu
  | .dimmerChange => b == .diu || b == .idr
  | .attemptStart _ => b == .lif
  | .prunedHeadEnd _ => b == .lif
  | .startBitHeard _ => b == .lif
  | .frameDiscard _ _ _ => b == .lif
  | .receiverReady _ => b == .lif
  | .frameDropped _ _ => b == .lif

/-- Two states agree on a block; on the DIU, with the press that it has routed. -/
def Block.same (b : Block) (s t : State) : Prop :=
  match b with
  | .lif => t.lif = s.lif
  | .diu => t.diu = s.diu ∧ t.routed = s.routed
  | .idr => t.idr = s.idr
  | .ssv => t.ssv = s.ssv
  | .sfu => t.sfu = s.sfu
  | .sdm => t.sdm = s.sdm
  | .asu => t.asu = s.asu
  | .flm => t.flm = s.flm
  | .cru => t.cru = s.cru
  | .snu => t.snu = s.snu
  | .cfl => t.cfl = s.cfl

/-! ## Timely runs (log 4) -/

/-- The moments to which the running timers of the part run, the end of the frame it drives, and the moment of a press that is
on its way. -/
def State.timers (s : State) : List Time :=
  ([s.cfl.lampCheckAt, s.ssv.graceAt, s.asu.ackAt, s.asu.repeatAt, s.asu.disagreeAt, s.flm.reminderAt, s.cru.claimAt,
    s.cru.deskAt, s.cru.deskDue, s.diu.scrollAt, s.lif.clashAt, s.idr.f1.map (·.endsAt), s.idr.f2.map (·.endsAt),
    s.idr.arbiter.oneShot.map (·.endsAt), s.diu.acknowledge.endsAt, s.diu.scroll.endsAt, s.diu.test.endsAt,
    s.diu.key.endsAt, s.diu.dimmer.endsAt, s.driveEnd, s.routed.map (·.at0)] ++ s.ssv.entries.toList.map (·.lateAt)).filterMap id

/-- No timer has been left to run past its end, no frame to be driven past its last stop bit, no press to wait. A sender that
keeps to this gives the runs of the part (log 4). -/
def State.Timely (s : State) : Prop := ∀ t ∈ s.timers, s.now ≤ t

end Sys2Proof.Machine
end

