-- ==== Sys2Proof/WellFormed.lean ====
section
/-! DEFINITION. Which commands a sender can form: the operand of a frame command holds the bytes that its event brings. The
meanings are defined on every operand; a command that is not well formed stands for no event of the manual. -/

namespace Sys2Proof.Machine

open Sys2Proof

/-- The bytes are a good frame (R169) with this test on it. -/
def goodFrame (bytes : List Byte) (test : Frame → Bool) : Bool :=
  match parseFrame bytes with
  | some f => test f
  | none => false

/-- The memory gave every byte that the load reads (R181). -/
def imageWhole (m : MemoryAnswer) : Bool := decide (m.readCount ≤ m.bytes.length)

end Sys2Proof.Machine

namespace Sys2Proof

open Sys2Proof.Machine

/-- A command is well formed. LOAD_END: a memory that answered gave the whole image. ARRIVAL: a good frame of a supervised
kind (R6). ACKN_FRAME: a good ACKN frame (R24). SNAPREQ: a good SNAPREQ frame (R189). STATION_CLASH: a good frame (R171).
FRAME_DISCARD: a frame that fails a test of R169. FRAME_DROPPED: a good frame (R170: outside RUNNING every one of them is dropped,
in RUNNING some). -/
def Instr.wf (c : Instr) : Bool :=
  match c with
  | .loadEnd _ acks memory =>
    let m : MemoryAnswer := { acks := acks, bytes := memory }
    !m.answered || imageWhole m
  | .arrival _ frame => goodFrame frame (fun f => f.kind.supervised.isSome)
  | .acknFrame _ frame => goodFrame frame (fun f => f.kind == .ackn)
  | .snapreq _ frame => goodFrame frame (fun f => f.kind == .snapreq)
  | .stationClash _ frame => goodFrame frame (fun _ => true)
  | .frameDiscard _ frame ending => isDiscarded frame ending
  | .frameDropped _ frame => (parseFrame frame).isSome
  | .reset _ _ => true
  | .resetRelease _ _ => true
  | .lampCheckTimerExpiry => true
  | .lateTimerExpiry _ => true
  | .startupGraceExpiry => true
  | .acknowledgementTimerExpiry => true
  | .overdueRepeatTimerExpiry => true
  | .disagreementTimerExpiry => true
  | .reminderTimerExpiry => true
  | .claimWindowExpiry => true
  | .deskPeriodExpiry => true
  | .scrollReturnExpiry => true
  | .stationClashTimerExpiry => true
  | .flashPhaseEnd _ => true
  | .oneShotEnd => true
  | .inputLevelChange _ _ => true
  | .acknowledgePress _ => true
  | .scrollPress => true
  | .buttonRelease _ => true
  | .testPress => true
  | .testRelease => true
  | .keyChange => true
  | .dimmerChange => true
  | .attemptStart _ => true
  | .attemptSuccess _ => true
  | .attemptFailure _ => true
  | .prunedHeadEnd _ => true
  | .startBitHeard _ => true
  | .receiverReady _ => true

end Sys2Proof
end

