-- ==== Sys2Proof/Certificates/Slice0/Obligations.lean ====
section
/-! DEFINITION. The statements for the provers. Each docstring names the rules of spec/ that the statement formalises; "log n" is
notes/assumptions/<n>.md, and marks what is the model's choice. -/

open Sys2Proof Sys2Proof.Machine

/-! ## The whole machine -/

/-- One step runs the command at the front of the queue, with the queue's rest; on an empty queue the part idles (the model's
choice, log 3). -/
def Obligations.StepRunsTheFrontCommand : Prop :=
  (∀ (s : State) (c : Instr) (rest : List Instr), s.pending = c :: rest → step s = exec c { s with pending := rest }) ∧
  (∀ s : State, s.pending = [] → step s = .next s)

/-- Every command answers a next state; it leaves the waiting commands as they are, and the clock does not go back (the clock is
the model's choice, log 1). That this holds at every state, so that a command whose event cannot take place does nothing and is
not refused, is the model's choice too (log 2). -/
def Obligations.EveryCommandAnswersNext : Prop :=
  ∀ (c : Instr) (s : State), ∃ u, exec c s = .next u ∧ u.pending = s.pending ∧ s.now ≤ u.now

/-- No command changes one of the eleven blocks that its event cannot reach (95_what_each_step_holds), and an arrival reaches,
beside the SSV, the consumer of its kind and what that consumer hands on to (R23, R39, R75, R92, R124). -/
def Obligations.CommandsChangeOnlyTheirBlocks : Prop :=
  (∀ (c : Instr) (b : Block) (s u : State), mayChange c b = false → exec c s = .next u → b.same s u) ∧
  (∀ (t : Time) (bytes : List Byte) (f : Frame) (i : Fin 24) (s u : State),
    s.Arrives bytes f i → exec (.arrival t bytes) s = .next u →
      u.snu ≠ s.snu ∨ u.cru ≠ s.cru ∨ u.lif ≠ (s.heardAt t).lif → (s.source i).kind = .desk) ∧
  (∀ (t : Time) (bytes : List Byte) (f : Frame) (i : Fin 24) (s u : State),
    s.Arrives bytes f i → exec (.arrival t bytes) s = .next u → u.sfu ≠ s.sfu → (s.source i).kind = .speed) ∧
  (∀ (t : Time) (bytes : List Byte) (f : Frame) (i : Fin 24) (s u : State),
    s.Arrives bytes f i → exec (.arrival t bytes) s = .next u → u.sdm ≠ s.sdm →
      (s.source i).kind = .speed ∨ (s.source i).kind = .aspect) ∧
  (∀ (t : Time) (bytes : List Byte) (f : Frame) (i : Fin 24) (s u : State),
    s.Arrives bytes f i → exec (.arrival t bytes) s = .next u → u.asu ≠ s.asu →
      (s.source i).kind = .aspect ∨ (s.source i).kind = .desk)

/-- RUNNING and STRAP_FAULT are left by a reset only, and until then the straps and the loaded configuration hold (R1, R179,
R180). -/
def Obligations.RunningIsLeftByResetOnly : Prop :=
  ∀ (c : Instr) (s u : State), s.cfl.start = .running ∨ s.cfl.start = .strapFault → (∀ t source, c ≠ .reset t source) →
    exec c s = .next u → u.cfl = s.cfl

/-! ## Reset and start -/

/-- The values of the part in the power-on reset (R4, R41, R64, R86, R113, R131, R145, R164, R178, R188, R192). The levels at
the input pins, the idle line, the moment, the press on its way and the two fields of the model are its own choice (log 1, log 7,
log 9, log 27) and are not stated. -/
def Obligations.PowerOnResetValues : Prop :=
  State.reset.ssv.entries.toList = List.replicate 24
    { state := .absent, lastSeq := none, lastAccepted := none, violations := 0, progress := 0, lossReported := false,
      lateAt := none } ∧
  State.reset.ssv.graceAt = none ∧ State.reset.ssv.graceExpired = false ∧
  State.reset.sfu.slots.toList = List.replicate 4 { state := .absent, report := none, outliers := 0 } ∧
  State.reset.sfu.fused = none ∧ State.reset.sfu.usable = 0 ∧ State.reset.sfu.speedState = .unknown ∧
  State.reset.sfu.direction = .unknown ∧ State.reset.sfu.disagree = false ∧ State.reset.sfu.disagreements = 0 ∧
  State.reset.sfu.noSpeedRaised = false ∧ State.reset.sfu.graceExpired = false ∧
  State.reset.sdm =
    { fused := none, limits := { permitted := none, target := none, distance := none }, displayed := none, lit := 0,
      permittedMarker := none, targetMarker := none, targetReadout := none, bar := 0, level := .notSupervised,
      rearm := true } ∧
  State.reset.asu =
    { primary := { state := .absent, report := none }, secondary := { state := .absent, report := none },
      graceExpired := false,
      shown := { code := none, rank := 0, station := none, inst := none,
                 limits := { permitted := none, target := none, distance := none } },
      pendingAck := none, ackAt := none, repeatAt := none, disagreeAt := none, lossRaised := false,
      disagreeRaised := false } ∧
  State.reset.flm = { records := [], counter := 0, overflow := false, reminderAt := none } ∧
  State.reset.cru.role = .idle ∧ State.reset.cru.keyOn = false ∧
  State.reset.cru.peers.toList = List.replicate 3 { state := .absent, held := none } ∧
  State.reset.cru.claimAt = none ∧ State.reset.cru.deskAt = none ∧ State.reset.cru.deskDue = none ∧
  State.reset.cru.peerConflictRaised = false ∧
  State.reset.diu.acknowledge.taken = false ∧ State.reset.diu.scroll.taken = false ∧ State.reset.diu.test.taken = false ∧
  State.reset.diu.key.taken = false ∧ State.reset.diu.dimmer.taken = 7 ∧
  State.reset.diu.acknowledge.endsAt = none ∧ State.reset.diu.scroll.endsAt = none ∧ State.reset.diu.test.endsAt = none ∧
  State.reset.diu.key.endsAt = none ∧ State.reset.diu.dimmer.endsAt = none ∧
  State.reset.diu.testHeld = false ∧ State.reset.diu.window = none ∧ State.reset.diu.scrollAt = none ∧
  State.reset.idr.f1 = none ∧ State.reset.idr.f2 = none ∧ State.reset.idr.brightness = 7 ∧
  State.reset.idr.lamps.aspect.toList = List.replicate 8 .off ∧ State.reset.idr.lamps.stop = .off ∧
  State.reset.idr.lamps.action = .off ∧ State.reset.idr.lamps.overspeed = .off ∧ State.reset.idr.lamps.cab = .off ∧
  State.reset.idr.lamps.source = .fast ∧
  State.reset.idr.arbiter = { asserted := [], oneShot := none, playing := none } ∧
  State.reset.lif.head = none ∧ State.reset.lif.waiting = [] ∧ State.reset.lif.drive = .released ∧
  State.reset.lif.attemptCount = 0 ∧ State.reset.ltxen = false ∧ State.reset.ltxd = .idle ∧
  State.reset.lif.hold = none ∧
  State.reset.lif.counters = { desk := 0, ackn := 0, overdue := 0, snapState := 0, snapFaults := 0 } ∧
  State.reset.lif.clashAt = none ∧ State.reset.lif.clashRaised = false ∧ State.reset.lif.failedSendRaised = false ∧
  State.reset.lif.queueLossRaised = false ∧
  State.reset.cfl =
    { start := .sampling, straps := none, config := none, fallback := false, lampCheckAt := none, runningSince := none,
      busReleased := true } ∧
  State.reset.snu.latch = none

/-- RESET, in any state: every block returns to its reset values, the part is held in SAMPLING with that input low, a frame
being driven is cut off with LTXD at the idle level (R178, R179, R188). What stands outside the blocks is kept (log 10): the
levels at the desk inputs, and the line's own state; where the part was driving, the line is idle from the last bit driven. -/
def Obligations.ResetReturnsEveryBlock : Prop :=
  ∀ (t : Time) (source : ResetSource) (s : State), ∃ u, exec (.reset t source) s = .next u ∧
    u.ssv = State.reset.ssv ∧ u.sfu = State.reset.sfu ∧ u.sdm = State.reset.sdm ∧ u.asu = State.reset.asu ∧
    u.flm = State.reset.flm ∧ u.cru = State.reset.cru ∧ u.idr = State.reset.idr ∧ u.cfl = State.reset.cfl ∧
    u.snu = State.reset.snu ∧
    (s.lif.drive = .released →
      u.lif = { State.reset.lif with idleSince := s.lif.idleSince, busyUntil := s.lif.busyUntil }) ∧
    (∀ d, s.lif.drive ≠ .released → s.lif.drivenAt = some d →
      u.lif = { State.reset.lif with
        idleSince := some (min (max s.now t) (d + 10 * s.lif.driven.length * s.bitTime)), busyUntil := s.lif.busyUntil }) ∧
    u.ltxen = false ∧ u.ltxd = .idle ∧ u.lif.attemptCount = 0 ∧ u.routed = none ∧
    u.diu = { State.reset.diu with
      acknowledge := { level := s.diu.acknowledge.level, taken := false, endsAt := none }
      scroll := { level := s.diu.scroll.level, taken := false, endsAt := none }
      test := { level := s.diu.test.level, taken := false, endsAt := none }
      key := { level := s.diu.key.level, taken := false, endsAt := none }
      dimmer := { level := s.diu.dimmer.level, taken := 7, endsAt := none } } ∧
    (source = .supok → u.supokHigh = false ∧ u.rstnHigh = s.rstnHigh) ∧
    (source = .rstn → u.rstnHigh = false ∧ u.supokHigh = s.supokHigh) ∧
    u.now = max s.now t ∧ u.pending = s.pending

/-- RESET_RELEASE, in SAMPLING: the straps are sampled; LOADING, or STRAP_FAULT for station 0; and every input that differs
from its reset state starts its stability interval (R136, R145, R179, R180). -/
def Obligations.ReleaseSamplesTheStraps : Prop :=
  ∀ (t : Time) (p : Straps) (s : State), s.cfl.start = .sampling → ∃ u, exec (.resetRelease t p) s = .next u ∧
    u.cfl.straps = some p ∧ u.cfl.start = (if p.station = 0 then .strapFault else .loading) ∧
    u.cfl.config = s.cfl.config ∧ u.heldInReset = false ∧
    u.diu.acknowledge.endsAt = (if s.diu.acknowledge.level = s.diu.acknowledge.taken then none
      else some (max s.now t + 30000)) ∧
    u.diu.scroll.endsAt = (if s.diu.scroll.level = s.diu.scroll.taken then none else some (max s.now t + 30000)) ∧
    u.diu.test.endsAt = (if s.diu.test.level = s.diu.test.taken then none else some (max s.now t + 30000)) ∧
    u.diu.key.endsAt = (if s.diu.key.level = s.diu.key.taken then none else some (max s.now t + 50000)) ∧
    u.diu.dimmer.endsAt = (if s.diu.dimmer.level = s.diu.dimmer.taken then none else some (max s.now t + 100000)) ∧
    u.diu.window = s.diu.window ∧ u.diu.testHeld = s.diu.testHeld ∧ u.lif = s.lif ∧ u.idr = s.idr

/-- LOAD_END, in LOADING: the steps of the load, the four conditions under which the image is taken, then the image or the
fallback configuration with its flag; LAMP_CHECK is entered with its timer at 1000 ms, and START_CHIRP plays where its enable
condition holds (R158, R181, R186, R187). That a length out of range ends the read with a not-acknowledge and a stop is the
model's reading (log 11). -/
def Obligations.LoadEndEntersLampCheck : Prop :=
  ∀ (t : Time) (acks : MemoryAcks) (memory : List Byte) (s : State), s.cfl.start = .loading →
    let m : MemoryAnswer := { acks := acks, bytes := memory }
    let n : Nat := 256 * (m.byte 0).toNat + (m.byte 1).toNat
    let k : Nat := if 64 ≤ n ∧ n ≤ 1024 then n else 2
    let clear : List BusStep := List.replicate 9 .pulse ++ [.stop]
    (acks.writeAddress = false → m.transaction = clear ++ [.start, .send 0xA0, .stop]) ∧
    (acks.writeAddress = true → acks.wordHigh = false → m.transaction = clear ++ [.start, .send 0xA0, .send 0, .stop]) ∧
    (acks.writeAddress = true → acks.wordHigh = true → acks.wordLow = false →
      m.transaction = clear ++ [.start, .send 0xA0, .send 0, .send 0, .stop]) ∧
    (acks.writeAddress = true → acks.wordHigh = true → acks.wordLow = true → acks.readAddress = false →
      m.transaction = clear ++ [.start, .send 0xA0, .send 0, .send 0, .start, .send 0xA1, .stop]) ∧
    (acks = { writeAddress := true, wordHigh := true, wordLow := true, readAddress := true } →
      m.transaction = clear ++ [.start, .send 0xA0, .send 0, .send 0, .start, .send 0xA1] ++
        (List.range k).map (fun i => .read i (decide (i + 1 < k))) ++ [.stop] ∧
      m.bytesRead = (List.range k).map m.byte) ∧
    (m.imageTaken = true ↔
      acks = { writeAddress := true, wordHigh := true, wordLow := true, readAddress := true } ∧ 64 ≤ n ∧ n ≤ 1024 ∧
        m.byte 2 = 1 ∧
        (((List.range n).drop 5).map (fun i => (m.byte i).toNat)).sum % 65536 = 256 * (m.byte 3).toNat + (m.byte 4).toNat) ∧
    ∃ u, exec (.loadEnd t acks memory) s = .next u ∧
      u.cfl = { s.cfl with
        start := .lampCheck
        config := some (if m.imageTaken = true then imageConfiguration s.own m.bytesRead else fallbackConfiguration s.own)
        fallback := !m.imageTaken
        lampCheckAt := some (max s.now t + 1000000)
        busReleased := true } ∧
      (s.idr.arbiter = { asserted := [], oneShot := none, playing := none } →
        u.idr.arbiter.playing =
          if u.cfg.toneEnables.getLsbD 0 = true ∧ u.cfg.toneEnables.getLsbD 10 = true then
            some { pattern := .startChirp, since := max s.now t }
          else none) ∧
      u.idr.lamps = s.idr.lamps ∧ u.diu = s.diu ∧ u.lif = s.lif

/-- LAMP_CHECK_TIMER_EXPIRY: RUNNING begins (R4, R131, R146, R186, R187). -/
def Obligations.LampCheckExpiryStartsRunning : Prop :=
  ∀ (t : Time) (s : State), s.Inv → s.cfl.lampCheckAt = some t → ∃ u, exec .lampCheckTimerExpiry s = .next u ∧
    u.cfl.start = .running ∧ u.cfl.lampCheckAt = none ∧ u.cfl.runningSince = some (max s.now t) ∧
    u.now = max s.now t ∧
    u.ssv.graceAt = some (max s.now t + ms s.cfg.graceMs) ∧ u.ssv.entries = s.ssv.entries ∧
    u.idr.f1 = some { lit := true, endsAt := max s.now t + ms (10 * s.cfg.f1.onTime) } ∧
    u.idr.f2 = some { lit := true, endsAt := max s.now t + ms (10 * s.cfg.f2.onTime) } ∧
    u.cru.keyOn = s.diu.key.taken ∧ u.cru.role = (if s.diu.key.taken = true then .claiming else .idle) ∧
    u.cru.claimAt = (if s.diu.key.taken = true then some (max s.now t + ms s.cfg.claimMs) else none) ∧
    u.cru.deskAt = some (max s.now t + ms s.cfg.deskPeriodMs) ∧ u.cru.deskDue = none ∧
    (∃ c, u.lif.waiting = [{ content := .desk c, entered := max s.now t }] ∧ c.role = u.cru.role ∧
      c.keyOn = u.cru.keyOn ∧ c.cabEndB = s.cabEndB ∧ c.fallback = s.cfl.fallback ∧ c.displayed = none) ∧
    (s.cfl.fallback = true → u.flm.Raised s.own 0xF060 .stop) ∧
    (s.cfl.fallback = false → u.flm.records = [])

/-- The check of R185 on the 24 entries, in order of index: an enabled entry stays enabled exactly when its station is neither
0 nor the own station and no entry before it that has stayed enabled has its station and kind, or, but for FAULT, its kind and
role index. Nothing else of an entry changes. -/
def Obligations.ConflictingEntriesAreDisabled : Prop :=
  ∀ (own : Nat) (entries : List SourceConfig), entries.length = 24 → ∀ i : Fin 24,
    ∃ c, entries[i.val]? = some c ∧
      ((checkedEntries own entries).get i).enabled =
        (c.enabled && decide (c.station ≠ 0) && decide (c.station ≠ own) &&
          (List.finRange 24).all (fun j => !(decide (j < i) && ((checkedEntries own entries).get j).enabled) ||
            (!(((checkedEntries own entries).get j).station == c.station &&
                ((checkedEntries own entries).get j).kind == c.kind) &&
             !(c.kind != .fault && ((checkedEntries own entries).get j).kind == c.kind &&
                ((checkedEntries own entries).get j).roleIndex == c.roleIndex)))) ∧
      { (checkedEntries own entries).get i with enabled := c.enabled } = c

/-- Whatever the memory answered, every setting of the configuration that the load ends with is in its range, and its enabled
entries meet the conditions of R2 (R2, R182 to R186). -/
def Obligations.LoadedConfigurationIsInRange : Prop :=
  ∀ (own : Nat) (m : MemoryAnswer), (loadedConfiguration own m).InRange own

/-- The layout of a taken image and its clamping (R3, R66, R182, R183, R184): every general setting from its bytes, or its default
where they do not lie wholly below the length; every source entry before the check of R185, which may only disable it; every
catalogue entry. The other fields of an entry that the image does not reach are the model's choice (log 25) and are not
stated. -/
def Obligations.ImageBytesAreTheSettings : Prop :=
  ∀ (own : Nat) (image : List Byte),
    let b : Nat → Nat := fun i => (image.getD i 0).toNat
    let w : Nat → Nat := fun i => 256 * b i + b (i + 1)
    let near : Nat → Nat → Nat → Nat := fun lo hi v => if v < lo then lo else if hi < v then hi else v
    let held : Nat → Nat → Nat → Nat := fun n v dflt => if n ≤ image.length then v else dflt
    let c := imageConfiguration own image
    c.graceMs = held 7 (near 500 10000 (w 5)) 3000 ∧ c.tolerance = held 9 (near 50 1000 (w 7)) 150 ∧
    c.standstill = held 10 (near 0 200 (b 9)) 30 ∧ c.hysteresis = held 11 (near 0 50 (b 10)) 20 ∧
    c.arcScale = held 13 (near 120 400 (w 11)) 160 ∧ c.barScale = held 15 (near 500 4000 (w 13)) 2000 ∧
    c.warnBand = held 16 (near 1 10 (b 15)) 3 ∧ c.returnHyst = min c.warnBand (held 17 (near 0 5 (b 16)) 2) ∧
    c.reporting = (if held 18 (b 17) 1 = 0 then .continuous else if held 18 (b 17) 1 = 1 then .entryAndReturn else .entryOnly) ∧
    c.ackMs = held 20 (near 2000 8000 (w 18)) 4000 ∧ c.reminderS = held 22 (near 30 300 (w 20)) 60 ∧
    c.claimMs = held 24 (near 200 1000 (w 22)) 300 ∧ c.deskPeriodMs = held 26 (near 50 500 (w 24)) 100 ∧
    c.scrollReturnS = held 27 (near 2 30 (b 26)) 10 ∧
    c.f1.period = held 28 (near 10 255 (b 27)) 100 ∧ c.f1.onTime = held 29 (near 1 (c.f1.period - 1) (b 28)) 50 ∧
    c.f2.period = held 30 (near 10 255 (b 29)) 50 ∧ c.f2.onTime = held 31 (near 1 (c.f2.period - 1) (b 30)) 25 ∧
    c.toneEnables.toNat = held 33 (w 31) 65535 ∧ c.lossCode.val = held 234 (near 0 15 (b 233)) 15 ∧
    c.entries = checkedEntries own ((List.range 24).map (sourceEntryAt image)) ∧
    (∀ i, i < 24 →
      let e := sourceEntryAt image i
      let at0 := 33 + 5 * i
      (image.length < at0 + 5 → e.enabled = false) ∧
      (at0 + 5 ≤ image.length →
        e.enabled = decide (128 ≤ b at0) ∧ e.station = b at0 % 32 ∧
        e.kind = (if b (at0 + 1) / 64 = 0 then .speed else if b (at0 + 1) / 64 = 1 then .aspect
          else if b (at0 + 1) / 64 = 2 then .fault else .desk) ∧
        (e.kind = .speed → e.roleIndex = b (at0 + 1) / 16 % 4) ∧ (e.kind = .aspect → e.roleIndex = min 1 (b (at0 + 1) / 16 % 4)) ∧
        (e.kind = .desk → e.roleIndex = min 2 (b (at0 + 1) / 16 % 4)) ∧
        (b at0 / 64 % 2 = 0 →
          e.lowerMs = 10 * b (at0 + 2) ∧ e.upperMs = 10 * max 2 (b (at0 + 3)) ∧ e.qualCount = near 1 8 (b (at0 + 4)) ∧
          e.lossLimit = (if b (at0 + 1) / 2 % 2 = 1 then 3 else 1) ∧
          e.report = (if b (at0 + 1) / 4 % 4 = 0 then .fault else if b (at0 + 1) / 4 % 4 = 1 then .warning else .silent)) ∧
        (b at0 / 64 % 2 = 1 → e.lossLimit = 3 ∧
          (e.kind = .speed → e.lowerMs = 20 ∧ e.upperMs = 250 ∧ e.qualCount = 2 ∧ e.report = .fault) ∧
          (e.kind = .aspect → e.lowerMs = 20 ∧ e.upperMs = 600 ∧ e.qualCount = 2 ∧ e.report = .fault) ∧
          (e.kind = .fault → e.lowerMs = 100 ∧ e.upperMs = 2500 ∧ e.qualCount = 1 ∧ e.report = .warning) ∧
          (e.kind = .desk → e.lowerMs = 20 ∧ e.upperMs = 350 ∧ e.qualCount = 2 ∧ e.report = .silent)))) ∧
    (∀ k : Fin 16,
      let e := c.catalogue.get k
      let at0 := 153 + 5 * k.val
      let drive : Nat → Drive := fun v => if v = 0 then .off else if v = 1 then .steady else if v = 2 then .slow else .fast
      let written : Bool := decide (at0 + 5 ≤ image.length) && decide (128 ≤ b at0)
      (written = true → e.used = true ∧ e.rank = b at0 % 16 ∧
        (∀ j : Fin 8, e.lamps.get j = drive (b (at0 + 1 + j.val / 4) / 4 ^ (3 - j.val % 4) % 4)) ∧
        e.defaultSpeed = (if b at0 / 64 % 2 = 1 then some (min 400 (w (at0 + 3))) else none)) ∧
      (written = false → k ≠ c.lossCode → e.used = false) ∧
      (written = false → k = c.lossCode → e.used = true ∧ e.rank = 15 ∧ e.defaultSpeed = none ∧
        ∀ j : Fin 8, e.lamps.get j = .fast))

/-! ## Frames -/

/-- Bytes are a good frame exactly when they are the encoding of a frame that the line can carry (R166, R169). That bytes which go
on behind the check are no good frame is the model's choice (log 31). -/
def Obligations.GoodFramesAreTheEncodings : Prop :=
  ∀ (bytes : List Byte) (f : Frame), parseFrame bytes = some f ↔ f.ok = true ∧ frameBytes f = bytes

/-- Every frame the part builds passes the tests of R169 (R166, R167, R168), and carries its own station, its kind and its
sequence; and the payload of each kind is laid out as R167 and R168 say, byte by byte. -/
def Obligations.SentFramesAreGood : Prop :=
  (∀ (own : Nat) (seq : Seq) (content : TxContent), 1 ≤ own → own ≤ 31 →
    (∀ c, content = .snapFaults c → c.records.length ≤ 6) →
    parseFrame (txBytes own seq content) =
      some { station := own, kind := content.kind, seq := seq, payload := content.payload }) ∧
  (∀ c : DeskContent,
    let p := (TxContent.desk c).payload
    p.length = 13 ∧ byteAt p 0 = c.role.code ∧
    (byteAt p 1).getLsbD 0 = c.keyOn ∧ (byteAt p 1).getLsbD 1 = c.cabEndB ∧ (byteAt p 1).getLsbD 2 = c.displayed.isSome ∧
    (byteAt p 1).getLsbD 3 = c.pendingAck.isSome ∧ ((byteAt p 1).getLsbD 4 = true ↔ ∃ r, c.pendingAck = some r ∧ r.overdue = true) ∧
    (byteAt p 1).getLsbD 5 = c.top.isSome ∧ (byteAt p 1).getLsbD 6 = c.overflow ∧ (byteAt p 1).getLsbD 7 = c.fallback ∧
    (wordAt p 2).toNat = c.displayed.getD 0 % 65536 ∧ byteAt p 4 = c.speedState.code ∧ byteAt p 5 = c.level.code ∧
    (byteAt p 6).toNat = (match c.code with
      | some k => k.val
      | none => 255) ∧
    (c.pendingAck = none → byteAt p 7 = 0 ∧ byteAt p 8 = 0) ∧
    (∀ r, c.pendingAck = some r → (byteAt p 7).toNat = r.station % 256 ∧ byteAt p 8 = r.inst) ∧
    (c.top = none → byteAt p 9 = 0 ∧ wordAt p 10 = 0) ∧
    (∀ r, c.top = some r → (byteAt p 9).toNat = r.origin % 256 ∧ wordAt p 10 = r.code) ∧
    (byteAt p 12).toNat = c.count % 256) ∧
  (∀ (station : Nat) (inst : InstanceNo), station < 256 →
    ∃ b : Byte, b.toNat = station ∧ (TxContent.acknAspect station inst).payload = [0, b, 0, inst] ∧
      ∀ time, time < 256 → ∃ x : Byte, x.toNat = time ∧ (TxContent.overdue station inst time).payload = [b, inst, x]) ∧
  (∀ (origin : Nat) (code : FaultCode),
    let p := (TxContent.acknFault origin code).payload
    p.length = 4 ∧ byteAt p 0 = 1 ∧ (byteAt p 1).toNat = origin % 256 ∧ wordAt p 2 = code) ∧
  (∀ c : SnapStateContent,
    let p := (TxContent.snapState c).payload
    p.length = 15 ∧ (byteAt p 0).toNat = c.requester % 256 ∧ wordAt p 1 ++ wordAt p 3 = c.runTime ∧ byteAt p 5 = c.role.code ∧
    (byteAt p 6).getLsbD 0 = c.displayed.isSome ∧ (byteAt p 6).getLsbD 1 = c.fused.isSome ∧
    (byteAt p 6).getLsbD 2 = c.pendingOpen ∧ (byteAt p 6).getLsbD 3 = c.overdue ∧ (byteAt p 6).getLsbD 4 = c.overflow ∧
    byteAt p 6 < 32 ∧ (wordAt p 7).toNat = c.displayed.getD 0 % 65536 ∧ (wordAt p 9).toNat = c.fused.getD 0 % 65536 ∧
    byteAt p 11 = c.speedState.code ∧ byteAt p 12 = c.level.code ∧
    (byteAt p 13).toNat = (match c.code with
      | some k => k.val
      | none => 255) ∧
    (byteAt p 14).toNat = c.count % 256) ∧
  (∀ c : SnapFaultsContent,
    let p := (TxContent.snapFaults c).payload
    p.length = 2 + 4 * c.records.length ∧ (byteAt p 0).toNat = c.requester % 256 ∧
    (byteAt p 1).toNat = c.records.length % 256 ∧
    ∀ i r, c.records[i]? = some r →
      (byteAt p (2 + 4 * i)).toNat % 32 = r.origin % 32 ∧ (byteAt p (2 + 4 * i)).toNat / 32 % 4 = r.cls.num - 1 ∧
      (byteAt p (2 + 4 * i)).getLsbD 7 = r.stale ∧ wordAt p (3 + 4 * i) = r.code ∧
      (byteAt p (5 + 4 * i)).toNat = 16 * (r.count % 16) + r.state.code.toNat) ∧
  ([Role.idle, .mirror, .claiming, .active, .conflict].map Role.code = [0, 1, 2, 3, 4] ∧
    [SpeedState.unknown, .degraded, .good].map SpeedState.code = [0, 1, 2] ∧
    [OverspeedLevel.notSupervised, .normal, .warn, .alarm].map OverspeedLevel.code = [0, 1, 2, 3] ∧
    [RecordState.raisedUnack, .raisedAck, .clearedUnack].map RecordState.code = [0, 1, 2])

/-! ## The line -/

/-- ATTEMPT_START: with the gap of the frame first in order complete (12 + own station bit times for an urgent one, 44 + own
station for a normal one), that frame becomes the head, takes its kind's sequence and goes on the line; a head that failed
before goes again with its sequence (R172, R173). A frame being driven travels as ten bits a byte: a start bit at the non-idle
level, eight data bits with the least significant first, a stop bit at the idle level; LTXEN is active to the end of the last
stop bit, and LTXD is at the idle level while nothing is driven (R165, R178). Which level a data bit 1 has is free (log 28). -/
def Obligations.AttemptStartSendsTheFirstFrame : Prop :=
  (∀ (t i : Time) (s : State), s.cfl.start = .running → s.lif.drive = .released → s.lif.idleSince = some i →
    (∀ (q : QueuedFrame) (rest : List QueuedFrame), s.lif.head = none → s.lif.waiting = q :: rest →
      i + ((if q.content.urgent = true then 12 else 44) + s.own) * s.bitTime ≤ max s.now t →
      exec (.attemptStart t) s = .next { s with
        now := max s.now t
        lif := { s.lif with
          head := some { content := q.content, entered := q.entered, seq := s.lif.counters.of q.content, attempts := 0 }
          waiting := rest
          counters := s.lif.counters.advance q.content
          drive := .head
          driven := txBytes s.own (s.lif.counters.of q.content) q.content
          drivenAt := some (max s.now t)
          idleSince := none } }) ∧
    (∀ h : HeadFrame, s.lif.head = some h →
      i + ((if h.content.urgent = true then 12 else 44) + s.own) * s.bitTime ≤ max s.now t →
      exec (.attemptStart t) s = .next { s with
        now := max s.now t
        lif := { s.lif with
          drive := .head
          driven := txBytes s.own h.seq h.content
          drivenAt := some (max s.now t)
          idleSince := none } })) ∧
  (∀ (d : Time) (s : State), s.lif.drive ≠ .released → s.lif.drivenAt = some d →
    (∀ k i : Nat, k < s.lif.driven.length → i < 10 → d + (10 * k + i) * s.bitTime ≤ s.now →
      s.now < d + (10 * k + i + 1) * s.bitTime →
      s.ltxen = true ∧
      s.ltxd = (if i = 0 then .nonIdle else if i = 9 then .idle else dataLevel ((byteAt s.lif.driven k).getLsbD (i - 1)))) ∧
    (d + 10 * s.lif.driven.length * s.bitTime ≤ s.now → s.ltxen = false ∧ s.ltxd = .idle)) ∧
  (∀ s : State, (s.lif.drive = .released → s.ltxen = false) ∧ (s.lif.drivenAt = none → s.ltxd = .idle)) ∧
  dataLevel true ≠ dataLevel false

/-- ATTEMPT_SUCCESS, when the last stop bit of the frame's k bytes has been driven, 10 × k bit times after the start: the head
leaves the queue, the line is released and idle from the end of that bit, the DESK hold enters, 0xF070 is no longer raised if its
flag was set, and with 4 or fewer frames left 0xF072 is no longer raised if its flag was set (R165, R174, R175, R176). Before that
moment there is no success (the model's choice: such a command does nothing, log 2). -/
def Obligations.AttemptSuccessSendsTheHead : Prop :=
  ∀ (t d : Time) (h : HeadFrame) (s : State), s.lif.drive = .head → s.lif.head = some h → s.lif.drivenAt = some d →
    (max s.now t < d + 10 * s.lif.driven.length * s.bitTime →
      exec (.attemptSuccess t) s = .next { s with now := max s.now t }) ∧
    (d + 10 * s.lif.driven.length * s.bitTime ≤ max s.now t → ∃ u, exec (.attemptSuccess t) s = .next u ∧
      u.lif.head = none ∧ u.lif.drive = .released ∧ u.lif.driven = [] ∧ u.lif.drivenAt = none ∧
      u.lif.idleSince = some (d + 10 * s.lif.driven.length * s.bitTime) ∧
      u.lif.hold = none ∧ u.lif.counters = s.lif.counters ∧ u.lif.failedSendRaised = false ∧
      (s.lif.failedSendRaised = true → u.flm.NotRaised s.own 0xF070) ∧
      (s.lif.hold = none → u.lif.waiting = s.lif.waiting) ∧
      (∀ c, s.lif.hold = some c → (∀ q ∈ s.lif.waiting, q.content.isDesk = false) → s.lif.waiting.length < 8 →
        u.lif.waiting = s.lif.waiting ++ [{ content := .desk c, entered := max s.now t }]) ∧
      (s.lif.hold = none → s.lif.queueLossRaised = true → s.lif.waiting.length ≤ 4 →
        u.lif.queueLossRaised = false ∧ u.flm.NotRaised s.own 0xF072) ∧
      (s.lif.hold = none → 4 < s.lif.waiting.length → u.lif.queueLossRaised = s.lif.queueLossRaised) ∧
      (h.content.isSnap = false → s.lif.hold = none → u.snu = s.snu) ∧
      (s.lif.hold = none → s.lif.failedSendRaised = false → s.lif.queueLossRaised = false → u.flm = s.flm))

/-- ATTEMPT_FAILURE: the line is released and idle from the last bit driven; below the 16th failure the head stays and its count
rises by 1; at the 16th it is discarded, and 0xF070 is raised unless it was (R174). That the receiver's ignoring flag stays as it
was, so that a failed readback does not make the receiver ignore the line, is the model's choice (log 13). -/
def Obligations.AttemptFailureCountsOrDiscards : Prop :=
  ∀ (t d : Time) (h : HeadFrame) (s : State), s.lif.drive = .head → s.lif.head = some h → s.lif.drivenAt = some d →
    (h.attempts < 15 → exec (.attemptFailure t) s = .next { s with
      now := max s.now t
      lif := { s.lif with
        head := some { h with attempts := h.attempts + 1 }
        drive := .released
        driven := []
        drivenAt := none
        idleSince := some (min (max s.now t) (d + 10 * s.lif.driven.length * s.bitTime)) } }) ∧
    (h.attempts = 15 → ∃ u, exec (.attemptFailure t) s = .next u ∧
      u.lif.head = none ∧ u.lif.attemptCount = 0 ∧ u.lif.drive = .released ∧
      u.lif.idleSince = some (min (max s.now t) (d + 10 * s.lif.driven.length * s.bitTime)) ∧ u.lif.hold = none ∧
      u.lif.failedSendRaised = true ∧ u.lif.counters = s.lif.counters ∧
      (s.lif.failedSendRaised = false → u.flm.Raised s.own 0xF070 .action) ∧
      (s.lif.failedSendRaised = true → s.lif.hold = none → s.lif.queueLossRaised = false → u.flm = s.flm))

/-- The commands of the receiver, of START_BIT_HEARD and of PRUNED_HEAD_END change the line's own state and nothing else (R165,
R169, R170, R176): a start bit keeps the line for its byte's ten bit times; after a discard the receiver is ready when the line
can have been idle for 11 bit times and not before; a pruned frame is driven to its last stop bit. Where an idle period begins
after a discard is the model's reading (log 12), and that a command too early does nothing is its choice (log 2). -/
def Obligations.LineEventsChangeOnlyTheLine : Prop :=
  (∀ (t : Time) (s : State), s.lif.drive = .released →
    exec (.startBitHeard t) s = .next { s with
      now := max s.now t, lif := { s.lif with idleSince := none, busyUntil := max s.now t + 10 * s.bitTime } }) ∧
  (∀ (t : Time) (bytes : List Byte) (f : Frame) (s : State), s.lif.drive = .released → parseFrame bytes = some f →
    exec (.frameDropped t bytes) s = .next (s.heardAt t)) ∧
  (∀ (t : Time) (bytes : List Byte) (ending : FrameEnding) (s : State), s.lif.drive = .released →
    isDiscarded bytes ending = true →
    (ending = .cutShort → s.lif.idleSince.getD s.lif.busyUntil + 11 * s.bitTime ≤ max s.now t) →
    exec (.frameDiscard t bytes ending) s = .next { s with
      now := max s.now t
      lif := { s.lif with
        ignoring := true
        busyUntil := max s.now t
        idleSince := match ending with
          | .whole => some (max s.now t)
          | .badStopBit => none
          | .cutShort => some (max s.now t - 11 * s.bitTime) } }) ∧
  (∀ (t : Time) (s : State), s.lif.drive = .released → s.lif.ignoring = true →
    (∀ i, s.lif.idleSince = some i → i + 11 * s.bitTime ≤ max s.now t →
      exec (.receiverReady t) s = .next { s with now := max s.now t, lif := { s.lif with ignoring := false } }) ∧
    (s.lif.idleSince = none → s.lif.busyUntil + 11 * s.bitTime ≤ max s.now t →
      exec (.receiverReady t) s = .next { s with
        now := max s.now t
        lif := { s.lif with ignoring := false, idleSince := some (max s.now t - 11 * s.bitTime) } }) ∧
    (max s.now t < s.lif.idleSince.getD s.lif.busyUntil + 11 * s.bitTime →
      exec (.receiverReady t) s = .next { s with now := max s.now t })) ∧
  (∀ (t d : Time) (s : State), s.lif.drive = .pruned → s.lif.drivenAt = some d →
    (d + 10 * s.lif.driven.length * s.bitTime ≤ max s.now t →
      exec (.prunedHeadEnd t) s = .next { s with
        now := max s.now t
        lif := { s.lif with
          drive := .released
          driven := []
          drivenAt := none
          idleSince := some (d + 10 * s.lif.driven.length * s.bitTime) } }) ∧
    (max s.now t < d + 10 * s.lif.driven.length * s.bitTime →
      exec (.prunedHeadEnd t) s = .next { s with now := max s.now t }))

/-- STATION_CLASH and STATION_CLASH_TIMER_EXPIRY: a clash restarts the timer at 10 s and raises 0xF071 unless it is raised, and
reaches no source entry; while the part drives the line there is none; the timer's expiry clears 0xF071 (R171). -/
def Obligations.StationClashRaisesAndClears : Prop :=
  (∀ (t : Time) (bytes : List Byte) (f : Frame) (s : State), s.cfl.start = .running → s.lif.drive = .released →
    s.lif.ignoring = false → parseFrame bytes = some f → f.station = s.own →
    ∃ u, exec (.stationClash t bytes) s = .next u ∧
      u.lif = { s.lif with
        idleSince := some (max s.now t), clashAt := some (max s.now t + 10000000), clashRaised := true } ∧
      u.ssv = s.ssv ∧ (s.lif.clashRaised = true → u.flm = s.flm) ∧
      (s.lif.clashRaised = false → u.flm.Raised s.own 0xF071 .stop)) ∧
  (∀ (t : Time) (bytes : List Byte) (s : State), s.lif.drive ≠ .released →
    exec (.stationClash t bytes) s = .next { s with now := max s.now t }) ∧
  (∀ (t : Time) (s : State), s.lif.clashAt = some t →
    ∃ u, exec .stationClashTimerExpiry s = .next u ∧
      u.lif = { s.lif with clashAt := none, clashRaised := false } ∧ u.flm.NotRaised s.own 0xF071)

/-- Where a frame handed to the LIF goes (the table of R175), for a queue of at most 8 frames: what the queue holds after it,
and which frame, if any, is lost. Each loss raises 0xF072 unless its flag is set; after an event that has removed a frame, with 4
or fewer left, the flag is cleared and 0xF072 with it (R128, R175, R176). -/
def Obligations.HandedFramesArePlaced : Prop :=
  (∀ (l : Lif) (now : Time) (content : TxContent), l.length ≤ 8 →
    (∀ c, content = .desk c → l.headIsDesk = true →
      l.place now content = { lif := { l with hold := some c }, lost := none }) ∧
    (∀ c, content = .desk c → l.headIsDesk = false → (∃ q ∈ l.waiting, q.content.isDesk = true) →
      l.place now content = { lost := none, lif := { l with
        waiting := l.waiting.map (fun q => if q.content.isDesk then { q with content := content } else q) } }) ∧
    (content.isDesk = false ∨ (l.headIsDesk = false ∧ ∀ q ∈ l.waiting, q.content.isDesk = false) →
      (l.length < 8 → (l.place now content).lost = none ∧
        (l.place now content).lif = { l with waiting := (l.place now content).lif.waiting } ∧
        (content.urgent = true → (l.place now content).lif.waiting =
          l.waiting.filter (·.content.urgent) ++ { content := content, entered := now } ::
            l.waiting.filter (fun q => !q.content.urgent)) ∧
        (content.urgent = false → (l.place now content).lif.waiting =
          l.waiting ++ [{ content := content, entered := now }])) ∧
      (l.length = 8 →
        let test : TxContent → Bool := fun c =>
          if content.urgent then !c.urgent else content.isDesk && c.isSnap
        ((∀ q ∈ l.waiting, test q.content = false) → l.place now content = { lif := l, lost := some content }) ∧
        (∀ before q after, l.waiting = before ++ q :: after → test q.content = true →
          (∀ r ∈ after, test r.content = false) →
          (l.place now content).lost = some q.content ∧
          (l.place now content).lif = { l with waiting := enterQueue { content := content, entered := now } (before ++ after) })))) ∧
  (∀ (s : State) (content : TxContent),
    let p := s.lif.place s.now content
    let u := s.handFrame content
    (p.lost = none → u.lif = p.lif ∧ u.flm = s.flm ∧ u.snu = s.snu) ∧
    (∀ c, p.lost = some c → u.lif = { p.lif with queueLossRaised := true } ∧
      (s.lif.queueLossRaised = true → u.flm = s.flm) ∧
      (s.lif.queueLossRaised = false → u.flm.Raised s.own 0xF072 .note))) ∧
  (∀ s : State,
    (s.lif.queueLossRaised = true → s.lif.length ≤ 4 →
      s.queueEased.lif = { s.lif with queueLossRaised := false } ∧ s.queueEased.flm.NotRaised s.own 0xF072) ∧
    (s.lif.queueLossRaised = false ∨ 4 < s.lif.length → s.queueEased = s) ∧
    (s.lif.hold = none → ∀ h, s.lif.head = some h →
      s.headLeaves = ({ s with lif := { s.lif with head := none }, snu := s.snu.notice h.content } : State).queueEased) ∧
    (s.pruneQueue.lif.waiting = s.lif.waiting.filter (fun q => !q.content.urgent)) ∧
    (s.pruneQueue.lif.length < s.lif.length → s.lif.queueLossRaised = true → s.pruneQueue.lif.length ≤ 4 →
      s.pruneQueue.lif.queueLossRaised = false ∧ s.pruneQueue.flm.NotRaised s.own 0xF072))

/-! ## Source supervision -/

/-- R7: a duplicate changes nothing but the line's idle period and the moment; where the last sequence is none, no arrival is a
duplicate. -/
def Obligations.DuplicateArrivalIsDiscarded : Prop :=
  (∀ (t : Time) (bytes : List Byte) (f : Frame) (i : Fin 24) (s : State), s.Arrives bytes f i →
    (s.ssv.entries.get i).lastSeq = some f.seq → exec (.arrival t bytes) s = .next (s.heardAt t)) ∧
  (∀ (e : Entry) (seq : Seq), e.lastSeq = none → e.duplicate seq = false)

/-- ARRIVAL of an early frame (R5, R8, R15, R18): less than the lower bound after the last accepted one, it is discarded. In
QUALIFYING the progress becomes 0; in VALID and SUSPECT it is a violation, and at the loss limit the entry is LOST. -/
def Obligations.EarlyArrivalIsAViolation : Prop :=
  ∀ (t last : Time) (bytes : List Byte) (f : Frame) (i : Fin 24) (s : State), s.Arrives bytes f i →
    (s.ssv.entries.get i).lastSeq ≠ some f.seq → (s.ssv.entries.get i).lastAccepted = some last →
    0 < (s.source i).lowerMs → (s.source i).lowerMs < (s.source i).upperMs →
    max s.now t - last < ms (s.source i).lowerMs →
    ∃ u, exec (.arrival t bytes) s = .next u ∧ (∀ j, j ≠ i → u.ssv.entries.get j = s.ssv.entries.get j) ∧
      u.ssv.graceAt = s.ssv.graceAt ∧
      ((s.ssv.entries.get i).state = .qualifying → u.ssv.entries.get i = { s.ssv.entries.get i with progress := 0 }) ∧
      ((s.ssv.entries.get i).state = .valid ∨ (s.ssv.entries.get i).state = .suspect →
        ((s.ssv.entries.get i).violations + 1 ≠ (s.source i).lossLimit →
          u.ssv.entries.get i = { s.ssv.entries.get i with
            state := .suspect, violations := (s.ssv.entries.get i).violations + 1 }) ∧
        ((s.ssv.entries.get i).violations + 1 = (s.source i).lossLimit →
          u.ssv.entries.get i =
            { state := .lost, lastSeq := none, lastAccepted := none, violations := 0, progress := 0, lossReported := true,
              lateAt := none }))

/-- ARRIVAL of an accepted frame: what becomes of the entry, by its state, by the gap test and by its settings (R9, R11, R13,
R15, R16, R18, R19, R22). -/
def Obligations.AcceptedArrivalMovesTheEntry : Prop :=
  ∀ (t : Time) (bytes : List Byte) (f : Frame) (i : Fin 24) (s : State), s.Arrives bytes f i →
    (s.ssv.entries.get i).lastSeq ≠ some f.seq → (s.ssv.entries.get i).early (s.source i) (max s.now t) = false →
    ∃ u, exec (.arrival t bytes) s = .next u ∧ (∀ j, j ≠ i → u.ssv.entries.get j = s.ssv.entries.get j) ∧
      u.ssv.graceAt = s.ssv.graceAt ∧
      (let e := s.ssv.entries.get i
       let c := s.source i
       let gap : Prop := ∃ q, e.lastSeq = some q ∧ f.seq ≠ q + 1
       let taken : Entry :=
         { e with lateAt := some (max s.now t + ms c.upperMs), lastAccepted := some (max s.now t), lastSeq := some f.seq }
       let valid : Entry := { taken with state := .valid, violations := 0 }
       let lost : Entry :=
         { state := .lost, lastSeq := none, lastAccepted := none, violations := 0, progress := 0, lossReported := true,
           lateAt := none }
       (e.state = .absent ∨ e.state = .lost →
         (c.qualCount = 1 → u.ssv.entries.get i = { valid with progress := 1, lossReported := false }) ∧
         (c.qualCount ≠ 1 → u.ssv.entries.get i = { taken with state := .qualifying, progress := 1 })) ∧
       (e.state = .qualifying →
         (gap → u.ssv.entries.get i = { taken with progress := 0 }) ∧
         (¬gap → e.progress + 1 = c.qualCount →
           u.ssv.entries.get i = { valid with progress := e.progress + 1, lossReported := false }) ∧
         (¬gap → e.progress + 1 ≠ c.qualCount → u.ssv.entries.get i = { taken with progress := e.progress + 1 })) ∧
       (e.state = .valid ∨ e.state = .suspect →
         (gap → e.violations + 1 = c.lossLimit → u.ssv.entries.get i = lost) ∧
         (gap → e.violations + 1 ≠ c.lossLimit →
           u.ssv.entries.get i = { taken with state := .suspect, violations := e.violations + 1 }) ∧
         (¬gap → e.state = .valid → u.ssv.entries.get i = taken) ∧
         (¬gap → e.state = .suspect → u.ssv.entries.get i = valid)))

/-- LATE_TIMER_EXPIRY (R14, R15, R17, R18, R21): a QUALIFYING entry is LOST; in VALID and SUSPECT it is a violation, with the
timer restarted from the expiry unless the entry is LOST; a loss reported by mode FAULT or WARNING raises its record. -/
def Obligations.LateExpiryMovesTheEntry : Prop :=
  ∀ (t : Time) (i : Fin 24) (s : State), (s.ssv.entries.get i).lateAt = some t →
    (s.ssv.entries.get i).state = .qualifying ∨ (s.ssv.entries.get i).state = .valid ∨
      (s.ssv.entries.get i).state = .suspect →
    ∃ u, exec (.lateTimerExpiry i) s = .next u ∧ (∀ j, j ≠ i → u.ssv.entries.get j = s.ssv.entries.get j) ∧
      u.ssv.graceAt = s.ssv.graceAt ∧ u.now = max s.now t ∧
      (let e := s.ssv.entries.get i
       let c := s.source i
       let lost : Entry :=
         { state := .lost, lastSeq := none, lastAccepted := none, violations := 0, progress := 0, lossReported := true,
           lateAt := none }
       let lossOf : Prop := u.ssv.entries.get i = lost ∧
         (¬(e.state = .qualifying ∧ e.lossReported = true) → c.report = .fault →
           u.flm.Raised s.own (0xF100 + BitVec.ofNat 16 i.val) .action) ∧
         (¬(e.state = .qualifying ∧ e.lossReported = true) → c.report = .warning →
           u.flm.Raised s.own (0xF100 + BitVec.ofNat 16 i.val) .advisory)
       (e.state = .qualifying → lossOf) ∧
       (e.state = .valid ∨ e.state = .suspect →
         (e.violations + 1 = c.lossLimit → lossOf) ∧
         (e.violations + 1 ≠ c.lossLimit →
           u.ssv.entries.get i = { e with
             state := .suspect, violations := e.violations + 1, lateAt := some (max s.now t + ms c.upperMs) })))

/-- STARTUP_GRACE_EXPIRY (R12, R18, R21, R37, R71): the flags are set, every enabled entry still ABSENT is LOST with its loss
reported, and no other entry is affected. -/
def Obligations.GraceExpiryLosesTheAbsent : Prop :=
  ∀ (t : Time) (s : State), s.ssv.graceAt = some t → ∃ u, exec .startupGraceExpiry s = .next u ∧
    u.ssv.graceAt = none ∧ u.ssv.graceExpired = true ∧ u.sfu.graceExpired = true ∧ u.asu.graceExpired = true ∧
    u.now = max s.now t ∧
    ∀ i : Fin 24,
      ((s.source i).enabled = true → (s.ssv.entries.get i).state = .absent →
        u.ssv.entries.get i =
          { state := .lost, lastSeq := none, lastAccepted := none, violations := 0, progress := 0, lossReported := true,
            lateAt := none }) ∧
      (¬((s.source i).enabled = true ∧ (s.ssv.entries.get i).state = .absent) →
        u.ssv.entries.get i = s.ssv.entries.get i)

/-- ARRIVAL: what a used arrival's payload does at the consumer of its kind, that an arrival that is not used brings its payload
to none, and the requests that go with it (R10, R21 to R23): what a speed slot (R27), an aspect view (R67), a peer desk view
(R115) and the Fault List (R92, R93) take; the raise request of a loss; the clear request of a qualification. The entry after the
arrival tells whether it was used; what becomes of it is stated in the two statements before. -/
def Obligations.ArrivalReachesItsConsumer : Prop :=
  (∀ (t : Time) (bytes : List Byte) (f : Frame) (i : Fin 24) (s : State), s.Arrives bytes f i →
    ∃ u, exec (.arrival t bytes) s = .next u ∧
      (let e := s.ssv.entries.get i
       let c := s.source i
       let after := (u.ssv.entries.get i).state
       let accepted : Prop := e.lastSeq ≠ some f.seq ∧ e.early c (max s.now t) = false
       let used : Prop := accepted ∧ (after = .valid ∨ after = .suspect)
       let b : Nat → Byte := fun k => f.payload.getD k 0
       let w : Nat → Nat := fun k => 256 * (b k).toNat + (b (k + 1)).toNat
       (c.kind = .speed →
         let slot := u.sfu.slots.get (Fin.ofNat 4 c.roleIndex)
         let was := s.sfu.slots.get (Fin.ofNat 4 c.roleIndex)
         (used → slot.state = after ∧ slot.report = some
           { speed := min 40000 (w 0)
             direction := if b 2 = 0 then .standstill else if b 2 = 1 then .forward else if b 2 = 2 then .reverse else .unknown
             quality := if b 3 = 0 then (if 40000 < w 0 then .degraded else .good) else if b 3 = 1 then .degraded else .invalid }) ∧
         (¬used → after = .lost → e.state ≠ .lost → slot.report = none) ∧
         (¬used → after ≠ .lost → slot.report = was.report) ∧
         (¬used → after = e.state → u.sfu = s.sfu)) ∧
       (c.kind = .aspect →
         let view := if c.roleIndex = 0 then u.asu.primary else u.asu.secondary
         let was := if c.roleIndex = 0 then s.asu.primary else s.asu.secondary
         let field : Nat → Nat → Nat → Option Nat := fun bit cap at0 => if (b 2).getLsbD bit then some (min cap (w at0)) else none
         (used → view.state = after ∧ ∃ r, view.report = some r ∧ r.station = c.station ∧ r.inst = b 0 ∧
           r.code.map (·.val) = (if (b 1).toNat ≤ 15 then some (b 1).toNat else none) ∧
           r.limits = { permitted := field 0 400 3, target := field 1 400 5, distance := field 2 65000 7 }) ∧
         (¬used → after = .lost → e.state ≠ .lost → view.report = none) ∧
         (¬used → after ≠ .lost → view.report = was.report) ∧
         (¬used → after = e.state → u.asu = s.asu)) ∧
       (c.kind = .desk →
         let view := u.cru.peers.get (Fin.ofNat 3 c.roleIndex)
         let was := s.cru.peers.get (Fin.ofNat 3 c.roleIndex)
         (used → view = { state := after, held := some { roleCode := b 0, keyOn := (b 1).getLsbD 0 } }) ∧
         (¬used → after ≠ e.state → after = .lost ∨ after = .qualifying → view = { state := after, held := none }) ∧
         (¬used → after ≠ e.state → after = .suspect → view = { was with state := after }) ∧
         (¬used → after = e.state → u.cru = s.cru)) ∧
       (c.kind = .fault →
         (used → e.lossReported = false → u.flm = ((s.reach t).flmReconcile c.station f.payload).flm) ∧
         (¬used → after ≠ .lost → u.flm = s.flm) ∧
         (after = .lost → e.state ≠ .lost → ∀ r ∈ u.flm.records, r.origin = c.station → r.internal = false → r.stale = true)) ∧
       (after = .lost → e.state ≠ .lost →
         (c.report = .fault → u.flm.Raised s.own (0xF100 + BitVec.ofNat 16 i.val) .action) ∧
         (c.report = .warning → u.flm.Raised s.own (0xF100 + BitVec.ofNat 16 i.val) .advisory)) ∧
       (e.state = .absent ∨ e.state = .lost ∨ e.state = .qualifying → after = .valid → e.lossReported = true →
         c.report ≠ .silent → u.flm.NotRaised s.own (0xF100 + BitVec.ofNat 16 i.val)))) ∧
  (∀ payload : List Byte,
    let at0 : Nat → ListedFault := fun k =>
      { code := wordAt payload (1 + 3 * k)
        cls := if byteAt payload (3 + 3 * k) = 2 then .action else if byteAt payload (3 + 3 * k) = 3 then .advisory
          else if byteAt payload (3 + 3 * k) = 4 then .note else .stop }
    ((summaryOf payload).map (·.code)).Nodup ∧
    ∀ x : ListedFault, x ∈ summaryOf payload ↔
      ∃ k, k < (byteAt payload 0).toNat ∧ x = at0 k ∧ ∀ j, j < k → (at0 j).code ≠ (at0 k).code)

/-- ACKN_FRAME (R24; R82 for ASPECT; R100 and R102 for FAULT): dropped unless its desk's entry is VALID or SUSPECT. ASPECT
closes the pending record it names exactly; FAULT acknowledges the record it names, never an internal one; nothing is sent. -/
def Obligations.AcknFrameIsTakenFromPresentDesks : Prop :=
  ∀ (t : Time) (bytes : List Byte) (f : Frame) (s : State), s.Hears bytes f → f.kind = .ackn →
    (s.deskPresent f.station = false → exec (.acknFrame t bytes) s = .next (s.heardAt t)) ∧
    (s.deskPresent f.station = true → byteAt f.payload 0 = 0 → ∃ u, exec (.acknFrame t bytes) s = .next u ∧
      u.flm = s.flm ∧ u.lif = (s.heardAt t).lif ∧ u.ssv = s.ssv ∧
      (∀ r, s.asu.pendingAck = some r → r.station = (byteAt f.payload 1).toNat → r.inst = byteAt f.payload 3 →
        u.asu = { s.asu with pendingAck := none, ackAt := none, repeatAt := none }) ∧
      ((∀ r, s.asu.pendingAck = some r → ¬(r.station = (byteAt f.payload 1).toNat ∧ r.inst = byteAt f.payload 3)) →
        u = s.heardAt t)) ∧
    (s.deskPresent f.station = true → byteAt f.payload 0 ≠ 0 → ∃ u, exec (.acknFrame t bytes) s = .next u ∧
      u.asu = s.asu ∧ u.lif = (s.heardAt t).lif ∧ u.ssv = s.ssv ∧
      (∀ r, r ∈ s.flm.records →
        ¬(r.internal = false ∧ r.origin = (byteAt f.payload 1).toNat ∧ r.code = wordAt f.payload 2) →
        r ∈ u.flm.records) ∧
      (∀ r, r ∈ s.flm.records → r.internal = false → r.origin = (byteAt f.payload 1).toNat → r.code = wordAt f.payload 2 →
        (r.state = .raisedUnack → { r with state := .raisedAck } ∈ u.flm.records) ∧
        (r.state = .raisedAck → r ∈ u.flm.records)) ∧
      (∀ r, r ∈ u.flm.records → r.internal = false → r.origin = (byteAt f.payload 1).toNat → r.code = wordAt f.payload 2 →
        r.state = .raisedAck))

/-! ## Fused and displayed speed -/

/-- A computation of the SFU: the usable slots (R28), the fused speed of the table, between the least and the greatest usable
speed and at 40000 or less (R31), the speed state (R33), the direction (R34), the outlier counts with 0xF020 to 0xF023 (R35), the
disagreement count with 0xF010 (R36), and 0xF030 at a computation and at the grace notice (R37). `v` is the list of the usable
speeds in ascending order. -/
def Obligations.FusedSpeedIsTheTable : Prop :=
  ∀ (u : Sfu) (c : Configuration),
    let v := ascending (u.reports.map (·.speed))
    let g := u.computed c
    let n := u.reports.length
    let forward := (u.reports.filter (fun r => r.direction == .forward)).length
    let reverse := (u.reports.filter (fun r => r.direction == .reverse)).length
    u.reports = (List.finRange 4).filterMap (fun k => (u.slots.get k).usable) ∧
    (∀ (slot : Slot) (r : SpeedReport), slot.usable = some r ↔
      slot.report = some r ∧ (slot.state = .valid ∨ slot.state = .suspect) ∧ (r.quality = .good ∨ r.quality = .degraded)) ∧
    v.Perm (u.reports.map (·.speed)) ∧ v.Pairwise (· ≤ ·) ∧ v.length ≤ 4 ∧
    (∀ v1 v2 v3 v4, v = [v1, v2, v3, v4] → g.fused = some ((v2 + v3 + 1) / 2) ∧ g.disagree = false) ∧
    (∀ v1 v2 v3, v = [v1, v2, v3] → g.fused = some v2 ∧ g.disagree = false) ∧
    (∀ v1 v2, v = [v1, v2] → v2 - v1 ≤ c.tolerance → g.fused = some ((v1 + v2 + 1) / 2) ∧ g.disagree = false) ∧
    (∀ v1 v2, v = [v1, v2] → c.tolerance < v2 - v1 → g.fused = some v2 ∧ g.disagree = true) ∧
    (∀ v1, v = [v1] → g.fused = some v1 ∧ g.disagree = false) ∧
    (v = [] → g.fused = none ∧ g.disagree = false) ∧
    (∀ x, g.fused = some x → ∃ lo ∈ v, ∃ hi ∈ v, lo ≤ x ∧ x ≤ hi) ∧
    ((∀ x ∈ v, x ≤ 40000) → ∀ x, g.fused = some x → x ≤ 40000) ∧
    g.usable = n ∧
    (let low : Prop := n = 1 ∨ g.disagree = true ∨ ∃ (k : Fin 4) (r : SpeedReport), (u.slots.get k).usable = some r ∧
       ((u.slots.get k).state = .suspect ∨ r.quality = .degraded)
     (n = 0 → g.speedState = .unknown) ∧ (n ≠ 0 → low → g.speedState = .degraded) ∧
     (n ≠ 0 → ¬low → g.speedState = .good)) ∧
    (n = 0 → g.direction = .unknown) ∧ (reverse < forward → g.direction = .forward) ∧
    (forward < reverse → g.direction = .reverse) ∧
    (∀ f, g.fused = some f → forward = reverse →
      (f < c.standstill → g.direction = .standstill) ∧ (c.standstill ≤ f → g.direction = .unknown)) ∧
    (∀ k : Fin 4, (g.slots.get k).state = (u.slots.get k).state ∧ (g.slots.get k).report = (u.slots.get k).report ∧
      ((u.slots.get k).usable = none ∨ n ≤ 2 → (g.slots.get k).outliers = 0) ∧
      (∀ r f, (u.slots.get k).usable = some r → 3 ≤ n → g.fused = some f →
        (c.tolerance + r.speed < f ∨ c.tolerance + f < r.speed →
          (g.slots.get k).outliers = min 5 ((u.slots.get k).outliers + 1)) ∧
        (¬(c.tolerance + r.speed < f ∨ c.tolerance + f < r.speed) → (g.slots.get k).outliers = 0))) ∧
    g.disagreements = (if g.disagree = true then min 5 (u.disagreements + 1) else 0) ∧
    g.graceExpired = u.graceExpired ∧
    (∀ s : State, s.sfu = u → s.cfg = c → s.flm.Lawful → s.sfuCompute.sfu = g ∧
      (∀ k : Fin 4,
        ((u.slots.get k).outliers = 4 → (g.slots.get k).outliers = 5 →
          s.sfuCompute.flm.Raised s.own (0xF020 + BitVec.ofNat 16 k.val) .advisory) ∧
        ((u.slots.get k).outliers = 5 → (g.slots.get k).outliers = 0 →
          s.sfuCompute.flm.NotRaised s.own (0xF020 + BitVec.ofNat 16 k.val))) ∧
      (u.disagreements = 4 → g.disagreements = 5 → s.sfuCompute.flm.Raised s.own 0xF010 .advisory) ∧
      (u.disagreements = 5 → g.disagreements = 0 → s.sfuCompute.flm.NotRaised s.own 0xF010) ∧
      (u.graceExpired = true → u.speedState ≠ .unknown → g.speedState = .unknown →
        g.noSpeedRaised = true ∧ s.sfuCompute.flm.Raised s.own 0xF030 .action) ∧
      (u.graceExpired = true → u.speedState = .unknown → g.speedState ≠ .unknown →
        g.noSpeedRaised = false ∧ (u.noSpeedRaised = true → s.sfuCompute.flm.NotRaised s.own 0xF030)) ∧
      ((∀ k : Fin 4, (g.slots.get k).outliers = 5 ↔ (u.slots.get k).outliers = 5) →
        (g.disagreements = 5 ↔ u.disagreements = 5) →
        u.graceExpired = false ∨ (g.speedState = .unknown ↔ u.speedState = .unknown) →
        (∀ k : Fin 4, (u.slots.get k).outliers ≤ 5) → u.disagreements ≤ 5 → s.sfuCompute.flm = s.flm) ∧
      s.sfuGrace.sfu.graceExpired = true ∧
      (u.speedState = .unknown → s.sfuGrace.sfu.noSpeedRaised = true ∧ s.sfuGrace.flm.Raised s.own 0xF030 .action) ∧
      (u.speedState ≠ .unknown → s.sfuGrace.sfu.noSpeedRaised = u.noSpeedRaised ∧ s.sfuGrace.flm = s.flm))

/-- The displayed speed (R45, R46): the five cases in their order, that a repeated hand-off changes nothing, that a held D stays
within 1 of the candidate, the ranges, and that a hand-off at the SDM sets D so. -/
def Obligations.DisplayedSpeedHasHysteresis : Prop :=
  ∀ (mph : Bool) (standstill hysteresis : Nat) (before fused : Option Nat),
    let after := displayedAfter mph standstill hysteresis before fused
    let source : Nat → Nat := fun f => if mph then (f * 6214 + 5000) / 10000 else f
    let nearest : Nat → Nat := fun f => (source f + 50) / 100
    (fused = none → after = none) ∧
    (∀ f, fused = some f → f < standstill → after = some 0) ∧
    (∀ f, fused = some f → standstill ≤ f → before = none → after = some (nearest f)) ∧
    (∀ f d, fused = some f → standstill ≤ f → before = some d →
      ((nearest f ≠ d ∧ (100 * d + 50 + hysteresis ≤ source f ∨ source f + 50 + hysteresis ≤ 100 * d)) →
        after = some (nearest f)) ∧
      (¬(nearest f ≠ d ∧ (100 * d + 50 + hysteresis ≤ source f ∨ source f + 50 + hysteresis ≤ 100 * d)) → after = some d)) ∧
    displayedAfter mph standstill hysteresis after fused = after ∧
    (∀ f x, fused = some f → standstill ≤ f → hysteresis ≤ 50 → after = some x → x ≤ nearest f + 1 ∧ nearest f ≤ x + 1) ∧
    (after = none ↔ fused = none) ∧
    (∀ f x, fused = some f → f ≤ 40000 → (∀ d, before = some d → d ≤ if mph then 249 else 400) → after = some x →
      x ≤ if mph then 249 else 400) ∧
    (∀ s : State, s.mph = mph → s.cfg.standstill = standstill → s.cfg.hysteresis = hysteresis → s.sdm.displayed = before →
      (s.sdmHandOff fused).sdm.displayed = after)

/-- The thresholds (R54) and the overspeed level (R55), with R at most W (R43): the cases in their order, NOT_SUPERVISED exactly
when there is nothing to compare, that a further evaluation on the same f and P changes nothing, and that an evaluation at the
SDM sets the level so. -/
def Obligations.OverspeedLevelHasHysteresis : Prop :=
  ∀ (w r : Nat) (before : OverspeedLevel) (fused permitted : Option Nat), r ≤ w →
    (∀ p, warnOn p = 100 * p ∧ alarmOn p w = 100 * (p + w) ∧ alarmOff p w r + 100 * r = alarmOn p w ∧
      warnOff p r = max 0 (100 * p - 100 * r) ∧ warnOn p ≤ alarmOff p w r) ∧
    (levelAfter w r before fused permitted = .notSupervised ↔ fused = none ∨ permitted = none) ∧
    (∀ f p, fused = some f → permitted = some p →
      (alarmOn p w < f → levelAfter w r before fused permitted = .alarm) ∧
      (f ≤ alarmOn p w → before = .alarm → alarmOff p w r ≤ f → levelAfter w r before fused permitted = .alarm) ∧
      (f ≤ alarmOn p w → ¬(before = .alarm ∧ alarmOff p w r ≤ f) → warnOn p < f →
        levelAfter w r before fused permitted = .warn) ∧
      (f ≤ warnOn p → ¬(before = .alarm ∧ alarmOff p w r ≤ f) → before = .warn ∨ before = .alarm → warnOff p r ≤ f →
        levelAfter w r before fused permitted = .warn) ∧
      (f ≤ warnOn p → ¬((before = .warn ∨ before = .alarm) ∧ warnOff p r ≤ f) →
        levelAfter w r before fused permitted = .normal)) ∧
    levelAfter w r (levelAfter w r before fused permitted) fused permitted = levelAfter w r before fused permitted ∧
    (∀ s : State, s.cfg.warnBand = w → s.cfg.returnHyst = r → s.sdm.level = before → s.sdm.fused = fused →
      s.sdm.limits.permitted = permitted → s.evaluateOverspeed.sdm.level = levelAfter w r before fused permitted)

/-- The one-shot that a transition of the overspeed level issues, the continuous request, and the re-arm flag after it, by the
reporting mode; and that an evaluation at the SDM hands them so (R58 to R61). -/
def Obligations.OverspeedTransitionsIssueTheirTones : Prop :=
  ∀ (mode : ReportingMode) (rearm : Bool) (before after : OverspeedLevel),
    (overspeedIssue mode rearm before after = some .overspeedWarn ↔
      after = .warn ∧ (before = .normal ∨ before = .notSupervised)) ∧
    (overspeedIssue mode rearm before after = some .overspeedAlarm ↔
      after = .alarm ∧ before ≠ .alarm ∧ (mode = .entryAndReturn ∨ (mode = .entryOnly ∧ rearm = true))) ∧
    (overspeedIssue mode rearm before after = some .overspeedClear ↔
      mode = .entryAndReturn ∧ before = .alarm ∧ (after = .warn ∨ after = .normal)) ∧
    (after = .alarm → before ≠ .alarm → rearmAfter before after rearm = false) ∧
    (after = .normal ∨ after = .notSupervised → rearmAfter before after rearm = true) ∧
    (after = .warn ∨ (after = .alarm ∧ before = .alarm) → rearmAfter before after rearm = rearm) ∧
    (Pattern.overspeedAlarm.oneShotMs = 1500 ∧ Pattern.overspeedWarn.oneShotMs = 300 ∧ Pattern.overspeedClear.oneShotMs = 200) ∧
    (∀ s : State, s.cfg.reporting = mode → s.sdm.rearm = rearm → s.sdm.level = before →
      s.evaluateOverspeed.sdm.level = after →
      s.evaluateOverspeed.sdm.rearm = rearmAfter before after rearm ∧
      (.overspeedAlarm ∈ s.evaluateOverspeed.idr.arbiter.asserted ↔ mode = .continuous ∧ after = .alarm) ∧
      (let held := (s.idr.arbiter.hold .overspeedAlarm (mode == .continuous && after == .alarm)).rechoose s.eligible s.now
       (overspeedIssue mode rearm before after = none → s.evaluateOverspeed.idr.arbiter = held) ∧
       (∀ p, overspeedIssue mode rearm before after = some p →
         s.evaluateOverspeed.idr.arbiter = held.issue s.eligible s.now p)))

/-! ## Aspects -/

/-- Which input is usable, and what it would display (R67 to R69, R73): VALID or SUSPECT, a report held, its code in range and
used; code, rank, station, instance, target speed and distance as stored; the permitted speed its own, else the catalogue's
default. The displayed aspect takes the first case of R70 that applies; the loss aspect and NONE have the values of R71, R72. -/
def Obligations.SelectionTakesTheFirstCase : Prop :=
  (∀ (catalogue : Vector CatalogueEntry 16) (v : SourceView),
    ((v.usable catalogue).isSome = true ↔ (v.state = .valid ∨ v.state = .suspect) ∧
      ∃ r c, v.report = some r ∧ r.code = some c ∧ (catalogue.get c).used = true) ∧
    (∀ x r c, v.usable catalogue = some x → v.report = some r → r.code = some c →
      x.code = some c ∧ x.rank = (catalogue.get c).rank ∧ x.station = some r.station ∧ x.inst = some r.inst ∧
      x.limits.target = r.limits.target ∧ x.limits.distance = r.limits.distance ∧
      (∀ speed, r.limits.permitted = some speed → x.limits.permitted = some speed) ∧
      (r.limits.permitted = none → x.limits.permitted = (catalogue.get c).defaultSpeed))) ∧
  ∀ (own : Nat) (c : Configuration) (grace : Bool) (p q : ShownAspect),
    selectAspect own c grace (some p) none = p ∧ selectAspect own c grace none (some q) = q ∧
    (p.rank < q.rank → selectAspect own c grace (some p) (some q) = q) ∧
    (q.rank ≤ p.rank → selectAspect own c grace (some p) (some q) = p) ∧
    selectAspect own c true none none =
      { code := some c.lossCode, rank := (c.catalogue.get c.lossCode).rank, station := some own, inst := some 0,
        limits := { permitted := none, target := none, distance := none } } ∧
    selectAspect own c false none none =
      { code := none, rank := 0, station := none, inst := none,
        limits := { permitted := none, target := none, distance := none } }

/-- A reselection (R70, R72 to R74, R77, R78). An aspect change to a higher rank opens a pending acknowledgement record, or
restarts one of lower rank; nothing else touches the record and its timers. The disagreement timer is started at 2000 ms, left
running, or stopped with the clear of 0xF040; that it is not started again after its expiry while the disagreement lasts is the
model's reading of R74 (log 15). The loss-raised flag is set with the raise of 0xF041, class STOP, and cleared with its clear;
the two requests come in the order in which R70 names them (log 6), and the list is else unchanged. -/
def Obligations.RestrictiveChangeOpensTheRecord : Prop :=
  ∀ s : State,
    let u := s.reselect
    let risen : Prop := u.asu.shown.code ≠ s.asu.shown.code ∧
      (match s.asu.pendingAck with
       | none => s.asu.shown.rank < u.asu.shown.rank
       | some r => r.rank < u.asu.shown.rank)
    u.asu.shown = selectAspect s.own s.cfg s.asu.graceExpired (s.asu.primary.usable s.cfg.catalogue)
      (s.asu.secondary.usable s.cfg.catalogue) ∧
    u.asu.primary = s.asu.primary ∧ u.asu.secondary = s.asu.secondary ∧
    (risen → ∃ r, u.asu.pendingAck = some r ∧ some r.station = u.asu.shown.station.or (some 0) ∧
      some r.inst = u.asu.shown.inst.or (some 0) ∧ r.rank = u.asu.shown.rank ∧ r.overdue = false ∧ r.openedAt = s.now ∧
      u.asu.ackAt = some (s.now + ms s.cfg.ackMs) ∧ u.asu.repeatAt = none) ∧
    (¬risen → u.asu.pendingAck = s.asu.pendingAck ∧ u.asu.ackAt = s.asu.ackAt ∧ u.asu.repeatAt = s.asu.repeatAt) ∧
    (let primary := s.asu.primary.usable s.cfg.catalogue
     let secondary := s.asu.secondary.usable s.cfg.catalogue
     let differ : Prop := ∃ p q, primary = some p ∧ secondary = some q ∧ p.code ≠ q.code
     let lost : Prop := primary = none ∧ secondary = none ∧ s.asu.graceExpired = true
     let found : Prop := primary ≠ none ∨ secondary ≠ none
     (differ → u.asu.disagreeRaised = s.asu.disagreeRaised ∧
       (∀ t, s.asu.disagreeAt = some t → u.asu.disagreeAt = some t) ∧
       (s.asu.disagreeAt = none → s.asu.disagreeRaised = false → u.asu.disagreeAt = some (s.now + 2000000)) ∧
       (s.asu.disagreeAt = none → s.asu.disagreeRaised = true → u.asu.disagreeAt = none)) ∧
     (¬differ → u.asu.disagreeAt = none ∧ u.asu.disagreeRaised = false) ∧
     (lost → u.asu.lossRaised = true) ∧ (found → u.asu.lossRaised = false) ∧
     (¬lost → ¬found → u.asu.lossRaised = s.asu.lossRaised) ∧
     (∀ agreed : State, (s.asu.disagreeRaised = true → ¬differ → agreed = s.flmClear 0xF040) →
       (s.asu.disagreeRaised = false ∨ differ → agreed = s) →
       (s.asu.lossRaised = false → lost → u.flm = (agreed.flmRaise 0xF041 .stop).flm) ∧
       (s.asu.lossRaised = true → found → u.flm = (agreed.flmClear 0xF041).flm) ∧
       (¬(s.asu.lossRaised = false ∧ lost) → ¬(s.asu.lossRaised = true ∧ found) → u.flm = agreed.flm)) ∧
     (s.asu.disagreeRaised = true → ¬differ → u.flm.NotRaised s.own 0xF040) ∧
     (s.asu.lossRaised = false → lost → u.flm.Raised s.own 0xF041 .stop) ∧
     (s.asu.lossRaised = true → found → u.flm.NotRaised s.own 0xF041))

/-- ACKNOWLEDGEMENT_TIMER_EXPIRY, OVERDUE_REPEAT_TIMER_EXPIRY and DISAGREEMENT_TIMER_EXPIRY (R74, R79, R80). -/
def Obligations.AspectTimersExpire : Prop :=
  (∀ (t : Time) (r : PendingAck) (s : State), s.asu.ackAt = some t → s.asu.pendingAck = some r →
    ∃ u, exec .acknowledgementTimerExpiry s = .next u ∧ u.asu.pendingAck = some { r with overdue := true } ∧
      u.asu.ackAt = none ∧ u.asu.shown = s.asu.shown ∧
      (s.cru.role ≠ .active → u.lif = s.lif ∧ u.asu.repeatAt = s.asu.repeatAt) ∧
      (s.cru.role = .active → u.asu.repeatAt = some (max s.now t + 1000000) ∧
        (s.lif.length < 8 →
          { content := .overdue r.station r.inst 0, entered := max s.now t } ∈ u.lif.waiting ∧
          ∀ q ∈ s.lif.waiting, q ∈ u.lif.waiting))) ∧
  (∀ (t : Time) (r : PendingAck) (s : State), s.asu.repeatAt = some t → s.asu.pendingAck = some r → r.overdue = true →
    s.cru.role = .active →
    ∃ u, exec .overdueRepeatTimerExpiry s = .next u ∧
      u.asu = { s.asu with repeatAt := some (max s.now t + 1000000) } ∧
      (s.lif.length < 8 →
        { content := .overdue r.station r.inst
            (min 255 ((max s.now t - r.openedAt - 1000 * s.cfg.ackMs) / 100000)), entered := max s.now t } ∈ u.lif.waiting ∧
        ∀ q ∈ s.lif.waiting, q ∈ u.lif.waiting)) ∧
  (∀ (t : Time) (s : State), s.asu.disagreeAt = some t →
    ∃ u, exec .disagreementTimerExpiry s = .next u ∧ u.asu = { s.asu with disagreeAt := none, disagreeRaised := true } ∧
      u.flm.Raised s.own 0xF040 .advisory ∧ u.lif = s.lif)

/-- ACKNOWLEDGE_PRESS in RUNNING with no earlier press on its way (R81, R101, R133, R137, R138): the DIU routes the press to the
ASU, to the FLM or nowhere; its receiver, which reads the role and the record anew, closes the pending record or acknowledges the
record named, and an ACKN frame is queued, or the press has no effect. Taken whole, a press is routed and then taken. That a
press may be routed in one command and taken in a later one, so that an event can fall between, is the model's form (log 27). -/
def Obligations.AcknowledgePressActsByRoute : Prop :=
  (∀ (t : Time) (s : State), s.cfl.start = .running → s.diu.acknowledge = { level := true, taken := false, endsAt := some t } →
    s.routed = none →
    let pressed : State := { s with
      now := max s.now t, diu := { s.diu with acknowledge := { level := true, taken := true, endsAt := none } } }
    (s.cru.role ≠ .active → exec (.acknowledgePress .whole) s = .next pressed ∧ exec (.acknowledgePress .routing) s = .next pressed) ∧
    (∀ r, s.cru.role = .active → s.asu.pendingAck = some r →
      exec (.acknowledgePress .routing) s = .next { pressed with routed := some { route := .toAsu, at0 := max s.now t } } ∧
      ∃ u, exec (.acknowledgePress .whole) s = .next u ∧
        u.asu = { s.asu with pendingAck := none, ackAt := none, repeatAt := none } ∧
        u.diu.acknowledge = { level := true, taken := true, endsAt := none } ∧
        (s.lif.length < 8 → u.flm = s.flm ∧
          { content := .acknAspect r.station r.inst, entered := max s.now t } ∈ u.lif.waiting ∧
          ∀ q ∈ s.lif.waiting, q ∈ u.lif.waiting)) ∧
    (∀ r, s.cru.role = .active → s.asu.pendingAck = none → shownRecord s.flm s.diu.window = some r → r.state ≠ .raisedAck →
      exec (.acknowledgePress .routing) s = .next { pressed with
        routed := some { route := .toFlm { origin := r.origin, code := r.code }, at0 := max s.now t } } ∧
      (s.flm.Lawful → ∃ u, exec (.acknowledgePress .whole) s = .next u ∧ u.asu = s.asu ∧
        u.diu.acknowledge = { level := true, taken := true, endsAt := none } ∧
        (s.lif.length < 8 →
          { content := .acknFault r.origin r.code, entered := max s.now t } ∈ u.lif.waiting ∧
          (∀ q ∈ s.lif.waiting, q ∈ u.lif.waiting) ∧
          (∀ q ∈ s.flm.records, q ≠ r → q ∈ u.flm.records) ∧
          (r.state = .raisedUnack → { r with state := .raisedAck } ∈ u.flm.records) ∧
          (r.state = .clearedUnack → ∀ q ∈ u.flm.records, q.is r.origin r.code = false)))) ∧
    (s.cru.role = .active → s.asu.pendingAck = none →
      (∀ r, shownRecord s.flm s.diu.window = some r → r.state = .raisedAck) →
      exec (.acknowledgePress .whole) s = .next pressed ∧ exec (.acknowledgePress .routing) s = .next pressed) ∧
    (∀ u, exec (.acknowledgePress .routing) s = .next u →
      exec (.acknowledgePress .whole) s = exec (.acknowledgePress .taking) u)) ∧
  (∀ s : State, s.routed = none → exec (.acknowledgePress .taking) s = .next s) ∧
  (∀ (p : RoutedPress) (s : State), s.routed = some p →
    (s.cru.role ≠ .active → exec (.acknowledgePress .taking) s = .next { s with routed := none }) ∧
    (p.route = .toAsu → s.asu.pendingAck = none → exec (.acknowledgePress .taking) s = .next { s with routed := none }) ∧
    (∀ r, p.route = .toAsu → s.cru.role = .active → s.asu.pendingAck = some r →
      ∃ u, exec (.acknowledgePress .taking) s = .next u ∧ u.routed = none ∧
        u.asu = { s.asu with pendingAck := none, ackAt := none, repeatAt := none } ∧
        (s.lif.length < 8 → u.flm = s.flm ∧
          { content := .acknAspect r.station r.inst, entered := s.now } ∈ u.lif.waiting ∧
          ∀ q ∈ s.lif.waiting, q ∈ u.lif.waiting)) ∧
    (∀ m, p.route = .toFlm m → (∀ r, s.flm.find m.origin m.code = some r → r.state = .raisedAck) →
      exec (.acknowledgePress .taking) s = .next { s with routed := none }) ∧
    (∀ m r, p.route = .toFlm m → s.cru.role = .active → s.flm.find m.origin m.code = some r → r.state ≠ .raisedAck →
      s.flm.Lawful → ∃ u, exec (.acknowledgePress .taking) s = .next u ∧ u.routed = none ∧ u.asu = s.asu ∧
        (s.lif.length < 8 →
          { content := .acknFault r.origin r.code, entered := s.now } ∈ u.lif.waiting ∧
          (∀ q ∈ s.lif.waiting, q ∈ u.lif.waiting) ∧
          (∀ q ∈ s.flm.records, q ≠ r → q ∈ u.flm.records) ∧
          (r.state = .raisedUnack → { r with state := .raisedAck } ∈ u.flm.records) ∧
          (r.state = .clearedUnack → ∀ q ∈ u.flm.records, q.is r.origin r.code = false))))

/-! ## The Fault List -/

/-- An internal raise request and an internal clear request on a lawful list (R89, R91, R95, R98, R99, R104, R106). With the
stamp counter at 65535 the creation renumbers every record from 0 in the order of age, the new one last (R91). And what every
event at the FLM hands on (`State.FlmHandsOn`, R109 to R111): the reminder timer started at the reminder period, left running or
stopped, FAULT_STOP, and one FAULT_ACTION where the event creates or re-raises an ACTION record, and at no clear, stale mark or
acknowledgement. That the class after the event decides is the model's choice (log 26), and FAULT_STOP before it (log 18). -/
def Obligations.RaiseAndClearRequests : Prop :=
  ∀ (s : State) (code : FaultCode) (cls : FaultClass), s.flm.Lawful →
    (s.flm.find s.own code = none → s.flm.records.length < 32 → s.flm.counter < 65535 →
      ({ origin := s.own, internal := true, code := code, cls := cls, state := .raisedUnack, stale := false, count := 1,
         stamp := s.flm.counter } : FaultRecord) ∈ (s.flmRaise code cls).flm.records ∧
      (∀ q ∈ s.flm.records, q ∈ (s.flmRaise code cls).flm.records) ∧
      (s.flmRaise code cls).flm.counter = s.flm.counter + 1) ∧
    (s.flm.find s.own code = none → s.flm.records.length < 32 → s.flm.counter = 65535 →
      ({ origin := s.own, internal := true, code := code, cls := cls, state := .raisedUnack, stale := false, count := 1,
         stamp := s.flm.records.length } : FaultRecord) ∈ (s.flmRaise code cls).flm.records ∧
      (∀ q ∈ s.flm.records, { q with stamp := (s.flm.records.filter (fun p => decide (p.stamp < q.stamp))).length } ∈
        (s.flmRaise code cls).flm.records) ∧
      (s.flmRaise code cls).flm.records.length = s.flm.records.length + 1 ∧
      (s.flmRaise code cls).flm.counter = s.flm.records.length + 1) ∧
    (s.flm.find s.own code = none → s.flm.records.length = 32 → (∀ q ∈ s.flm.records, q.cls.num ≤ cls.num) →
      (s.flmRaise code cls).flm.records = s.flm.records ∧ (s.flmRaise code cls).flm.overflow = true) ∧
    (∀ r, s.flm.find s.own code = some r →
      (r.state = .clearedUnack →
        { r with state := .raisedUnack, count := min 15 (r.count + 1), cls := cls } ∈ (s.flmRaise code cls).flm.records) ∧
      (r.state ≠ .clearedUnack → { r with cls := cls } ∈ (s.flmRaise code cls).flm.records) ∧
      (∀ q ∈ s.flm.records, q ≠ r → q ∈ (s.flmRaise code cls).flm.records) ∧
      (s.flmRaise code cls).flm.records.length = s.flm.records.length) ∧
    (∀ r, s.flm.find s.own code = some r →
      (r.state = .raisedUnack → { r with state := .clearedUnack } ∈ (s.flmClear code).flm.records) ∧
      (r.state = .raisedAck → (s.flmClear code).flm.find s.own code = none) ∧
      (r.state = .clearedUnack → r ∈ (s.flmClear code).flm.records) ∧
      (∀ q ∈ s.flm.records, q ≠ r → q ∈ (s.flmClear code).flm.records)) ∧
    (s.flm.find s.own code = none → (s.flmClear code).flm.records = s.flm.records) ∧
    s.FlmHandsOn (s.flmRaise code cls) (cls = .action ∧
      ((∃ r, s.flm.find s.own code = some r ∧ r.state = .clearedUnack) ∨
       (s.flm.find s.own code = none ∧ (s.flm.records.length < 32 ∨ ∃ q ∈ s.flm.records, cls.num < q.cls.num)))) ∧
    s.FlmHandsOn (s.flmClear code) False ∧
    (∀ origin, s.FlmHandsOn (s.flmStale origin) False) ∧
    (∀ sel, s.FlmHandsOn (s.flmAcknowledge sel) False) ∧
    (∀ origin payload, s.FlmHandsOn (s.flmReconcile origin payload)
      ((s.flm.reconcile origin (summaryOf payload)).action = true))

/-- Who gives way when the list is full (R91, R104, R105): the least severe class among the records less severe than the newcomer,
in it RAISED_ACK before CLEARED_UNACK before RAISED_UNACK, in that the oldest; with no such record the newcomer is refused. With
the stamp counter at 65535 the records that are left are renumbered from 0 in the order of age, the newcomer last. -/
def Obligations.EvictionTakesTheLeastSevere : Prop :=
  ∀ (f : Flm) (r : FaultRecord), f.Lawful → f.records.length = 32 →
    ((∀ q ∈ f.records, q.cls.num ≤ r.cls.num) → f.create r = { f with overflow := true }) ∧
    (∀ q ∈ f.records, r.cls.num < q.cls.num → ∃ v ∈ f.records, r.cls.num < v.cls.num ∧
      (∀ q ∈ f.records, q.cls.num ≤ v.cls.num) ∧
      (∀ q ∈ f.records, q.cls = v.cls → v.state.evictionRank ≤ q.state.evictionRank) ∧
      (∀ q ∈ f.records, q.cls = v.cls → q.state = v.state → v.stamp ≤ q.stamp) ∧
      (f.create r).overflow = true ∧ (f.create r).records.length = 32 ∧
      (f.counter < 65535 →
        { r with stamp := f.counter } ∈ (f.create r).records ∧
        ∀ q, q ∈ (f.create r).records ↔ q = { r with stamp := f.counter } ∨ (q ∈ f.records ∧ q ≠ v)) ∧
      (f.counter = 65535 →
        let rest := f.records.filter (fun q => q != v)
        { r with stamp := 31 } ∈ (f.create r).records ∧ (f.create r).counter = 32 ∧
        ∀ q ∈ rest, { q with stamp := (rest.filter (fun p => decide (p.stamp < q.stamp))).length } ∈ (f.create r).records))

/-- Reconciliation of a summary that names each code once, in a list with room for all of it (R91, R94 to R97): what becomes of
the origin's records whose codes are absent, of those listed, of the codes that have no record, and of every other record. `stamp`
is the new stamp of an old one: the same, but where the counter reaches 65535 and the records are renumbered, in the order of
age. The summary causes FAULT_ACTION exactly where it creates or re-raises an ACTION record (R110; the class after it, log 26). -/
def Obligations.ReconciliationMergesTheSummary : Prop :=
  ∀ (f : Flm) (origin : Nat) (listed : List ListedFault), f.Lawful → (listed.map (·.code)).Nodup →
    f.records.length + listed.length ≤ 32 →
    (∀ q ∈ f.records, q.origin = origin → q.internal = false) →
    let g := (f.reconcile origin listed).flm
    ∃ stamp : Nat → Nat,
      (f.counter + listed.length < 65535 → ∀ x, stamp x = x) ∧
      (∀ p ∈ f.records, ∀ q ∈ f.records, (g.find p.origin p.code).isSome = true → (g.find q.origin q.code).isSome = true →
        p.stamp < q.stamp → stamp p.stamp < stamp q.stamp) ∧
      (∀ q ∈ f.records, q.origin ≠ origin → { q with stamp := stamp q.stamp } ∈ g.records) ∧
      (∀ q ∈ f.records, q.origin = origin → (∀ e ∈ listed, e.code ≠ q.code) →
        (q.state = .raisedUnack → { q with state := .clearedUnack, stale := false, stamp := stamp q.stamp } ∈ g.records) ∧
        (q.state = .clearedUnack → { q with stale := false, stamp := stamp q.stamp } ∈ g.records) ∧
        (q.state = .raisedAck → g.find origin q.code = none)) ∧
      (∀ q ∈ f.records, ∀ e ∈ listed, q.origin = origin → e.code = q.code →
        (q.state = .clearedUnack →
          { q with state := .raisedUnack, count := min 15 (q.count + 1), cls := e.cls, stale := false,
                   stamp := stamp q.stamp } ∈ g.records) ∧
        (q.state ≠ .clearedUnack → { q with cls := e.cls, stale := false, stamp := stamp q.stamp } ∈ g.records)) ∧
      (∀ e ∈ listed, f.find origin e.code = none → ∃ n,
        ({ origin := origin, internal := false, code := e.code, cls := e.cls, state := .raisedUnack, stale := false, count := 1,
           stamp := n } : FaultRecord) ∈ g.records ∧
        ∀ q ∈ f.records, (g.find q.origin q.code).isSome = true → stamp q.stamp < n) ∧
      ((f.reconcile origin listed).action = true ↔ ∃ e ∈ listed, e.cls = .action ∧
        (f.find origin e.code = none ∨ ∃ r, f.find origin e.code = some r ∧ r.state = .clearedUnack))

/-- The issue of a one-shot (R157, R160): not eligible, or under an eligible member of higher priority, it is dropped and the
arbiter is as it was; issued while it plays, it starts again at its full length; otherwise it plays from its beginning, in place
of what played. REMINDER_TIMER_EXPIRY (R111): the timer is restarted at the reminder period, and REMINDER is issued so. Who is
eligible is written out in StepKeepsTheHighestTone. -/
def Obligations.ReminderSoundsAndRestarts : Prop :=
  (∀ (p : Pattern) (length : Time) (s : State),
    (p, length) ∈ [(Pattern.overspeedAlarm, 1500000), (.overspeedWarn, 300000), (.overspeedClear, 200000),
      (.faultAction, 400000), (.reminder, 200000), (.startChirp, 200000)] →
    let a := s.idr.arbiter
    let member (q : Pattern) : Prop := q ∈ a.asserted ∨ ∃ o, a.oneShot = some o ∧ o.pattern = q
    let played : State := { s with idr := { s.idr with arbiter :=
      { a with oneShot := some { pattern := p, endsAt := s.now + length }, playing := some { pattern := p, since := s.now } } } }
    (s.eligible p = false → s.toneIssue p = s) ∧
    (∀ q, q.priority < p.priority → s.eligible q = true → member q → s.toneIssue p = s) ∧
    (s.eligible p = true → (∀ q, q.priority < p.priority → s.eligible q = true → ¬member q) → s.toneIssue p = played) ∧
    (∀ o, s.ToneLawful → a.oneShot = some o → o.pattern = p → s.toneIssue p = played)) ∧
  ∀ (t : Time) (s : State), s.flm.reminderAt = some t → ∃ u, exec .reminderTimerExpiry s = .next u ∧
    u.flm = { s.flm with reminderAt := some (max s.now t + 1000000 * s.cfg.reminderS) } ∧
    (s.eligible .reminder = true → (∀ p, p.priority < 9 → s.eligible p = true → s.idr.arbiter.member p = false) →
      u.idr.arbiter.playing = some { pattern := .reminder, since := max s.now t } ∧
      u.idr.arbiter.oneShot = some { pattern := .reminder, endsAt := max s.now t + 200000 }) ∧
    (s.eligible .reminder = false → u.idr.arbiter = s.idr.arbiter) ∧
    (∀ p, p.priority < 9 → s.eligible p = true → s.idr.arbiter.member p = true → u.idr.arbiter = s.idr.arbiter) ∧
    u.diu = s.diu ∧ u.lif = s.lif

/-! ## The cab role -/

/-- The role after an evaluation (the summary of R117 to R122), and that a further evaluation on the same key and peers changes
nothing. -/
def Obligations.RoleFollowsTheTable : Prop :=
  ∀ (c : Cru) (expiry : Bool),
    let peer : Role → Prop := fun role => ∃ v ∈ c.peers.toList, v.counted = role
    let claimed : Prop := ∃ v ∈ c.peers.toList, v.counted = .claiming ∨ v.counted = .active ∨
      (v.counted = .conflict ∧ ∃ h, v.held = some h ∧ h.keyOn = true)
    (c.keyOn = false → (peer .active → c.nextRole expiry = .mirror) ∧ (¬peer .active → c.nextRole expiry = .idle)) ∧
    (c.keyOn = true → c.role = .idle ∨ c.role = .mirror →
      (claimed → c.nextRole expiry = .conflict) ∧ (¬claimed → c.nextRole expiry = .claiming)) ∧
    (c.keyOn = true → c.role = .claiming →
      (peer .claiming ∨ peer .active → c.nextRole expiry = .conflict) ∧
      (¬(peer .claiming ∨ peer .active) → c.nextRole expiry = if expiry = true then .active else .claiming)) ∧
    (c.keyOn = true → c.role = .active →
      (peer .active → c.nextRole expiry = .conflict) ∧ (¬peer .active → c.nextRole expiry = .active)) ∧
    (c.keyOn = true → c.role = .conflict →
      ((∀ v ∈ c.peers.toList, v.counted = .idle ∨ v.counted = .mirror) → c.nextRole expiry = .claiming) ∧
      (¬(∀ v ∈ c.peers.toList, v.counted = .idle ∨ v.counted = .mirror) → c.nextRole expiry = .conflict)) ∧
    ({ c with role := c.nextRole expiry } : Cru).nextRole false = c.nextRole expiry

/-- KEY_CHANGE and CLAIM_WINDOW_EXPIRY (R80, R116, R118 to R120, R124, R127 to R130, R134, R136): the key copy and the role, and
what follows a change of role (`State.RoleChanged`): the claim window, the CAB lamp and CAB_CONFLICT, the DESK period and frame,
the pruning, the OVERDUE frame and repeat timer at the ASU's notices, 0xF050 and 0xF051, and that an expiry of the DESK period
that comes together with the change is still to be taken (log 29); before RUNNING a key change is only debounced. -/
def Obligations.KeyAndClaimWindowDecideTheRole : Prop :=
  (∀ (t : Time) (s : State), s.diu.key.endsAt = some t →
    (s.cfl.start ≠ .running → exec .keyChange s = .next { s with
      now := max s.now t, diu := { s.diu with key := { s.diu.key with taken := s.diu.key.level, endsAt := none } } }) ∧
    (s.cfl.start = .running → s.flm.Lawful → ∃ u, exec .keyChange s = .next u ∧ u.now = max s.now t ∧
      u.diu.key = { s.diu.key with taken := s.diu.key.level, endsAt := none } ∧ u.cru.keyOn = s.diu.key.level ∧
      u.cru.role = ({ s.cru with keyOn := s.diu.key.level } : Cru).nextRole false ∧ u.cru.peers = s.cru.peers ∧
      s.PeerConflictTested u ∧ (u.cru.role ≠ s.cru.role → s.RoleChanged u) ∧
      (u.cru.role = s.cru.role → u.lif = s.lif ∧ u.asu = s.asu ∧ u.cru.claimAt = s.cru.claimAt ∧
        u.cru.deskAt = s.cru.deskAt ∧ u.cru.deskDue = s.cru.deskDue))) ∧
  (∀ (t : Time) (s : State), s.cru.claimAt = some t → s.cru.role = .claiming → s.cru.keyOn = true → s.flm.Lawful →
    ∃ u, exec .claimWindowExpiry s = .next u ∧ u.now = max s.now t ∧ u.cru.keyOn = true ∧ u.cru.peers = s.cru.peers ∧
      s.PeerConflictTested u ∧ s.RoleChanged u ∧
      ((∀ v ∈ s.cru.peers.toList, v.counted ≠ .claiming ∧ v.counted ≠ .active) → u.cru.role = .active) ∧
      ((∃ v ∈ s.cru.peers.toList, v.counted = .claiming ∨ v.counted = .active) → u.cru.role = .conflict))

/-- DESK_PERIOD_EXPIRY (R124, R125, R175): the timer is restarted, and the content of R125 goes to the DESK hold, into the queued
DESK frame, or into the queue as a new frame; so also where the expiry came together with a change of role that was taken first
(`deskDue`, the model's form, log 29). A key change that changes the role at the end of the period leaves the expiry to be taken
at that moment, with the new role, and a full period to run from it. -/
def Obligations.DeskPeriodHandsADeskFrame : Prop :=
  (∀ (t : Time) (s : State), s.cru.deskDue = some t ∨ (s.cru.deskDue = none ∧ s.cru.deskAt = some t) →
    ∃ u, exec .deskPeriodExpiry s = .next u ∧ u.now = max s.now t ∧
    u.cru = { s.cru with deskAt := some (max s.now t + ms s.cfg.deskPeriodMs), deskDue := none } ∧
    (let c : DeskContent :=
       { role := s.cru.role, keyOn := s.cru.keyOn, cabEndB := s.cabEndB, displayed := s.sdm.displayed,
         speedState := s.sfu.speedState, level := s.sdm.level, code := s.asu.shown.code,
         pendingAck := s.asu.pendingAck.map (fun r => { station := r.station, inst := r.inst, overdue := r.overdue }),
         top := s.flm.records.head?.map (fun r => { origin := r.origin, code := r.code }),
         count := s.flm.records.length, overflow := s.flm.overflow, fallback := s.cfl.fallback }
     (s.lif.headIsDesk = true → u.lif = { s.lif with hold := some c } ∧ u.flm = s.flm ∧ u.snu = s.snu) ∧
     (s.lif.headIsDesk = false → (∃ q ∈ s.lif.waiting, q.content.isDesk = true) →
       u.lif = { s.lif with
         waiting := s.lif.waiting.map (fun q => if q.content.isDesk then { q with content := .desk c } else q) } ∧
       u.flm = s.flm ∧ u.snu = s.snu) ∧
     (s.lif.headIsDesk = false → (∀ q ∈ s.lif.waiting, q.content.isDesk = false) → s.lif.length < 8 →
       u.lif = { s.lif with waiting := s.lif.waiting ++ [{ content := .desk c, entered := max s.now t }] } ∧
       u.flm = s.flm ∧ u.snu = s.snu))) ∧
  (∀ (t : Time) (s : State), s.diu.key.endsAt = some t → s.cfl.start = .running → s.cru.deskDue = none →
    s.cru.deskAt = some (max s.now t) → ({ s.cru with keyOn := s.diu.key.level } : Cru).nextRole false ≠ s.cru.role →
    ∃ u v, exec .keyChange s = .next u ∧ exec .deskPeriodExpiry u = .next v ∧ u.now = max s.now t ∧ v.now = max s.now t ∧
      u.cru.role = ({ s.cru with keyOn := s.diu.key.level } : Cru).nextRole false ∧
      v.cru = { u.cru with deskAt := some (max s.now t + ms s.cfg.deskPeriodMs), deskDue := none })

/-! ## Desk inputs -/

/-- INPUT_LEVEL_CHANGE from the release of reset (R132 to R136): low at BACK, BSCRL, BTEST or KEYON reads pressed or key on, and
DIM0 to DIM2 give the dimmer code with DIM0 least significant; that a line at the high level is a 1 is the model's choice (log 30).
A level that differs from the state taken starts the input's
stability interval, 30 ms for a button, 50 ms for the key, 100 ms for the dimmer; a return to it abandons the interval; the level
that the pin already has changes nothing. -/
def Obligations.LevelChangeStartsTheInterval : Prop :=
  ∀ (t : Time) (s : State), s.cfl.start ≠ .sampling →
    (∀ high : Bool,
      (s.diu.acknowledge.level = high → exec (.inputLevelChange t (.back high)) s = .next { s with
        now := max s.now t, diu := { s.diu with acknowledge := { s.diu.acknowledge with
          level := !high, endsAt := if (!high) = s.diu.acknowledge.taken then none else some (max s.now t + 30000) } } }) ∧
      (s.diu.acknowledge.level ≠ high → exec (.inputLevelChange t (.back high)) s = .next { s with now := max s.now t })) ∧
    (∀ high : Bool,
      (s.diu.scroll.level = high → exec (.inputLevelChange t (.bscrl high)) s = .next { s with
        now := max s.now t, diu := { s.diu with scroll := { s.diu.scroll with
          level := !high, endsAt := if (!high) = s.diu.scroll.taken then none else some (max s.now t + 30000) } } }) ∧
      (s.diu.scroll.level ≠ high → exec (.inputLevelChange t (.bscrl high)) s = .next { s with now := max s.now t })) ∧
    (∀ high : Bool,
      (s.diu.test.level = high → exec (.inputLevelChange t (.btest high)) s = .next { s with
        now := max s.now t, diu := { s.diu with test := { s.diu.test with
          level := !high, endsAt := if (!high) = s.diu.test.taken then none else some (max s.now t + 30000) } } }) ∧
      (s.diu.test.level ≠ high → exec (.inputLevelChange t (.btest high)) s = .next { s with now := max s.now t })) ∧
    (∀ high : Bool,
      (s.diu.key.level = high → exec (.inputLevelChange t (.keyon high)) s = .next { s with
        now := max s.now t, diu := { s.diu with key := { s.diu.key with
          level := !high, endsAt := if (!high) = s.diu.key.taken then none else some (max s.now t + 50000) } } }) ∧
      (s.diu.key.level ≠ high → exec (.inputLevelChange t (.keyon high)) s = .next { s with now := max s.now t })) ∧
    (∀ (high : Bool) (line : Nat) (level : InputLevel),
      (line = 0 ∧ level = .dim0 high) ∨ (line = 1 ∧ level = .dim1 high) ∨ (line = 2 ∧ level = .dim2 high) →
      (s.diu.dimmer.level.getLsbD line = high → exec (.inputLevelChange t level) s = .next { s with now := max s.now t }) ∧
      (s.diu.dimmer.level.getLsbD line ≠ high → ∃ code : BitVec 3,
        code.toNat + (if high then 0 else 2 ^ line) = s.diu.dimmer.level.toNat + (if high then 2 ^ line else 0) ∧
        exec (.inputLevelChange t level) s = .next { s with
          now := max s.now t, diu := { s.diu with dimmer := { s.diu.dimmer with
            level := code, endsAt := if code = s.diu.dimmer.taken then none else some (max s.now t + 100000) } } }))

/-- TEST_PRESS, TEST_RELEASE, BUTTON_RELEASE and DIMMER_CHANGE, outside STRAP_FAULT (R133, R135, R136, R144, R150): the state
taken at the end of the interval, and nothing but what it moves. -/
def Obligations.TestReleaseAndDimmerAreTaken : Prop :=
  (∀ (t : Time) (s : State), s.cfl.start ≠ .strapFault → s.diu.test = { level := true, taken := false, endsAt := some t } →
    exec .testPress s = .next { s with
      now := max s.now t
      diu := { s.diu with test := { level := true, taken := true, endsAt := none }, testHeld := true } }) ∧
  (∀ (t : Time) (s : State), s.cfl.start ≠ .strapFault → s.diu.test = { level := false, taken := true, endsAt := some t } →
    exec .testRelease s = .next { s with
      now := max s.now t
      diu := { s.diu with test := { level := false, taken := false, endsAt := none }, testHeld := false } }) ∧
  (∀ (t : Time) (s : State), s.diu.acknowledge = { level := false, taken := true, endsAt := some t } →
    exec (.buttonRelease .acknowledge) s = .next { s with
      now := max s.now t, diu := { s.diu with acknowledge := { level := false, taken := false, endsAt := none } } }) ∧
  (∀ (t : Time) (s : State), s.diu.scroll = { level := false, taken := true, endsAt := some t } →
    exec (.buttonRelease .scroll) s = .next { s with
      now := max s.now t, diu := { s.diu with scroll := { level := false, taken := false, endsAt := none } } }) ∧
  (∀ (t : Time) (s : State), s.cfl.start ≠ .strapFault → s.diu.dimmer.endsAt = some t →
    exec .dimmerChange s = .next { s with
      now := max s.now t
      diu := { s.diu with dimmer := { s.diu.dimmer with taken := s.diu.dimmer.level, endsAt := none } }
      idr := { s.idr with brightness := s.diu.dimmer.level } })

/-- SCROLL_PRESS in RUNNING and SCROLL_RETURN_EXPIRY (R133, R140, R141): the window moves to the record after the one shown,
from the last to the first, and the scroll-return timer runs; its expiry returns the window to TOP. -/
def Obligations.ScrollMovesTheWindow : Prop :=
  (∀ (t : Time) (s : State), s.cfl.start = .running → s.diu.scroll = { level := true, taken := false, endsAt := some t } →
    ∃ u, exec .scrollPress s = .next u ∧ u.flm = s.flm ∧ u.lif = s.lif ∧ u.idr = s.idr ∧
      u.diu.scroll = { level := true, taken := true, endsAt := none } ∧
      (s.flm.records = [] → u.diu.window = none ∧ u.diu.scrollAt = s.diu.scrollAt) ∧
      (s.flm.records ≠ [] → u.diu.scrollAt = some (max s.now t + 1000000 * s.cfg.scrollReturnS)) ∧
      (∀ a, s.diu.window = none → s.flm.records = [a] → u.diu.window = some { origin := a.origin, code := a.code }) ∧
      (∀ a b rest, s.diu.window = none → s.flm.records = a :: b :: rest →
        u.diu.window = some { origin := b.origin, code := b.code }) ∧
      (∀ n before a b after, s.diu.window = some n → s.flm.records = before ++ a :: b :: after →
        (∀ q ∈ before, q.is n.origin n.code = false) → a.is n.origin n.code = true →
        u.diu.window = some { origin := b.origin, code := b.code }) ∧
      (∀ n before a first rest, s.diu.window = some n → s.flm.records = before ++ [a] → s.flm.records = first :: rest →
        (∀ q ∈ before, q.is n.origin n.code = false) → a.is n.origin n.code = true →
        u.diu.window = some { origin := first.origin, code := first.code })) ∧
  (∀ (t : Time) (s : State), s.diu.scrollAt = some t →
    exec .scrollReturnExpiry s = .next { s with now := max s.now t, diu := { s.diu with window := none, scrollAt := none } })

/-! ## Indications -/

/-- FLASH_PHASE_END and ONE_SHOT_END (R146, R159, R160): a generator turns to its other phase, of on-time or of period less
on-time; a one-shot leaves the set, and the eligible continuous member of the highest priority plays. Who is
eligible is written out in StepKeepsTheHighestTone. -/
def Obligations.PhasesAndOneShotsEnd : Prop :=
  (∀ (p : FlashPhase) (s : State), s.idr.f1 = some p → exec (.flashPhaseEnd .f1) s = .next { s with
    now := max s.now p.endsAt
    idr := { s.idr with f1 := some { lit := !p.lit, endsAt := p.endsAt +
      (if p.lit then 10000 * (s.cfg.f1.period - s.cfg.f1.onTime) else 10000 * s.cfg.f1.onTime) } } }) ∧
  (∀ (p : FlashPhase) (s : State), s.idr.f2 = some p → exec (.flashPhaseEnd .f2) s = .next { s with
    now := max s.now p.endsAt
    idr := { s.idr with f2 := some { lit := !p.lit, endsAt := p.endsAt +
      (if p.lit then 10000 * (s.cfg.f2.period - s.cfg.f2.onTime) else 10000 * s.cfg.f2.onTime) } } }) ∧
  (∀ (o : OneShot) (s : State), s.idr.arbiter.oneShot = some o → ∃ u, exec .oneShotEnd s = .next u ∧
    u.now = max s.now o.endsAt ∧ u.idr.arbiter.oneShot = none ∧ u.idr.arbiter.asserted = s.idr.arbiter.asserted ∧
    u.idr.lamps = s.idr.lamps ∧ u.lif = s.lif ∧ u.diu = s.diu ∧
    ((∀ q ∈ s.idr.arbiter.asserted, s.eligible q = false) → u.idr.arbiter.playing = none) ∧
    (∀ p, p ∈ s.idr.arbiter.asserted → s.eligible p = true →
      (∀ q, q ∈ s.idr.arbiter.asserted → s.eligible q = true → p.priority ≤ q.priority) →
      u.idr.arbiter.playing = some { pattern := p, since := max s.now o.endsAt }))

/-- What the lamps, readouts, rows, window, count, mark and tone show (R126, R146, R147, R149, R151 to R157, R163): by start
state, under the lamp test, gated by the role, and in RUNNING from the values that their owners hold. -/
def Obligations.OutputsFollowStartStateAndRole : Prop :=
  (∀ (s : State) (lamp : Lamp),
    (s.cfl.start = .sampling ∨ s.cfl.start = .loading ∨ s.cfl.start = .strapFault →
      s.lampDrive lamp = .off ∧ s.lampLit lamp = false ∧ s.tone = none ∧ s.toneHz = none ∧
      s.speedReadout = (if s.cfl.start = .strapFault then ['E', '0', '1'] else [' ', ' ', ' ']) ∧
      s.targetReadout = [' ', ' ', ' '] ∧ s.forwardArrow = false ∧ s.reverseArrow = false ∧
      (∀ k, s.arcLit k = false ∧ s.markerLit k = false ∧ s.barLit k = false) ∧
      s.faultWindow = .text (List.replicate 8 ' ') ∧ s.recordCount = [' ', ' '] ∧ s.overflowMark = false) ∧
    (s.cfl.start = .lampCheck ∨ (s.cfl.start = .running ∧ s.diu.testHeld = true) →
      s.lampLit lamp = true ∧ s.speedReadout = ['8', '8', '8'] ∧ s.targetReadout = ['8', '8', '8'] ∧
      s.forwardArrow = true ∧ s.reverseArrow = true ∧ (∀ k, s.arcLit k = true ∧ s.markerLit k = true ∧ s.barLit k = true) ∧
      s.faultWindow = .allSegments ∧ s.recordCount = ['8', '8'] ∧ s.overflowMark = true) ∧
    (s.cfl.start = .running → s.diu.testHeld = false →
      (∀ k, lamp = .la k → s.cru.role = .idle → s.lampDrive lamp = .off) ∧
      (∀ k, lamp = .la k → s.cru.role ≠ .idle → s.lampDrive lamp = s.idr.lamps.aspect.get k) ∧
      ((∀ k, lamp ≠ .la k) → s.lampDrive lamp = s.idr.lamps.held lamp) ∧
      (s.lampDrive lamp = .off → s.lampLit lamp = false) ∧ (s.lampDrive lamp = .steady → s.lampLit lamp = true) ∧
      (s.lampDrive lamp = .slow → ∀ p, s.idr.f1 = some p → s.lampLit lamp = p.lit) ∧
      (s.lampDrive lamp = .fast → ∀ p, s.idr.f2 = some p → s.lampLit lamp = p.lit))) ∧
  (∀ s : State, s.cfl.start = .running → s.diu.testHeld = false →
    let digit : Nat → Char := fun n => ['0', '1', '2', '3', '4', '5', '6', '7', '8', '9'].getD n ' '
    let number : Nat → List Char := fun v =>
      if v ≤ 9 then [' ', ' ', digit v] else if v ≤ 99 then [' ', digit (v / 10), digit (v % 10)]
      else [digit (v / 100), digit (v / 10 % 10), digit (v % 10)]
    (s.sdm.displayed = none → s.speedReadout = ['-', '-', '-']) ∧
    (∀ d, s.sdm.displayed = some d → d ≤ 400 → s.speedReadout = number d) ∧
    (s.sdm.targetReadout = none → s.targetReadout = [' ', ' ', ' ']) ∧
    (∀ v, s.sdm.targetReadout = some v → v ≤ 400 → s.targetReadout = number v) ∧
    (s.forwardArrow = true ↔ s.sfu.direction = .forward) ∧ (s.reverseArrow = true ↔ s.sfu.direction = .reverse) ∧
    (∀ k, s.arcLit k = true ↔ 1 ≤ k ∧ k ≤ s.sdm.lit) ∧ (∀ k, s.barLit k = true ↔ 1 ≤ k ∧ k ≤ s.sdm.bar) ∧
    (∀ k, (s.sdm.permittedMarker ≠ some k → s.sdm.targetMarker ≠ some k → s.markerLit k = false) ∧
      (s.sdm.permittedMarker = some k ∨ s.sdm.targetMarker = some k →
        (s.sdm.lit < k → s.markerLit k = true) ∧ (k ≤ s.sdm.lit → ∀ p, s.idr.f2 = some p → s.markerLit k = p.lit))) ∧
    (s.flm.records = [] → s.faultWindow = .text (List.replicate 8 ' ')) ∧
    (∀ r, s.diu.window = none → s.flm.records.head? = some r → s.faultWindow = .text (windowText r)) ∧
    (∀ n r, s.diu.window = some n → s.flm.find n.origin n.code = some r → s.faultWindow = .text (windowText r)) ∧
    (∀ n r, s.diu.window = some n → s.flm.find n.origin n.code = none → s.flm.records.head? = some r →
      s.faultWindow = .text (windowText r)) ∧
    (s.flm.records.length ≤ 32 →
      s.recordCount = [digit (s.flm.records.length / 10), digit (s.flm.records.length % 10)]) ∧
    s.overflowMark = s.flm.overflow ∧ s.tone = s.idr.arbiter.playing.map (·.pattern)) ∧
  (∀ r : FaultRecord, r.origin ≤ 31 →
    let hex : Nat → Char := fun n =>
      ['0', '1', '2', '3', '4', '5', '6', '7', '8', '9', 'A', 'B', 'C', 'D', 'E', 'F'].getD n ' '
    windowText r =
      [(match r.cls with
        | .stop => if r.stale then 's' else 'S'
        | .action => if r.stale then 'a' else 'A'
        | .advisory => if r.stale then 'v' else 'V'
        | .note => if r.stale then 'n' else 'N'),
       hex (r.origin / 10), hex (r.origin % 10), '-', hex (r.code.toNat / 4096), hex (r.code.toNat / 256 % 16),
       hex (r.code.toNat / 16 % 16), hex (r.code.toNat % 16)]) ∧
  (∀ ms : Nat,
    soundHz .overdue ms = some 2000 ∧ soundHz .overspeedWarn ms = some 1500 ∧ soundHz .overspeedClear ms = some 900 ∧
    soundHz .faultAction ms = some 1100 ∧ soundHz .reminder ms = some 1100 ∧ soundHz .startChirp ms = some 1000 ∧
    (∀ n k, ms = 500 * n + k → (k < 250 → soundHz .aspectRestrict ms = some 1000) ∧
      (250 ≤ k → k < 500 → soundHz .aspectRestrict ms = some 1400)) ∧
    (∀ n k, ms = 200 * n + k → (k < 100 → soundHz .overspeedAlarm ms = some 1800) ∧
      (100 ≤ k → k < 200 → soundHz .overspeedAlarm ms = none)) ∧
    (∀ n k, ms = 1500 * n + k → (k < 100 ∨ (200 ≤ k ∧ k < 300) ∨ (400 ≤ k ∧ k < 500) → soundHz .faultStop ms = some 1200) ∧
      ((100 ≤ k ∧ k < 200) ∨ (300 ≤ k ∧ k < 400) ∨ (500 ≤ k ∧ k < 1500) → soundHz .faultStop ms = none)) ∧
    (∀ n k, ms = 1000 * n + k → (k < 500 → soundHz .cabConflict ms = some 800) ∧
      (500 ≤ k → k < 1000 → soundHz .cabConflict ms = none))) ∧
  (∀ (s : State) (a : Playing), s.cfl.start = .running → s.idr.arbiter.playing = some a →
    s.toneHz = soundHz a.pattern ((s.now - a.since) / 1000))

/-- SNAPREQ for the own station (R189 to R191): ignored while the latch is held; else latched for its source station, with
SNAPSTATE before SNAPFAULTS handed to a queue that has room for both, their values read now. -/
def Obligations.SnapshotRequestIsLatched : Prop :=
  ∀ (t : Time) (bytes : List Byte) (f : Frame) (s : State), s.Hears bytes f → f.kind = .snapreq →
    (byteAt f.payload 0).toNat = s.own →
    (∀ l, s.snu.latch = some l → exec (.snapreq t bytes) s = .next (s.heardAt t)) ∧
    (s.snu.latch = none → s.lif.length ≤ 6 →
      let parts : SnapParts := { state := (byteAt f.payload 1).getLsbD 0, faults := (byteAt f.payload 1).getLsbD 1 }
      exec (.snapreq t bytes) s = .next { s with
        now := max s.now t
        snu := { latch := some { requester := f.station, asked := parts, outstanding := parts } }
        lif := { s.lif with
          idleSince := some (max s.now t)
          waiting := s.lif.waiting ++
            (if parts.state = true then
              [{ content := .snapState
                   { requester := f.station, runTime := (s.heardAt t).runTime, role := s.cru.role,
                     displayed := s.sdm.displayed, fused := s.sfu.fused, speedState := s.sfu.speedState,
                     level := s.sdm.level, code := s.asu.shown.code, pendingOpen := s.asu.pendingAck.isSome,
                     overdue := s.asu.isOverdue, count := s.flm.records.length, overflow := s.flm.overflow }
                 entered := max s.now t }] else []) ++
            (if parts.faults = true then
              [{ content := .snapFaults { requester := f.station, records := s.flm.records.take 6 }
                 entered := max s.now t }] else []) } })

/-! ## Invariants -/

/-- What the invariants say holds in the power-on reset. -/
def Obligations.ResetStateMeetsTheInvariants : Prop := State.reset.Inv

/-- Every step keeps the start-up invariants: at rest outside RUNNING (R4, R41, R64, R86, R113, R131, R178, R192), the timers,
generators, straps and configuration of each start state (R146, R179, R180, R187), and a loaded configuration in range (R184,
R185). -/
def Obligations.StepKeepsTheStartLawful : Prop :=
  ∀ s u : State, s.Inv → step s = .next u → u.Quiet ∧ u.StartLawful ∧ u.Configured

/-- Every step keeps the source entries lawful, and the consumers in step with the entries that feed them (R4, R9 to R23, R26,
R67, R115). -/
def Obligations.StepKeepsTheSourcesLawful : Prop :=
  ∀ s u : State, s.Inv → step s = .next u → u.SourcesLawful ∧ u.ConsumersFollow

/-- After every step the fused record is the one its slots give, the SDM shows what it follows from, and the values stay in range
(R26, R29 to R34, R44 to R55). Written out: the lit arc segments from D and S (R49), the two markers from the permitted and the
target speed in display units, none where the formula gives 0 (R50), the segments that hold them FAST up to L and STEADY above it
(R51), the target readout (R52), and the lit bar segments, rounded up and at most 10 (R53). -/
def Obligations.StepKeepsSpeedAndDisplayInStep : Prop :=
  ∀ s u : State, s.Inv → step s = .next u → u.FusionFollows ∧ u.DisplayFollows ∧ u.Ranges ∧
    (let unit (v : Nat) : Nat := if u.mph = true then (v * 6214 + 5000) / 10000 else v
     let segment (v : Nat) : Nat := min 60 (unit v * 60 / u.cfg.arcScale)
     let marks (marker speed : Option Nat) : Prop :=
       (speed = none → marker = none) ∧ (∀ v, speed = some v → segment v = 0 → marker = none) ∧
       (∀ v, speed = some v → 0 < segment v → marker = some (segment v))
     (u.sdm.displayed = none → u.sdm.lit = 0) ∧
     (∀ d, u.sdm.displayed = some d → u.sdm.lit = min 60 (d * 60 / u.cfg.arcScale)) ∧
     marks u.sdm.permittedMarker u.asu.shown.limits.permitted ∧ marks u.sdm.targetMarker u.asu.shown.limits.target ∧
     (∀ k, (u.sdm.permittedMarker = some k ∨ u.sdm.targetMarker = some k →
         (k ≤ u.sdm.lit → u.sdm.markerDrive k = .fast) ∧ (u.sdm.lit < k → u.sdm.markerDrive k = .steady)) ∧
       (u.sdm.permittedMarker ≠ some k → u.sdm.targetMarker ≠ some k → u.sdm.markerDrive k = .off)) ∧
     (u.asu.shown.limits.target = none → u.sdm.targetReadout = none) ∧
     (∀ v, u.asu.shown.limits.target = some v → u.sdm.targetReadout = some (unit v)) ∧
     (u.asu.shown.limits.distance = none → u.sdm.bar = 0) ∧
     (∀ d, u.asu.shown.limits.distance = some d →
       u.sdm.bar = min 10 ((d * 10 + u.cfg.barScale - 1) / u.cfg.barScale)))

/-- Every step keeps the aspect record and its timers lawful (R70, R74, R76, R79, R80). That the disagreement timer and the raised
flag never hold together is the model's choice between two sentences of R74 that differ (log 15). -/
def Obligations.StepKeepsTheAspectLawful : Prop :=
  ∀ s u : State, s.Inv → step s = .next u → u.AspectLawful

/-- Every step keeps the Fault List lawful: at most 32 records, no two of one origin and code, in display order, with unique
stamps below the counter (R87, R89, R90, R91, R106, R111). -/
def Obligations.StepKeepsTheFaultListLawful : Prop :=
  ∀ s u : State, s.flm.Lawful → step s = .next u → u.flm.Lawful

/-- Every step keeps the window on a record of the list or at TOP, and every stability interval to a level that differs from the
state taken (R133 to R142). -/
def Obligations.StepKeepsWindowAndInputsLawful : Prop :=
  ∀ s u : State, s.Inv → step s = .next u → u.WindowLawful ∧ u.InputsLawful

/-- Every step keeps the role settled, and its timers, its flag and its key copy with it (R116, R117, R120, R124, R130). -/
def Obligations.StepKeepsTheRoleLawful : Prop :=
  ∀ s u : State, s.Inv → step s = .next u → u.RoleLawful

/-- After every step the lamp states and the continuous requests are those their owners' states call for. Written out: the
aspect lamps by the code's pattern, while a record is open FAST where the pattern is not OFF, OFF for NONE (R84); STOP and ACTION by the
records of their class (R108); OVERSPEED, CAB and SOURCE by level, role and speed state (R62, R129, R40); and when each of the
five continuous requests is asserted (R59, R85, R109, R129). -/
def Obligations.StepKeepsIndicationsInStep : Prop :=
  ∀ s u : State, s.Inv → step s = .next u → u.IndicationsFollow ∧
    (u.asu.shown.code = none → ∀ k, u.idr.lamps.aspect.get k = .off) ∧
    (∀ c k, u.asu.shown.code = some c →
      let pattern := (u.cfg.catalogue.get c).lamps.get k
      (u.asu.pendingAck = none → u.idr.lamps.aspect.get k = pattern) ∧
      (u.asu.pendingAck ≠ none → u.idr.lamps.aspect.get k = if pattern = .off then .off else .fast)) ∧
    (let shows (cls : FaultClass) (flash lamp : Drive) : Prop :=
       ((∃ r ∈ u.flm.records, r.cls = cls ∧ (r.state = .raisedUnack ∨ r.state = .clearedUnack)) → lamp = flash) ∧
       ((∃ r ∈ u.flm.records, r.cls = cls) → (∀ r ∈ u.flm.records, r.cls = cls → r.state = .raisedAck) → lamp = .steady) ∧
       ((∀ r ∈ u.flm.records, r.cls ≠ cls) → lamp = .off)
     shows .stop .fast u.idr.lamps.stop ∧ shows .action .slow u.idr.lamps.action) ∧
    u.idr.lamps.overspeed = (match u.sdm.level with
      | .notSupervised => .off
      | .normal => .off
      | .warn => .steady
      | .alarm => .fast) ∧
    u.idr.lamps.cab = (match u.cru.role with
      | .idle => .off
      | .mirror => .off
      | .claiming => .slow
      | .active => .steady
      | .conflict => .fast) ∧
    u.idr.lamps.source = (match u.sfu.speedState with
      | .good => .off
      | .degraded => .steady
      | .unknown => .fast) ∧
    (.overdue ∈ u.idr.arbiter.asserted ↔ ∃ r, u.asu.pendingAck = some r ∧ r.overdue = true) ∧
    (.aspectRestrict ∈ u.idr.arbiter.asserted ↔ ∃ r, u.asu.pendingAck = some r ∧ r.overdue = false) ∧
    (.overspeedAlarm ∈ u.idr.arbiter.asserted ↔ u.cfg.reporting = .continuous ∧ u.sdm.level = .alarm) ∧
    (.faultStop ∈ u.idr.arbiter.asserted ↔ ∃ r ∈ u.flm.records, r.cls = .stop ∧ r.state = .raisedUnack) ∧
    (.cabConflict ∈ u.idr.arbiter.asserted ↔ u.cru.role = .conflict) ∧
    (∀ p ∈ u.idr.arbiter.asserted, p.priority ≤ 5)

/-- After every step the tone output plays the eligible member of the highest priority, and a one-shot is in the set only while
it plays (R158 to R161). That this holds at the move to RUNNING too, with START_CHIRP still playing there, is the model's choice:
the arbiter chooses again at that move (log 22). Written out: the priorities (R157), and who is eligible (R158): the master enable
and the bit of the pattern's priority, but for OVERDUE and ASPECT_RESTRICT, and in RUNNING the tone column of R126. -/
def Obligations.StepKeepsTheHighestTone : Prop :=
  ([Pattern.overdue, .aspectRestrict, .overspeedAlarm, .faultStop, .cabConflict, .overspeedWarn, .overspeedClear, .faultAction,
    .reminder, .startChirp].map Pattern.priority = [1, 2, 3, 4, 5, 6, 7, 8, 9, 10]) ∧
  (∀ (s : State) (p : Pattern), s.eligible p = true ↔
    (p = .overdue ∨ p = .aspectRestrict ∨
      (s.cfg.toneEnables.getLsbD 0 = true ∧ s.cfg.toneEnables.getLsbD p.priority = true)) ∧
    (s.cfl.start = .running →
      match s.cru.role with
      | .idle => p = .faultStop
      | .mirror => p = .faultStop
      | .claiming => p ≠ .overdue
      | .active => True
      | .conflict => p = .cabConflict ∨ p = .faultStop)) ∧
  ∀ s u : State, s.Inv → step s = .next u → u.ToneLawful ∧
    (let member (q : Pattern) : Prop := q ∈ u.idr.arbiter.asserted ∨ ∃ o, u.idr.arbiter.oneShot = some o ∧ o.pattern = q
     (∀ x, u.idr.arbiter.playing = some x → u.eligible x.pattern = true ∧ member x.pattern ∧
       ∀ q, u.eligible q = true → member q → x.pattern.priority ≤ q.priority) ∧
     (u.idr.arbiter.playing = none → ∀ q, member q → u.eligible q = false) ∧
     (∀ o, u.idr.arbiter.oneShot = some o → ∃ x, u.idr.arbiter.playing = some x ∧ x.pattern = o.pattern))

/-- Every step keeps the transmit queue and the line driver lawful (R165, R173 to R176), with ACKN and OVERDUE frames only while
the role is ACTIVE (R126, R128). -/
def Obligations.StepKeepsTheLineLawful : Prop :=
  ∀ s u : State, s.Inv → step s = .next u → u.LineLawful ∧ u.UrgentOnlyActive

/-- After every step the snapshot latch is held exactly for the snapshot frames in the queue (R189, R191). -/
def Obligations.StepKeepsTheLatchLawful : Prop :=
  ∀ s u : State, s.Inv → step s = .next u → u.LatchLawful
end

