-- ==== Sys2Proof/Laws/State.lean ====
section
/-! SUPPORT. The fields an operation of one block leaves as they are: time, the tone arbiter, the Fault List. -/

namespace Sys2Proof.Machine

open Sys2Proof

/-! ### What the straps and the settings give depends on the start state's block alone -/

theorem State.own_of_cfl {s t : State} (h : t.cfl = s.cfl) : t.own = s.own := by simp [State.own, h]
theorem State.cfg_of_cfl {s t : State} (h : t.cfl = s.cfl) : t.cfg = s.cfg := by simp [State.cfg, h]
theorem State.running_of_cfl {s t : State} (h : t.cfl = s.cfl) : t.running = s.running := by simp [State.running, h]
theorem State.mph_of_cfl {s t : State} (h : t.cfl = s.cfl) : t.mph = s.mph := by simp [State.mph, h]
theorem State.bitTime_of_cfl {s t : State} (h : t.cfl = s.cfl) : t.bitTime = s.bitTime := by simp [State.bitTime, h]
theorem State.cabEndB_of_cfl {s t : State} (h : t.cfl = s.cfl) : t.cabEndB = s.cabEndB := by simp [State.cabEndB, h]
theorem State.source_of_cfl {s t : State} (h : t.cfl = s.cfl) (i : Fin 24) : t.source i = s.source i := by
  simp [State.source, State.cfg, h]

/-- What a command's expiry does to a field that its action leaves alone. -/
theorem State.onExpiry_cases (timer : Option Time) (act : State → State) (s : State) :
    (timer = none ∧ s.onExpiry timer act = s) ∨ (∃ t, timer = some t ∧ s.onExpiry timer act = act (s.reach t)) := by
  cases timer with
  | none => exact .inl ⟨rfl, rfl⟩
  | some t => exact .inr ⟨t, rfl, rfl⟩

/-! ### reach -/
@[simp] theorem State.reach_lif (s : State) (t : Time) : (s.reach t).lif = s.lif := rfl
@[simp] theorem State.reach_ssv (s : State) (t : Time) : (s.reach t).ssv = s.ssv := rfl
@[simp] theorem State.reach_sfu (s : State) (t : Time) : (s.reach t).sfu = s.sfu := rfl
@[simp] theorem State.reach_sdm (s : State) (t : Time) : (s.reach t).sdm = s.sdm := rfl
@[simp] theorem State.reach_asu (s : State) (t : Time) : (s.reach t).asu = s.asu := rfl
@[simp] theorem State.reach_flm (s : State) (t : Time) : (s.reach t).flm = s.flm := rfl
@[simp] theorem State.reach_cru (s : State) (t : Time) : (s.reach t).cru = s.cru := rfl
@[simp] theorem State.reach_diu (s : State) (t : Time) : (s.reach t).diu = s.diu := rfl
@[simp] theorem State.reach_idr (s : State) (t : Time) : (s.reach t).idr = s.idr := rfl
@[simp] theorem State.reach_cfl (s : State) (t : Time) : (s.reach t).cfl = s.cfl := rfl
@[simp] theorem State.reach_snu (s : State) (t : Time) : (s.reach t).snu = s.snu := rfl
@[simp] theorem State.reach_routed (s : State) (t : Time) : (s.reach t).routed = s.routed := rfl
@[simp] theorem State.reach_supokHigh (s : State) (t : Time) : (s.reach t).supokHigh = s.supokHigh := rfl
@[simp] theorem State.reach_rstnHigh (s : State) (t : Time) : (s.reach t).rstnHigh = s.rstnHigh := rfl
@[simp] theorem State.reach_freeIndex (s : State) (t : Time) : (s.reach t).freeIndex = s.freeIndex := rfl
@[simp] theorem State.reach_pending (s : State) (t : Time) : (s.reach t).pending = s.pending := rfl

/-! ### withArbiter -/
@[simp] theorem State.withArbiter_lif (s : State) (a : Arbiter) : (s.withArbiter a).lif = s.lif := rfl
@[simp] theorem State.withArbiter_ssv (s : State) (a : Arbiter) : (s.withArbiter a).ssv = s.ssv := rfl
@[simp] theorem State.withArbiter_sfu (s : State) (a : Arbiter) : (s.withArbiter a).sfu = s.sfu := rfl
@[simp] theorem State.withArbiter_sdm (s : State) (a : Arbiter) : (s.withArbiter a).sdm = s.sdm := rfl
@[simp] theorem State.withArbiter_asu (s : State) (a : Arbiter) : (s.withArbiter a).asu = s.asu := rfl
@[simp] theorem State.withArbiter_flm (s : State) (a : Arbiter) : (s.withArbiter a).flm = s.flm := rfl
@[simp] theorem State.withArbiter_cru (s : State) (a : Arbiter) : (s.withArbiter a).cru = s.cru := rfl
@[simp] theorem State.withArbiter_diu (s : State) (a : Arbiter) : (s.withArbiter a).diu = s.diu := rfl
@[simp] theorem State.withArbiter_cfl (s : State) (a : Arbiter) : (s.withArbiter a).cfl = s.cfl := rfl
@[simp] theorem State.withArbiter_snu (s : State) (a : Arbiter) : (s.withArbiter a).snu = s.snu := rfl
@[simp] theorem State.withArbiter_routed (s : State) (a : Arbiter) : (s.withArbiter a).routed = s.routed := rfl
@[simp] theorem State.withArbiter_supokHigh (s : State) (a : Arbiter) : (s.withArbiter a).supokHigh = s.supokHigh := rfl
@[simp] theorem State.withArbiter_rstnHigh (s : State) (a : Arbiter) : (s.withArbiter a).rstnHigh = s.rstnHigh := rfl
@[simp] theorem State.withArbiter_now (s : State) (a : Arbiter) : (s.withArbiter a).now = s.now := rfl
@[simp] theorem State.withArbiter_freeIndex (s : State) (a : Arbiter) : (s.withArbiter a).freeIndex = s.freeIndex := rfl
@[simp] theorem State.withArbiter_pending (s : State) (a : Arbiter) : (s.withArbiter a).pending = s.pending := rfl

/-! ### toneRechoose -/
@[simp] theorem State.toneRechoose_lif (s : State) : (s.toneRechoose).lif = s.lif := rfl
@[simp] theorem State.toneRechoose_ssv (s : State) : (s.toneRechoose).ssv = s.ssv := rfl
@[simp] theorem State.toneRechoose_sfu (s : State) : (s.toneRechoose).sfu = s.sfu := rfl
@[simp] theorem State.toneRechoose_sdm (s : State) : (s.toneRechoose).sdm = s.sdm := rfl
@[simp] theorem State.toneRechoose_asu (s : State) : (s.toneRechoose).asu = s.asu := rfl
@[simp] theorem State.toneRechoose_flm (s : State) : (s.toneRechoose).flm = s.flm := rfl
@[simp] theorem State.toneRechoose_cru (s : State) : (s.toneRechoose).cru = s.cru := rfl
@[simp] theorem State.toneRechoose_diu (s : State) : (s.toneRechoose).diu = s.diu := rfl
@[simp] theorem State.toneRechoose_cfl (s : State) : (s.toneRechoose).cfl = s.cfl := rfl
@[simp] theorem State.toneRechoose_snu (s : State) : (s.toneRechoose).snu = s.snu := rfl
@[simp] theorem State.toneRechoose_routed (s : State) : (s.toneRechoose).routed = s.routed := rfl
@[simp] theorem State.toneRechoose_supokHigh (s : State) : (s.toneRechoose).supokHigh = s.supokHigh := rfl
@[simp] theorem State.toneRechoose_rstnHigh (s : State) : (s.toneRechoose).rstnHigh = s.rstnHigh := rfl
@[simp] theorem State.toneRechoose_now (s : State) : (s.toneRechoose).now = s.now := rfl
@[simp] theorem State.toneRechoose_freeIndex (s : State) : (s.toneRechoose).freeIndex = s.freeIndex := rfl
@[simp] theorem State.toneRechoose_pending (s : State) : (s.toneRechoose).pending = s.pending := rfl

/-! ### toneHold -/
@[simp] theorem State.toneHold_lif (s : State) (p : Pattern) (on : Bool) : (s.toneHold p on).lif = s.lif := rfl
@[simp] theorem State.toneHold_ssv (s : State) (p : Pattern) (on : Bool) : (s.toneHold p on).ssv = s.ssv := rfl
@[simp] theorem State.toneHold_sfu (s : State) (p : Pattern) (on : Bool) : (s.toneHold p on).sfu = s.sfu := rfl
@[simp] theorem State.toneHold_sdm (s : State) (p : Pattern) (on : Bool) : (s.toneHold p on).sdm = s.sdm := rfl
@[simp] theorem State.toneHold_asu (s : State) (p : Pattern) (on : Bool) : (s.toneHold p on).asu = s.asu := rfl
@[simp] theorem State.toneHold_flm (s : State) (p : Pattern) (on : Bool) : (s.toneHold p on).flm = s.flm := rfl
@[simp] theorem State.toneHold_cru (s : State) (p : Pattern) (on : Bool) : (s.toneHold p on).cru = s.cru := rfl
@[simp] theorem State.toneHold_diu (s : State) (p : Pattern) (on : Bool) : (s.toneHold p on).diu = s.diu := rfl
@[simp] theorem State.toneHold_cfl (s : State) (p : Pattern) (on : Bool) : (s.toneHold p on).cfl = s.cfl := rfl
@[simp] theorem State.toneHold_snu (s : State) (p : Pattern) (on : Bool) : (s.toneHold p on).snu = s.snu := rfl
@[simp] theorem State.toneHold_routed (s : State) (p : Pattern) (on : Bool) : (s.toneHold p on).routed = s.routed := rfl
@[simp] theorem State.toneHold_supokHigh (s : State) (p : Pattern) (on : Bool) : (s.toneHold p on).supokHigh = s.supokHigh :=
  rfl
@[simp] theorem State.toneHold_rstnHigh (s : State) (p : Pattern) (on : Bool) : (s.toneHold p on).rstnHigh = s.rstnHigh := rfl
@[simp] theorem State.toneHold_now (s : State) (p : Pattern) (on : Bool) : (s.toneHold p on).now = s.now := rfl
@[simp] theorem State.toneHold_freeIndex (s : State) (p : Pattern) (on : Bool) : (s.toneHold p on).freeIndex = s.freeIndex :=
  rfl
@[simp] theorem State.toneHold_pending (s : State) (p : Pattern) (on : Bool) : (s.toneHold p on).pending = s.pending := rfl

/-! ### toneIssue -/
@[simp] theorem State.toneIssue_lif (s : State) (p : Pattern) : (s.toneIssue p).lif = s.lif := rfl
@[simp] theorem State.toneIssue_ssv (s : State) (p : Pattern) : (s.toneIssue p).ssv = s.ssv := rfl
@[simp] theorem State.toneIssue_sfu (s : State) (p : Pattern) : (s.toneIssue p).sfu = s.sfu := rfl
@[simp] theorem State.toneIssue_sdm (s : State) (p : Pattern) : (s.toneIssue p).sdm = s.sdm := rfl
@[simp] theorem State.toneIssue_asu (s : State) (p : Pattern) : (s.toneIssue p).asu = s.asu := rfl
@[simp] theorem State.toneIssue_flm (s : State) (p : Pattern) : (s.toneIssue p).flm = s.flm := rfl
@[simp] theorem State.toneIssue_cru (s : State) (p : Pattern) : (s.toneIssue p).cru = s.cru := rfl
@[simp] theorem State.toneIssue_diu (s : State) (p : Pattern) : (s.toneIssue p).diu = s.diu := rfl
@[simp] theorem State.toneIssue_cfl (s : State) (p : Pattern) : (s.toneIssue p).cfl = s.cfl := rfl
@[simp] theorem State.toneIssue_snu (s : State) (p : Pattern) : (s.toneIssue p).snu = s.snu := rfl
@[simp] theorem State.toneIssue_routed (s : State) (p : Pattern) : (s.toneIssue p).routed = s.routed := rfl
@[simp] theorem State.toneIssue_supokHigh (s : State) (p : Pattern) : (s.toneIssue p).supokHigh = s.supokHigh := rfl
@[simp] theorem State.toneIssue_rstnHigh (s : State) (p : Pattern) : (s.toneIssue p).rstnHigh = s.rstnHigh := rfl
@[simp] theorem State.toneIssue_now (s : State) (p : Pattern) : (s.toneIssue p).now = s.now := rfl
@[simp] theorem State.toneIssue_freeIndex (s : State) (p : Pattern) : (s.toneIssue p).freeIndex = s.freeIndex := rfl
@[simp] theorem State.toneIssue_pending (s : State) (p : Pattern) : (s.toneIssue p).pending = s.pending := rfl

/-! ### toneIssueIf -/
@[simp] theorem State.toneIssueIf_lif (s : State) (b : Bool) (p : Pattern) : (s.toneIssueIf b p).lif = s.lif := rfl
@[simp] theorem State.toneIssueIf_ssv (s : State) (b : Bool) (p : Pattern) : (s.toneIssueIf b p).ssv = s.ssv := rfl
@[simp] theorem State.toneIssueIf_sfu (s : State) (b : Bool) (p : Pattern) : (s.toneIssueIf b p).sfu = s.sfu := rfl
@[simp] theorem State.toneIssueIf_sdm (s : State) (b : Bool) (p : Pattern) : (s.toneIssueIf b p).sdm = s.sdm := rfl
@[simp] theorem State.toneIssueIf_asu (s : State) (b : Bool) (p : Pattern) : (s.toneIssueIf b p).asu = s.asu := rfl
@[simp] theorem State.toneIssueIf_flm (s : State) (b : Bool) (p : Pattern) : (s.toneIssueIf b p).flm = s.flm := rfl
@[simp] theorem State.toneIssueIf_cru (s : State) (b : Bool) (p : Pattern) : (s.toneIssueIf b p).cru = s.cru := rfl
@[simp] theorem State.toneIssueIf_diu (s : State) (b : Bool) (p : Pattern) : (s.toneIssueIf b p).diu = s.diu := rfl
@[simp] theorem State.toneIssueIf_cfl (s : State) (b : Bool) (p : Pattern) : (s.toneIssueIf b p).cfl = s.cfl := rfl
@[simp] theorem State.toneIssueIf_snu (s : State) (b : Bool) (p : Pattern) : (s.toneIssueIf b p).snu = s.snu := rfl
@[simp] theorem State.toneIssueIf_routed (s : State) (b : Bool) (p : Pattern) : (s.toneIssueIf b p).routed = s.routed := rfl
@[simp] theorem State.toneIssueIf_supokHigh (s : State) (b : Bool) (p : Pattern) :
    (s.toneIssueIf b p).supokHigh = s.supokHigh := rfl
@[simp] theorem State.toneIssueIf_rstnHigh (s : State) (b : Bool) (p : Pattern) : (s.toneIssueIf b p).rstnHigh = s.rstnHigh :=
  rfl
@[simp] theorem State.toneIssueIf_now (s : State) (b : Bool) (p : Pattern) : (s.toneIssueIf b p).now = s.now := rfl
@[simp] theorem State.toneIssueIf_freeIndex (s : State) (b : Bool) (p : Pattern) :
    (s.toneIssueIf b p).freeIndex = s.freeIndex := rfl
@[simp] theorem State.toneIssueIf_pending (s : State) (b : Bool) (p : Pattern) : (s.toneIssueIf b p).pending = s.pending := rfl

/-! ### toneEnd -/
@[simp] theorem State.toneEnd_lif (s : State) : (s.toneEnd).lif = s.lif := rfl
@[simp] theorem State.toneEnd_ssv (s : State) : (s.toneEnd).ssv = s.ssv := rfl
@[simp] theorem State.toneEnd_sfu (s : State) : (s.toneEnd).sfu = s.sfu := rfl
@[simp] theorem State.toneEnd_sdm (s : State) : (s.toneEnd).sdm = s.sdm := rfl
@[simp] theorem State.toneEnd_asu (s : State) : (s.toneEnd).asu = s.asu := rfl
@[simp] theorem State.toneEnd_flm (s : State) : (s.toneEnd).flm = s.flm := rfl
@[simp] theorem State.toneEnd_cru (s : State) : (s.toneEnd).cru = s.cru := rfl
@[simp] theorem State.toneEnd_diu (s : State) : (s.toneEnd).diu = s.diu := rfl
@[simp] theorem State.toneEnd_cfl (s : State) : (s.toneEnd).cfl = s.cfl := rfl
@[simp] theorem State.toneEnd_snu (s : State) : (s.toneEnd).snu = s.snu := rfl
@[simp] theorem State.toneEnd_routed (s : State) : (s.toneEnd).routed = s.routed := rfl
@[simp] theorem State.toneEnd_supokHigh (s : State) : (s.toneEnd).supokHigh = s.supokHigh := rfl
@[simp] theorem State.toneEnd_rstnHigh (s : State) : (s.toneEnd).rstnHigh = s.rstnHigh := rfl
@[simp] theorem State.toneEnd_now (s : State) : (s.toneEnd).now = s.now := rfl
@[simp] theorem State.toneEnd_freeIndex (s : State) : (s.toneEnd).freeIndex = s.freeIndex := rfl
@[simp] theorem State.toneEnd_pending (s : State) : (s.toneEnd).pending = s.pending := rfl


end Sys2Proof.Machine
end

