-- ==== Sys2Proof/Laws/Line.lean ====
section
/-! SUPPORT. The fields an operation of the Fault List or of the line leaves as they are. -/

namespace Sys2Proof.Machine

open Sys2Proof

/-! ### flmEvent -/
@[simp] theorem State.flmEvent_lif (s : State) (r : FlmResult) : (s.flmEvent r).lif = s.lif := rfl
@[simp] theorem State.flmEvent_ssv (s : State) (r : FlmResult) : (s.flmEvent r).ssv = s.ssv := rfl
@[simp] theorem State.flmEvent_sfu (s : State) (r : FlmResult) : (s.flmEvent r).sfu = s.sfu := rfl
@[simp] theorem State.flmEvent_sdm (s : State) (r : FlmResult) : (s.flmEvent r).sdm = s.sdm := rfl
@[simp] theorem State.flmEvent_asu (s : State) (r : FlmResult) : (s.flmEvent r).asu = s.asu := rfl
@[simp] theorem State.flmEvent_cru (s : State) (r : FlmResult) : (s.flmEvent r).cru = s.cru := rfl
@[simp] theorem State.flmEvent_cfl (s : State) (r : FlmResult) : (s.flmEvent r).cfl = s.cfl := rfl
@[simp] theorem State.flmEvent_snu (s : State) (r : FlmResult) : (s.flmEvent r).snu = s.snu := rfl
@[simp] theorem State.flmEvent_routed (s : State) (r : FlmResult) : (s.flmEvent r).routed = s.routed := rfl
@[simp] theorem State.flmEvent_supokHigh (s : State) (r : FlmResult) : (s.flmEvent r).supokHigh = s.supokHigh := rfl
@[simp] theorem State.flmEvent_rstnHigh (s : State) (r : FlmResult) : (s.flmEvent r).rstnHigh = s.rstnHigh := rfl
@[simp] theorem State.flmEvent_now (s : State) (r : FlmResult) : (s.flmEvent r).now = s.now := rfl
@[simp] theorem State.flmEvent_freeIndex (s : State) (r : FlmResult) : (s.flmEvent r).freeIndex = s.freeIndex := rfl
@[simp] theorem State.flmEvent_pending (s : State) (r : FlmResult) : (s.flmEvent r).pending = s.pending := rfl

/-! ### flmRaise -/
@[simp] theorem State.flmRaise_lif (s : State) (code : FaultCode) (cls : FaultClass) : (s.flmRaise code cls).lif = s.lif := rfl
@[simp] theorem State.flmRaise_ssv (s : State) (code : FaultCode) (cls : FaultClass) : (s.flmRaise code cls).ssv = s.ssv := rfl
@[simp] theorem State.flmRaise_sfu (s : State) (code : FaultCode) (cls : FaultClass) : (s.flmRaise code cls).sfu = s.sfu := rfl
@[simp] theorem State.flmRaise_sdm (s : State) (code : FaultCode) (cls : FaultClass) : (s.flmRaise code cls).sdm = s.sdm := rfl
@[simp] theorem State.flmRaise_asu (s : State) (code : FaultCode) (cls : FaultClass) : (s.flmRaise code cls).asu = s.asu := rfl
@[simp] theorem State.flmRaise_cru (s : State) (code : FaultCode) (cls : FaultClass) : (s.flmRaise code cls).cru = s.cru := rfl
@[simp] theorem State.flmRaise_cfl (s : State) (code : FaultCode) (cls : FaultClass) : (s.flmRaise code cls).cfl = s.cfl := rfl
@[simp] theorem State.flmRaise_snu (s : State) (code : FaultCode) (cls : FaultClass) : (s.flmRaise code cls).snu = s.snu := rfl
@[simp] theorem State.flmRaise_routed (s : State) (code : FaultCode) (cls : FaultClass) :
    (s.flmRaise code cls).routed = s.routed := rfl
@[simp] theorem State.flmRaise_supokHigh (s : State) (code : FaultCode) (cls : FaultClass) :
    (s.flmRaise code cls).supokHigh = s.supokHigh := rfl
@[simp] theorem State.flmRaise_rstnHigh (s : State) (code : FaultCode) (cls : FaultClass) :
    (s.flmRaise code cls).rstnHigh = s.rstnHigh := rfl
@[simp] theorem State.flmRaise_now (s : State) (code : FaultCode) (cls : FaultClass) : (s.flmRaise code cls).now = s.now := rfl
@[simp] theorem State.flmRaise_freeIndex (s : State) (code : FaultCode) (cls : FaultClass) :
    (s.flmRaise code cls).freeIndex = s.freeIndex := rfl
@[simp] theorem State.flmRaise_pending (s : State) (code : FaultCode) (cls : FaultClass) :
    (s.flmRaise code cls).pending = s.pending := rfl

/-! ### flmClear -/
@[simp] theorem State.flmClear_lif (s : State) (code : FaultCode) : (s.flmClear code).lif = s.lif := rfl
@[simp] theorem State.flmClear_ssv (s : State) (code : FaultCode) : (s.flmClear code).ssv = s.ssv := rfl
@[simp] theorem State.flmClear_sfu (s : State) (code : FaultCode) : (s.flmClear code).sfu = s.sfu := rfl
@[simp] theorem State.flmClear_sdm (s : State) (code : FaultCode) : (s.flmClear code).sdm = s.sdm := rfl
@[simp] theorem State.flmClear_asu (s : State) (code : FaultCode) : (s.flmClear code).asu = s.asu := rfl
@[simp] theorem State.flmClear_cru (s : State) (code : FaultCode) : (s.flmClear code).cru = s.cru := rfl
@[simp] theorem State.flmClear_cfl (s : State) (code : FaultCode) : (s.flmClear code).cfl = s.cfl := rfl
@[simp] theorem State.flmClear_snu (s : State) (code : FaultCode) : (s.flmClear code).snu = s.snu := rfl
@[simp] theorem State.flmClear_routed (s : State) (code : FaultCode) : (s.flmClear code).routed = s.routed := rfl
@[simp] theorem State.flmClear_supokHigh (s : State) (code : FaultCode) : (s.flmClear code).supokHigh = s.supokHigh := rfl
@[simp] theorem State.flmClear_rstnHigh (s : State) (code : FaultCode) : (s.flmClear code).rstnHigh = s.rstnHigh := rfl
@[simp] theorem State.flmClear_now (s : State) (code : FaultCode) : (s.flmClear code).now = s.now := rfl
@[simp] theorem State.flmClear_freeIndex (s : State) (code : FaultCode) : (s.flmClear code).freeIndex = s.freeIndex := rfl
@[simp] theorem State.flmClear_pending (s : State) (code : FaultCode) : (s.flmClear code).pending = s.pending := rfl

/-! ### request -/
@[simp] theorem State.request_lif (s : State) (q : FaultRequest) : (s.request q).lif = s.lif := by cases q <;> rfl
@[simp] theorem State.request_ssv (s : State) (q : FaultRequest) : (s.request q).ssv = s.ssv := by cases q <;> rfl
@[simp] theorem State.request_sfu (s : State) (q : FaultRequest) : (s.request q).sfu = s.sfu := by cases q <;> rfl
@[simp] theorem State.request_sdm (s : State) (q : FaultRequest) : (s.request q).sdm = s.sdm := by cases q <;> rfl
@[simp] theorem State.request_asu (s : State) (q : FaultRequest) : (s.request q).asu = s.asu := by cases q <;> rfl
@[simp] theorem State.request_cru (s : State) (q : FaultRequest) : (s.request q).cru = s.cru := by cases q <;> rfl
@[simp] theorem State.request_cfl (s : State) (q : FaultRequest) : (s.request q).cfl = s.cfl := by cases q <;> rfl
@[simp] theorem State.request_snu (s : State) (q : FaultRequest) : (s.request q).snu = s.snu := by cases q <;> rfl
@[simp] theorem State.request_routed (s : State) (q : FaultRequest) : (s.request q).routed = s.routed := by cases q <;> rfl
@[simp] theorem State.request_supokHigh (s : State) (q : FaultRequest) : (s.request q).supokHigh = s.supokHigh :=
  by cases q <;> rfl
@[simp] theorem State.request_rstnHigh (s : State) (q : FaultRequest) : (s.request q).rstnHigh = s.rstnHigh :=
  by cases q <;> rfl
@[simp] theorem State.request_now (s : State) (q : FaultRequest) : (s.request q).now = s.now := by cases q <;> rfl
@[simp] theorem State.request_freeIndex (s : State) (q : FaultRequest) : (s.request q).freeIndex = s.freeIndex :=
  by cases q <;> rfl
@[simp] theorem State.request_pending (s : State) (q : FaultRequest) : (s.request q).pending = s.pending := by cases q <;> rfl

/-! ### requests -/
@[simp] theorem State.requests_lif (s : State) (qs : List FaultRequest) : (s.requests qs).lif = s.lif := by
  induction qs generalizing s with
  | nil => rfl
  | cons q qs ih => exact (ih (s.request q)).trans (s.request_lif q)
@[simp] theorem State.requests_ssv (s : State) (qs : List FaultRequest) : (s.requests qs).ssv = s.ssv := by
  induction qs generalizing s with
  | nil => rfl
  | cons q qs ih => exact (ih (s.request q)).trans (s.request_ssv q)
@[simp] theorem State.requests_sfu (s : State) (qs : List FaultRequest) : (s.requests qs).sfu = s.sfu := by
  induction qs generalizing s with
  | nil => rfl
  | cons q qs ih => exact (ih (s.request q)).trans (s.request_sfu q)
@[simp] theorem State.requests_sdm (s : State) (qs : List FaultRequest) : (s.requests qs).sdm = s.sdm := by
  induction qs generalizing s with
  | nil => rfl
  | cons q qs ih => exact (ih (s.request q)).trans (s.request_sdm q)
@[simp] theorem State.requests_asu (s : State) (qs : List FaultRequest) : (s.requests qs).asu = s.asu := by
  induction qs generalizing s with
  | nil => rfl
  | cons q qs ih => exact (ih (s.request q)).trans (s.request_asu q)
@[simp] theorem State.requests_cru (s : State) (qs : List FaultRequest) : (s.requests qs).cru = s.cru := by
  induction qs generalizing s with
  | nil => rfl
  | cons q qs ih => exact (ih (s.request q)).trans (s.request_cru q)
@[simp] theorem State.requests_cfl (s : State) (qs : List FaultRequest) : (s.requests qs).cfl = s.cfl := by
  induction qs generalizing s with
  | nil => rfl
  | cons q qs ih => exact (ih (s.request q)).trans (s.request_cfl q)
@[simp] theorem State.requests_snu (s : State) (qs : List FaultRequest) : (s.requests qs).snu = s.snu := by
  induction qs generalizing s with
  | nil => rfl
  | cons q qs ih => exact (ih (s.request q)).trans (s.request_snu q)
@[simp] theorem State.requests_routed (s : State) (qs : List FaultRequest) : (s.requests qs).routed = s.routed := by
  induction qs generalizing s with
  | nil => rfl
  | cons q qs ih => exact (ih (s.request q)).trans (s.request_routed q)
@[simp] theorem State.requests_supokHigh (s : State) (qs : List FaultRequest) : (s.requests qs).supokHigh = s.supokHigh := by
  induction qs generalizing s with
  | nil => rfl
  | cons q qs ih => exact (ih (s.request q)).trans (s.request_supokHigh q)
@[simp] theorem State.requests_rstnHigh (s : State) (qs : List FaultRequest) : (s.requests qs).rstnHigh = s.rstnHigh := by
  induction qs generalizing s with
  | nil => rfl
  | cons q qs ih => exact (ih (s.request q)).trans (s.request_rstnHigh q)
@[simp] theorem State.requests_now (s : State) (qs : List FaultRequest) : (s.requests qs).now = s.now := by
  induction qs generalizing s with
  | nil => rfl
  | cons q qs ih => exact (ih (s.request q)).trans (s.request_now q)
@[simp] theorem State.requests_freeIndex (s : State) (qs : List FaultRequest) : (s.requests qs).freeIndex = s.freeIndex := by
  induction qs generalizing s with
  | nil => rfl
  | cons q qs ih => exact (ih (s.request q)).trans (s.request_freeIndex q)
@[simp] theorem State.requests_pending (s : State) (qs : List FaultRequest) : (s.requests qs).pending = s.pending := by
  induction qs generalizing s with
  | nil => rfl
  | cons q qs ih => exact (ih (s.request q)).trans (s.request_pending q)

/-! ### flmReconcile -/
@[simp] theorem State.flmReconcile_lif (s : State) (origin : Nat) (payload : List Byte) :
    (s.flmReconcile origin payload).lif = s.lif := rfl
@[simp] theorem State.flmReconcile_ssv (s : State) (origin : Nat) (payload : List Byte) :
    (s.flmReconcile origin payload).ssv = s.ssv := rfl
@[simp] theorem State.flmReconcile_sfu (s : State) (origin : Nat) (payload : List Byte) :
    (s.flmReconcile origin payload).sfu = s.sfu := rfl
@[simp] theorem State.flmReconcile_sdm (s : State) (origin : Nat) (payload : List Byte) :
    (s.flmReconcile origin payload).sdm = s.sdm := rfl
@[simp] theorem State.flmReconcile_asu (s : State) (origin : Nat) (payload : List Byte) :
    (s.flmReconcile origin payload).asu = s.asu := rfl
@[simp] theorem State.flmReconcile_cru (s : State) (origin : Nat) (payload : List Byte) :
    (s.flmReconcile origin payload).cru = s.cru := rfl
@[simp] theorem State.flmReconcile_cfl (s : State) (origin : Nat) (payload : List Byte) :
    (s.flmReconcile origin payload).cfl = s.cfl := rfl
@[simp] theorem State.flmReconcile_snu (s : State) (origin : Nat) (payload : List Byte) :
    (s.flmReconcile origin payload).snu = s.snu := rfl
@[simp] theorem State.flmReconcile_routed (s : State) (origin : Nat) (payload : List Byte) :
    (s.flmReconcile origin payload).routed = s.routed := rfl
@[simp] theorem State.flmReconcile_supokHigh (s : State) (origin : Nat) (payload : List Byte) :
    (s.flmReconcile origin payload).supokHigh = s.supokHigh := rfl
@[simp] theorem State.flmReconcile_rstnHigh (s : State) (origin : Nat) (payload : List Byte) :
    (s.flmReconcile origin payload).rstnHigh = s.rstnHigh := rfl
@[simp] theorem State.flmReconcile_now (s : State) (origin : Nat) (payload : List Byte) :
    (s.flmReconcile origin payload).now = s.now := rfl
@[simp] theorem State.flmReconcile_freeIndex (s : State) (origin : Nat) (payload : List Byte) :
    (s.flmReconcile origin payload).freeIndex = s.freeIndex := rfl
@[simp] theorem State.flmReconcile_pending (s : State) (origin : Nat) (payload : List Byte) :
    (s.flmReconcile origin payload).pending = s.pending := rfl

/-! ### flmStale -/
@[simp] theorem State.flmStale_lif (s : State) (origin : Nat) : (s.flmStale origin).lif = s.lif := rfl
@[simp] theorem State.flmStale_ssv (s : State) (origin : Nat) : (s.flmStale origin).ssv = s.ssv := rfl
@[simp] theorem State.flmStale_sfu (s : State) (origin : Nat) : (s.flmStale origin).sfu = s.sfu := rfl
@[simp] theorem State.flmStale_sdm (s : State) (origin : Nat) : (s.flmStale origin).sdm = s.sdm := rfl
@[simp] theorem State.flmStale_asu (s : State) (origin : Nat) : (s.flmStale origin).asu = s.asu := rfl
@[simp] theorem State.flmStale_cru (s : State) (origin : Nat) : (s.flmStale origin).cru = s.cru := rfl
@[simp] theorem State.flmStale_cfl (s : State) (origin : Nat) : (s.flmStale origin).cfl = s.cfl := rfl
@[simp] theorem State.flmStale_snu (s : State) (origin : Nat) : (s.flmStale origin).snu = s.snu := rfl
@[simp] theorem State.flmStale_routed (s : State) (origin : Nat) : (s.flmStale origin).routed = s.routed := rfl
@[simp] theorem State.flmStale_supokHigh (s : State) (origin : Nat) : (s.flmStale origin).supokHigh = s.supokHigh := rfl
@[simp] theorem State.flmStale_rstnHigh (s : State) (origin : Nat) : (s.flmStale origin).rstnHigh = s.rstnHigh := rfl
@[simp] theorem State.flmStale_now (s : State) (origin : Nat) : (s.flmStale origin).now = s.now := rfl
@[simp] theorem State.flmStale_freeIndex (s : State) (origin : Nat) : (s.flmStale origin).freeIndex = s.freeIndex := rfl
@[simp] theorem State.flmStale_pending (s : State) (origin : Nat) : (s.flmStale origin).pending = s.pending := rfl

/-! ### flmAcknowledge -/
@[simp] theorem State.flmAcknowledge_lif (s : State) (sel : FaultRecord → Bool) : (s.flmAcknowledge sel).lif = s.lif := rfl
@[simp] theorem State.flmAcknowledge_ssv (s : State) (sel : FaultRecord → Bool) : (s.flmAcknowledge sel).ssv = s.ssv := rfl
@[simp] theorem State.flmAcknowledge_sfu (s : State) (sel : FaultRecord → Bool) : (s.flmAcknowledge sel).sfu = s.sfu := rfl
@[simp] theorem State.flmAcknowledge_sdm (s : State) (sel : FaultRecord → Bool) : (s.flmAcknowledge sel).sdm = s.sdm := rfl
@[simp] theorem State.flmAcknowledge_asu (s : State) (sel : FaultRecord → Bool) : (s.flmAcknowledge sel).asu = s.asu := rfl
@[simp] theorem State.flmAcknowledge_cru (s : State) (sel : FaultRecord → Bool) : (s.flmAcknowledge sel).cru = s.cru := rfl
@[simp] theorem State.flmAcknowledge_cfl (s : State) (sel : FaultRecord → Bool) : (s.flmAcknowledge sel).cfl = s.cfl := rfl
@[simp] theorem State.flmAcknowledge_snu (s : State) (sel : FaultRecord → Bool) : (s.flmAcknowledge sel).snu = s.snu := rfl
@[simp] theorem State.flmAcknowledge_routed (s : State) (sel : FaultRecord → Bool) : (s.flmAcknowledge sel).routed = s.routed :=
  rfl
@[simp] theorem State.flmAcknowledge_supokHigh (s : State) (sel : FaultRecord → Bool) :
    (s.flmAcknowledge sel).supokHigh = s.supokHigh := rfl
@[simp] theorem State.flmAcknowledge_rstnHigh (s : State) (sel : FaultRecord → Bool) :
    (s.flmAcknowledge sel).rstnHigh = s.rstnHigh := rfl
@[simp] theorem State.flmAcknowledge_now (s : State) (sel : FaultRecord → Bool) : (s.flmAcknowledge sel).now = s.now := rfl
@[simp] theorem State.flmAcknowledge_freeIndex (s : State) (sel : FaultRecord → Bool) :
    (s.flmAcknowledge sel).freeIndex = s.freeIndex := rfl
@[simp] theorem State.flmAcknowledge_pending (s : State) (sel : FaultRecord → Bool) :
    (s.flmAcknowledge sel).pending = s.pending := rfl

/-! ### flmPeerAckn -/
@[simp] theorem State.flmPeerAckn_lif (s : State) (origin : Nat) (code : FaultCode) : (s.flmPeerAckn origin code).lif = s.lif :=
  rfl
@[simp] theorem State.flmPeerAckn_ssv (s : State) (origin : Nat) (code : FaultCode) : (s.flmPeerAckn origin code).ssv = s.ssv :=
  rfl
@[simp] theorem State.flmPeerAckn_sfu (s : State) (origin : Nat) (code : FaultCode) : (s.flmPeerAckn origin code).sfu = s.sfu :=
  rfl
@[simp] theorem State.flmPeerAckn_sdm (s : State) (origin : Nat) (code : FaultCode) : (s.flmPeerAckn origin code).sdm = s.sdm :=
  rfl
@[simp] theorem State.flmPeerAckn_asu (s : State) (origin : Nat) (code : FaultCode) : (s.flmPeerAckn origin code).asu = s.asu :=
  rfl
@[simp] theorem State.flmPeerAckn_cru (s : State) (origin : Nat) (code : FaultCode) : (s.flmPeerAckn origin code).cru = s.cru :=
  rfl
@[simp] theorem State.flmPeerAckn_cfl (s : State) (origin : Nat) (code : FaultCode) : (s.flmPeerAckn origin code).cfl = s.cfl :=
  rfl
@[simp] theorem State.flmPeerAckn_snu (s : State) (origin : Nat) (code : FaultCode) : (s.flmPeerAckn origin code).snu = s.snu :=
  rfl
@[simp] theorem State.flmPeerAckn_routed (s : State) (origin : Nat) (code : FaultCode) :
    (s.flmPeerAckn origin code).routed = s.routed := rfl
@[simp] theorem State.flmPeerAckn_supokHigh (s : State) (origin : Nat) (code : FaultCode) :
    (s.flmPeerAckn origin code).supokHigh = s.supokHigh := rfl
@[simp] theorem State.flmPeerAckn_rstnHigh (s : State) (origin : Nat) (code : FaultCode) :
    (s.flmPeerAckn origin code).rstnHigh = s.rstnHigh := rfl
@[simp] theorem State.flmPeerAckn_now (s : State) (origin : Nat) (code : FaultCode) : (s.flmPeerAckn origin code).now = s.now :=
  rfl
@[simp] theorem State.flmPeerAckn_freeIndex (s : State) (origin : Nat) (code : FaultCode) :
    (s.flmPeerAckn origin code).freeIndex = s.freeIndex := rfl
@[simp] theorem State.flmPeerAckn_pending (s : State) (origin : Nat) (code : FaultCode) :
    (s.flmPeerAckn origin code).pending = s.pending := rfl

/-! ### reminderExpiry -/
@[simp] theorem State.reminderExpiry_lif (s : State) : (s.reminderExpiry).lif = s.lif := rfl
@[simp] theorem State.reminderExpiry_ssv (s : State) : (s.reminderExpiry).ssv = s.ssv := rfl
@[simp] theorem State.reminderExpiry_sfu (s : State) : (s.reminderExpiry).sfu = s.sfu := rfl
@[simp] theorem State.reminderExpiry_sdm (s : State) : (s.reminderExpiry).sdm = s.sdm := rfl
@[simp] theorem State.reminderExpiry_asu (s : State) : (s.reminderExpiry).asu = s.asu := rfl
@[simp] theorem State.reminderExpiry_cru (s : State) : (s.reminderExpiry).cru = s.cru := rfl
@[simp] theorem State.reminderExpiry_diu (s : State) : (s.reminderExpiry).diu = s.diu := rfl
@[simp] theorem State.reminderExpiry_cfl (s : State) : (s.reminderExpiry).cfl = s.cfl := rfl
@[simp] theorem State.reminderExpiry_snu (s : State) : (s.reminderExpiry).snu = s.snu := rfl
@[simp] theorem State.reminderExpiry_routed (s : State) : (s.reminderExpiry).routed = s.routed := rfl
@[simp] theorem State.reminderExpiry_supokHigh (s : State) : (s.reminderExpiry).supokHigh = s.supokHigh := rfl
@[simp] theorem State.reminderExpiry_rstnHigh (s : State) : (s.reminderExpiry).rstnHigh = s.rstnHigh := rfl
@[simp] theorem State.reminderExpiry_now (s : State) : (s.reminderExpiry).now = s.now := rfl
@[simp] theorem State.reminderExpiry_freeIndex (s : State) : (s.reminderExpiry).freeIndex = s.freeIndex := rfl
@[simp] theorem State.reminderExpiry_pending (s : State) : (s.reminderExpiry).pending = s.pending := rfl

/-! ### queueLoss -/
@[simp] theorem State.queueLoss_ssv (s : State) : (s.queueLoss).ssv = s.ssv := by unfold State.queueLoss; split <;> simp
@[simp] theorem State.queueLoss_sfu (s : State) : (s.queueLoss).sfu = s.sfu := by unfold State.queueLoss; split <;> simp
@[simp] theorem State.queueLoss_sdm (s : State) : (s.queueLoss).sdm = s.sdm := by unfold State.queueLoss; split <;> simp
@[simp] theorem State.queueLoss_asu (s : State) : (s.queueLoss).asu = s.asu := by unfold State.queueLoss; split <;> simp
@[simp] theorem State.queueLoss_cru (s : State) : (s.queueLoss).cru = s.cru := by unfold State.queueLoss; split <;> simp
@[simp] theorem State.queueLoss_cfl (s : State) : (s.queueLoss).cfl = s.cfl := by unfold State.queueLoss; split <;> simp
@[simp] theorem State.queueLoss_snu (s : State) : (s.queueLoss).snu = s.snu := by unfold State.queueLoss; split <;> simp
@[simp] theorem State.queueLoss_routed (s : State) : (s.queueLoss).routed = s.routed :=
  by unfold State.queueLoss; split <;> simp
@[simp] theorem State.queueLoss_supokHigh (s : State) : (s.queueLoss).supokHigh = s.supokHigh :=
  by unfold State.queueLoss; split <;> simp
@[simp] theorem State.queueLoss_rstnHigh (s : State) : (s.queueLoss).rstnHigh = s.rstnHigh :=
  by unfold State.queueLoss; split <;> simp
@[simp] theorem State.queueLoss_now (s : State) : (s.queueLoss).now = s.now := by unfold State.queueLoss; split <;> simp
@[simp] theorem State.queueLoss_freeIndex (s : State) : (s.queueLoss).freeIndex = s.freeIndex :=
  by unfold State.queueLoss; split <;> simp
@[simp] theorem State.queueLoss_pending (s : State) : (s.queueLoss).pending = s.pending :=
  by unfold State.queueLoss; split <;> simp

/-! ### handFrame -/
@[simp] theorem State.handFrame_ssv (s : State) (content : TxContent) : (s.handFrame content).ssv = s.ssv :=
  by unfold State.handFrame; dsimp only; split <;> simp
@[simp] theorem State.handFrame_sfu (s : State) (content : TxContent) : (s.handFrame content).sfu = s.sfu :=
  by unfold State.handFrame; dsimp only; split <;> simp
@[simp] theorem State.handFrame_sdm (s : State) (content : TxContent) : (s.handFrame content).sdm = s.sdm :=
  by unfold State.handFrame; dsimp only; split <;> simp
@[simp] theorem State.handFrame_asu (s : State) (content : TxContent) : (s.handFrame content).asu = s.asu :=
  by unfold State.handFrame; dsimp only; split <;> simp
@[simp] theorem State.handFrame_cru (s : State) (content : TxContent) : (s.handFrame content).cru = s.cru :=
  by unfold State.handFrame; dsimp only; split <;> simp
@[simp] theorem State.handFrame_cfl (s : State) (content : TxContent) : (s.handFrame content).cfl = s.cfl :=
  by unfold State.handFrame; dsimp only; split <;> simp
@[simp] theorem State.handFrame_routed (s : State) (content : TxContent) : (s.handFrame content).routed = s.routed :=
  by unfold State.handFrame; dsimp only; split <;> simp
@[simp] theorem State.handFrame_supokHigh (s : State) (content : TxContent) : (s.handFrame content).supokHigh = s.supokHigh :=
  by unfold State.handFrame; dsimp only; split <;> simp
@[simp] theorem State.handFrame_rstnHigh (s : State) (content : TxContent) : (s.handFrame content).rstnHigh = s.rstnHigh :=
  by unfold State.handFrame; dsimp only; split <;> simp
@[simp] theorem State.handFrame_now (s : State) (content : TxContent) : (s.handFrame content).now = s.now :=
  by unfold State.handFrame; dsimp only; split <;> simp
@[simp] theorem State.handFrame_freeIndex (s : State) (content : TxContent) : (s.handFrame content).freeIndex = s.freeIndex :=
  by unfold State.handFrame; dsimp only; split <;> simp
@[simp] theorem State.handFrame_pending (s : State) (content : TxContent) : (s.handFrame content).pending = s.pending :=
  by unfold State.handFrame; dsimp only; split <;> simp

/-! ### queueEased -/
@[simp] theorem State.queueEased_ssv (s : State) : (s.queueEased).ssv = s.ssv := by unfold State.queueEased; split <;> simp
@[simp] theorem State.queueEased_sfu (s : State) : (s.queueEased).sfu = s.sfu := by unfold State.queueEased; split <;> simp
@[simp] theorem State.queueEased_sdm (s : State) : (s.queueEased).sdm = s.sdm := by unfold State.queueEased; split <;> simp
@[simp] theorem State.queueEased_asu (s : State) : (s.queueEased).asu = s.asu := by unfold State.queueEased; split <;> simp
@[simp] theorem State.queueEased_cru (s : State) : (s.queueEased).cru = s.cru := by unfold State.queueEased; split <;> simp
@[simp] theorem State.queueEased_cfl (s : State) : (s.queueEased).cfl = s.cfl := by unfold State.queueEased; split <;> simp
@[simp] theorem State.queueEased_snu (s : State) : (s.queueEased).snu = s.snu := by unfold State.queueEased; split <;> simp
@[simp] theorem State.queueEased_routed (s : State) : (s.queueEased).routed = s.routed :=
  by unfold State.queueEased; split <;> simp
@[simp] theorem State.queueEased_supokHigh (s : State) : (s.queueEased).supokHigh = s.supokHigh :=
  by unfold State.queueEased; split <;> simp
@[simp] theorem State.queueEased_rstnHigh (s : State) : (s.queueEased).rstnHigh = s.rstnHigh :=
  by unfold State.queueEased; split <;> simp
@[simp] theorem State.queueEased_now (s : State) : (s.queueEased).now = s.now := by unfold State.queueEased; split <;> simp
@[simp] theorem State.queueEased_freeIndex (s : State) : (s.queueEased).freeIndex = s.freeIndex :=
  by unfold State.queueEased; split <;> simp
@[simp] theorem State.queueEased_pending (s : State) : (s.queueEased).pending = s.pending :=
  by unfold State.queueEased; split <;> simp

/-! ### enterHold -/
@[simp] theorem State.enterHold_ssv (s : State) : (s.enterHold).ssv = s.ssv := by unfold State.enterHold; split <;> simp
@[simp] theorem State.enterHold_sfu (s : State) : (s.enterHold).sfu = s.sfu := by unfold State.enterHold; split <;> simp
@[simp] theorem State.enterHold_sdm (s : State) : (s.enterHold).sdm = s.sdm := by unfold State.enterHold; split <;> simp
@[simp] theorem State.enterHold_asu (s : State) : (s.enterHold).asu = s.asu := by unfold State.enterHold; split <;> simp
@[simp] theorem State.enterHold_cru (s : State) : (s.enterHold).cru = s.cru := by unfold State.enterHold; split <;> simp
@[simp] theorem State.enterHold_cfl (s : State) : (s.enterHold).cfl = s.cfl := by unfold State.enterHold; split <;> simp
@[simp] theorem State.enterHold_routed (s : State) : (s.enterHold).routed = s.routed :=
  by unfold State.enterHold; split <;> simp
@[simp] theorem State.enterHold_supokHigh (s : State) : (s.enterHold).supokHigh = s.supokHigh :=
  by unfold State.enterHold; split <;> simp
@[simp] theorem State.enterHold_rstnHigh (s : State) : (s.enterHold).rstnHigh = s.rstnHigh :=
  by unfold State.enterHold; split <;> simp
@[simp] theorem State.enterHold_now (s : State) : (s.enterHold).now = s.now := by unfold State.enterHold; split <;> simp
@[simp] theorem State.enterHold_freeIndex (s : State) : (s.enterHold).freeIndex = s.freeIndex :=
  by unfold State.enterHold; split <;> simp
@[simp] theorem State.enterHold_pending (s : State) : (s.enterHold).pending = s.pending :=
  by unfold State.enterHold; split <;> simp

/-! ### headLeaves -/
@[simp] theorem State.headLeaves_ssv (s : State) : (s.headLeaves).ssv = s.ssv := by unfold State.headLeaves; split <;> simp
@[simp] theorem State.headLeaves_sfu (s : State) : (s.headLeaves).sfu = s.sfu := by unfold State.headLeaves; split <;> simp
@[simp] theorem State.headLeaves_sdm (s : State) : (s.headLeaves).sdm = s.sdm := by unfold State.headLeaves; split <;> simp
@[simp] theorem State.headLeaves_asu (s : State) : (s.headLeaves).asu = s.asu := by unfold State.headLeaves; split <;> simp
@[simp] theorem State.headLeaves_cru (s : State) : (s.headLeaves).cru = s.cru := by unfold State.headLeaves; split <;> simp
@[simp] theorem State.headLeaves_cfl (s : State) : (s.headLeaves).cfl = s.cfl := by unfold State.headLeaves; split <;> simp
@[simp] theorem State.headLeaves_routed (s : State) : (s.headLeaves).routed = s.routed :=
  by unfold State.headLeaves; split <;> simp
@[simp] theorem State.headLeaves_supokHigh (s : State) : (s.headLeaves).supokHigh = s.supokHigh :=
  by unfold State.headLeaves; split <;> simp
@[simp] theorem State.headLeaves_rstnHigh (s : State) : (s.headLeaves).rstnHigh = s.rstnHigh :=
  by unfold State.headLeaves; split <;> simp
@[simp] theorem State.headLeaves_now (s : State) : (s.headLeaves).now = s.now := by unfold State.headLeaves; split <;> simp
@[simp] theorem State.headLeaves_freeIndex (s : State) : (s.headLeaves).freeIndex = s.freeIndex :=
  by unfold State.headLeaves; split <;> simp
@[simp] theorem State.headLeaves_pending (s : State) : (s.headLeaves).pending = s.pending :=
  by unfold State.headLeaves; split <;> simp

/-! ### pruneQueue -/
@[simp] theorem State.pruneQueue_ssv (s : State) : (s.pruneQueue).ssv = s.ssv :=
  by unfold State.pruneQueue; dsimp only; split <;> simp
@[simp] theorem State.pruneQueue_sfu (s : State) : (s.pruneQueue).sfu = s.sfu :=
  by unfold State.pruneQueue; dsimp only; split <;> simp
@[simp] theorem State.pruneQueue_sdm (s : State) : (s.pruneQueue).sdm = s.sdm :=
  by unfold State.pruneQueue; dsimp only; split <;> simp
@[simp] theorem State.pruneQueue_asu (s : State) : (s.pruneQueue).asu = s.asu :=
  by unfold State.pruneQueue; dsimp only; split <;> simp
@[simp] theorem State.pruneQueue_cru (s : State) : (s.pruneQueue).cru = s.cru :=
  by unfold State.pruneQueue; dsimp only; split <;> simp
@[simp] theorem State.pruneQueue_cfl (s : State) : (s.pruneQueue).cfl = s.cfl :=
  by unfold State.pruneQueue; dsimp only; split <;> simp
@[simp] theorem State.pruneQueue_snu (s : State) : (s.pruneQueue).snu = s.snu :=
  by unfold State.pruneQueue; dsimp only; split <;> simp
@[simp] theorem State.pruneQueue_routed (s : State) : (s.pruneQueue).routed = s.routed :=
  by unfold State.pruneQueue; dsimp only; split <;> simp
@[simp] theorem State.pruneQueue_supokHigh (s : State) : (s.pruneQueue).supokHigh = s.supokHigh :=
  by unfold State.pruneQueue; dsimp only; split <;> simp
@[simp] theorem State.pruneQueue_rstnHigh (s : State) : (s.pruneQueue).rstnHigh = s.rstnHigh :=
  by unfold State.pruneQueue; dsimp only; split <;> simp
@[simp] theorem State.pruneQueue_now (s : State) : (s.pruneQueue).now = s.now :=
  by unfold State.pruneQueue; dsimp only; split <;> simp
@[simp] theorem State.pruneQueue_freeIndex (s : State) : (s.pruneQueue).freeIndex = s.freeIndex :=
  by unfold State.pruneQueue; dsimp only; split <;> simp
@[simp] theorem State.pruneQueue_pending (s : State) : (s.pruneQueue).pending = s.pending :=
  by unfold State.pruneQueue; dsimp only; split <;> simp

/-! ### startAttempt -/
@[simp] theorem State.startAttempt_ssv (s : State) : (s.startAttempt).ssv = s.ssv := by unfold State.startAttempt; split <;> rfl
@[simp] theorem State.startAttempt_sfu (s : State) : (s.startAttempt).sfu = s.sfu := by unfold State.startAttempt; split <;> rfl
@[simp] theorem State.startAttempt_sdm (s : State) : (s.startAttempt).sdm = s.sdm := by unfold State.startAttempt; split <;> rfl
@[simp] theorem State.startAttempt_asu (s : State) : (s.startAttempt).asu = s.asu := by unfold State.startAttempt; split <;> rfl
@[simp] theorem State.startAttempt_flm (s : State) : (s.startAttempt).flm = s.flm := by unfold State.startAttempt; split <;> rfl
@[simp] theorem State.startAttempt_cru (s : State) : (s.startAttempt).cru = s.cru := by unfold State.startAttempt; split <;> rfl
@[simp] theorem State.startAttempt_diu (s : State) : (s.startAttempt).diu = s.diu := by unfold State.startAttempt; split <;> rfl
@[simp] theorem State.startAttempt_idr (s : State) : (s.startAttempt).idr = s.idr := by unfold State.startAttempt; split <;> rfl
@[simp] theorem State.startAttempt_cfl (s : State) : (s.startAttempt).cfl = s.cfl := by unfold State.startAttempt; split <;> rfl
@[simp] theorem State.startAttempt_snu (s : State) : (s.startAttempt).snu = s.snu := by unfold State.startAttempt; split <;> rfl
@[simp] theorem State.startAttempt_routed (s : State) : (s.startAttempt).routed = s.routed :=
  by unfold State.startAttempt; split <;> rfl
@[simp] theorem State.startAttempt_supokHigh (s : State) : (s.startAttempt).supokHigh = s.supokHigh :=
  by unfold State.startAttempt; split <;> rfl
@[simp] theorem State.startAttempt_rstnHigh (s : State) : (s.startAttempt).rstnHigh = s.rstnHigh :=
  by unfold State.startAttempt; split <;> rfl
@[simp] theorem State.startAttempt_now (s : State) : (s.startAttempt).now = s.now := by unfold State.startAttempt; split <;> rfl
@[simp] theorem State.startAttempt_freeIndex (s : State) : (s.startAttempt).freeIndex = s.freeIndex :=
  by unfold State.startAttempt; split <;> rfl
@[simp] theorem State.startAttempt_pending (s : State) : (s.startAttempt).pending = s.pending :=
  by unfold State.startAttempt; split <;> rfl

/-! ### releaseLine -/
@[simp] theorem State.releaseLine_ssv (s : State) : (s.releaseLine).ssv = s.ssv := rfl
@[simp] theorem State.releaseLine_sfu (s : State) : (s.releaseLine).sfu = s.sfu := rfl
@[simp] theorem State.releaseLine_sdm (s : State) : (s.releaseLine).sdm = s.sdm := rfl
@[simp] theorem State.releaseLine_asu (s : State) : (s.releaseLine).asu = s.asu := rfl
@[simp] theorem State.releaseLine_flm (s : State) : (s.releaseLine).flm = s.flm := rfl
@[simp] theorem State.releaseLine_cru (s : State) : (s.releaseLine).cru = s.cru := rfl
@[simp] theorem State.releaseLine_diu (s : State) : (s.releaseLine).diu = s.diu := rfl
@[simp] theorem State.releaseLine_idr (s : State) : (s.releaseLine).idr = s.idr := rfl
@[simp] theorem State.releaseLine_cfl (s : State) : (s.releaseLine).cfl = s.cfl := rfl
@[simp] theorem State.releaseLine_snu (s : State) : (s.releaseLine).snu = s.snu := rfl
@[simp] theorem State.releaseLine_routed (s : State) : (s.releaseLine).routed = s.routed := rfl
@[simp] theorem State.releaseLine_supokHigh (s : State) : (s.releaseLine).supokHigh = s.supokHigh := rfl
@[simp] theorem State.releaseLine_rstnHigh (s : State) : (s.releaseLine).rstnHigh = s.rstnHigh := rfl
@[simp] theorem State.releaseLine_now (s : State) : (s.releaseLine).now = s.now := rfl
@[simp] theorem State.releaseLine_freeIndex (s : State) : (s.releaseLine).freeIndex = s.freeIndex := rfl
@[simp] theorem State.releaseLine_pending (s : State) : (s.releaseLine).pending = s.pending := rfl

/-! ### sendSucceeded -/
@[simp] theorem State.sendSucceeded_ssv (s : State) : (s.sendSucceeded).ssv = s.ssv :=
  by unfold State.sendSucceeded; split <;> simp
@[simp] theorem State.sendSucceeded_sfu (s : State) : (s.sendSucceeded).sfu = s.sfu :=
  by unfold State.sendSucceeded; split <;> simp
@[simp] theorem State.sendSucceeded_sdm (s : State) : (s.sendSucceeded).sdm = s.sdm :=
  by unfold State.sendSucceeded; split <;> simp
@[simp] theorem State.sendSucceeded_asu (s : State) : (s.sendSucceeded).asu = s.asu :=
  by unfold State.sendSucceeded; split <;> simp
@[simp] theorem State.sendSucceeded_cru (s : State) : (s.sendSucceeded).cru = s.cru :=
  by unfold State.sendSucceeded; split <;> simp
@[simp] theorem State.sendSucceeded_cfl (s : State) : (s.sendSucceeded).cfl = s.cfl :=
  by unfold State.sendSucceeded; split <;> simp
@[simp] theorem State.sendSucceeded_snu (s : State) : (s.sendSucceeded).snu = s.snu :=
  by unfold State.sendSucceeded; split <;> simp
@[simp] theorem State.sendSucceeded_routed (s : State) : (s.sendSucceeded).routed = s.routed :=
  by unfold State.sendSucceeded; split <;> simp
@[simp] theorem State.sendSucceeded_supokHigh (s : State) : (s.sendSucceeded).supokHigh = s.supokHigh :=
  by unfold State.sendSucceeded; split <;> simp
@[simp] theorem State.sendSucceeded_rstnHigh (s : State) : (s.sendSucceeded).rstnHigh = s.rstnHigh :=
  by unfold State.sendSucceeded; split <;> simp
@[simp] theorem State.sendSucceeded_now (s : State) : (s.sendSucceeded).now = s.now :=
  by unfold State.sendSucceeded; split <;> simp
@[simp] theorem State.sendSucceeded_freeIndex (s : State) : (s.sendSucceeded).freeIndex = s.freeIndex :=
  by unfold State.sendSucceeded; split <;> simp
@[simp] theorem State.sendSucceeded_pending (s : State) : (s.sendSucceeded).pending = s.pending :=
  by unfold State.sendSucceeded; split <;> simp

/-! ### sendFailed -/
@[simp] theorem State.sendFailed_ssv (s : State) : (s.sendFailed).ssv = s.ssv := by unfold State.sendFailed; split <;> simp
@[simp] theorem State.sendFailed_sfu (s : State) : (s.sendFailed).sfu = s.sfu := by unfold State.sendFailed; split <;> simp
@[simp] theorem State.sendFailed_sdm (s : State) : (s.sendFailed).sdm = s.sdm := by unfold State.sendFailed; split <;> simp
@[simp] theorem State.sendFailed_asu (s : State) : (s.sendFailed).asu = s.asu := by unfold State.sendFailed; split <;> simp
@[simp] theorem State.sendFailed_cru (s : State) : (s.sendFailed).cru = s.cru := by unfold State.sendFailed; split <;> simp
@[simp] theorem State.sendFailed_cfl (s : State) : (s.sendFailed).cfl = s.cfl := by unfold State.sendFailed; split <;> simp
@[simp] theorem State.sendFailed_snu (s : State) : (s.sendFailed).snu = s.snu := by unfold State.sendFailed; split <;> simp
@[simp] theorem State.sendFailed_routed (s : State) : (s.sendFailed).routed = s.routed :=
  by unfold State.sendFailed; split <;> simp
@[simp] theorem State.sendFailed_supokHigh (s : State) : (s.sendFailed).supokHigh = s.supokHigh :=
  by unfold State.sendFailed; split <;> simp
@[simp] theorem State.sendFailed_rstnHigh (s : State) : (s.sendFailed).rstnHigh = s.rstnHigh :=
  by unfold State.sendFailed; split <;> simp
@[simp] theorem State.sendFailed_now (s : State) : (s.sendFailed).now = s.now := by unfold State.sendFailed; split <;> simp
@[simp] theorem State.sendFailed_freeIndex (s : State) : (s.sendFailed).freeIndex = s.freeIndex :=
  by unfold State.sendFailed; split <;> simp
@[simp] theorem State.sendFailed_pending (s : State) : (s.sendFailed).pending = s.pending :=
  by unfold State.sendFailed; split <;> simp

/-! ### attemptSucceeds -/
@[simp] theorem State.attemptSucceeds_ssv (s : State) : (s.attemptSucceeds).ssv = s.ssv :=
  by unfold State.attemptSucceeds; split <;> simp
@[simp] theorem State.attemptSucceeds_sfu (s : State) : (s.attemptSucceeds).sfu = s.sfu :=
  by unfold State.attemptSucceeds; split <;> simp
@[simp] theorem State.attemptSucceeds_sdm (s : State) : (s.attemptSucceeds).sdm = s.sdm :=
  by unfold State.attemptSucceeds; split <;> simp
@[simp] theorem State.attemptSucceeds_asu (s : State) : (s.attemptSucceeds).asu = s.asu :=
  by unfold State.attemptSucceeds; split <;> simp
@[simp] theorem State.attemptSucceeds_cru (s : State) : (s.attemptSucceeds).cru = s.cru :=
  by unfold State.attemptSucceeds; split <;> simp
@[simp] theorem State.attemptSucceeds_cfl (s : State) : (s.attemptSucceeds).cfl = s.cfl :=
  by unfold State.attemptSucceeds; split <;> simp
@[simp] theorem State.attemptSucceeds_routed (s : State) : (s.attemptSucceeds).routed = s.routed :=
  by unfold State.attemptSucceeds; split <;> simp
@[simp] theorem State.attemptSucceeds_supokHigh (s : State) : (s.attemptSucceeds).supokHigh = s.supokHigh :=
  by unfold State.attemptSucceeds; split <;> simp
@[simp] theorem State.attemptSucceeds_rstnHigh (s : State) : (s.attemptSucceeds).rstnHigh = s.rstnHigh :=
  by unfold State.attemptSucceeds; split <;> simp
@[simp] theorem State.attemptSucceeds_now (s : State) : (s.attemptSucceeds).now = s.now :=
  by unfold State.attemptSucceeds; split <;> simp
@[simp] theorem State.attemptSucceeds_freeIndex (s : State) : (s.attemptSucceeds).freeIndex = s.freeIndex :=
  by unfold State.attemptSucceeds; split <;> simp
@[simp] theorem State.attemptSucceeds_pending (s : State) : (s.attemptSucceeds).pending = s.pending :=
  by unfold State.attemptSucceeds; split <;> simp

/-! ### attemptCounted -/
@[simp] theorem State.attemptCounted_ssv (s : State) : (s.attemptCounted).ssv = s.ssv := by
  unfold State.attemptCounted
  split
  · rfl
  · split <;> simp
@[simp] theorem State.attemptCounted_sfu (s : State) : (s.attemptCounted).sfu = s.sfu := by
  unfold State.attemptCounted
  split
  · rfl
  · split <;> simp
@[simp] theorem State.attemptCounted_sdm (s : State) : (s.attemptCounted).sdm = s.sdm := by
  unfold State.attemptCounted
  split
  · rfl
  · split <;> simp
@[simp] theorem State.attemptCounted_asu (s : State) : (s.attemptCounted).asu = s.asu := by
  unfold State.attemptCounted
  split
  · rfl
  · split <;> simp
@[simp] theorem State.attemptCounted_cru (s : State) : (s.attemptCounted).cru = s.cru := by
  unfold State.attemptCounted
  split
  · rfl
  · split <;> simp
@[simp] theorem State.attemptCounted_cfl (s : State) : (s.attemptCounted).cfl = s.cfl := by
  unfold State.attemptCounted
  split
  · rfl
  · split <;> simp
@[simp] theorem State.attemptCounted_routed (s : State) : (s.attemptCounted).routed = s.routed := by
  unfold State.attemptCounted
  split
  · rfl
  · split <;> simp
@[simp] theorem State.attemptCounted_supokHigh (s : State) : (s.attemptCounted).supokHigh = s.supokHigh := by
  unfold State.attemptCounted
  split
  · rfl
  · split <;> simp
@[simp] theorem State.attemptCounted_rstnHigh (s : State) : (s.attemptCounted).rstnHigh = s.rstnHigh := by
  unfold State.attemptCounted
  split
  · rfl
  · split <;> simp
@[simp] theorem State.attemptCounted_now (s : State) : (s.attemptCounted).now = s.now := by
  unfold State.attemptCounted
  split
  · rfl
  · split <;> simp
@[simp] theorem State.attemptCounted_freeIndex (s : State) : (s.attemptCounted).freeIndex = s.freeIndex := by
  unfold State.attemptCounted
  split
  · rfl
  · split <;> simp
@[simp] theorem State.attemptCounted_pending (s : State) : (s.attemptCounted).pending = s.pending := by
  unfold State.attemptCounted
  split
  · rfl
  · split <;> simp

/-! ### attemptFails -/
@[simp] theorem State.attemptFails_ssv (s : State) : (s.attemptFails).ssv = s.ssv :=
  by unfold State.attemptFails; split <;> simp
@[simp] theorem State.attemptFails_sfu (s : State) : (s.attemptFails).sfu = s.sfu :=
  by unfold State.attemptFails; split <;> simp
@[simp] theorem State.attemptFails_sdm (s : State) : (s.attemptFails).sdm = s.sdm :=
  by unfold State.attemptFails; split <;> simp
@[simp] theorem State.attemptFails_asu (s : State) : (s.attemptFails).asu = s.asu :=
  by unfold State.attemptFails; split <;> simp
@[simp] theorem State.attemptFails_cru (s : State) : (s.attemptFails).cru = s.cru :=
  by unfold State.attemptFails; split <;> simp
@[simp] theorem State.attemptFails_cfl (s : State) : (s.attemptFails).cfl = s.cfl :=
  by unfold State.attemptFails; split <;> simp
@[simp] theorem State.attemptFails_routed (s : State) : (s.attemptFails).routed = s.routed :=
  by unfold State.attemptFails; split <;> simp
@[simp] theorem State.attemptFails_supokHigh (s : State) : (s.attemptFails).supokHigh = s.supokHigh :=
  by unfold State.attemptFails; split <;> simp
@[simp] theorem State.attemptFails_rstnHigh (s : State) : (s.attemptFails).rstnHigh = s.rstnHigh :=
  by unfold State.attemptFails; split <;> simp
@[simp] theorem State.attemptFails_now (s : State) : (s.attemptFails).now = s.now :=
  by unfold State.attemptFails; split <;> simp
@[simp] theorem State.attemptFails_freeIndex (s : State) : (s.attemptFails).freeIndex = s.freeIndex :=
  by unfold State.attemptFails; split <;> simp
@[simp] theorem State.attemptFails_pending (s : State) : (s.attemptFails).pending = s.pending :=
  by unfold State.attemptFails; split <;> simp

/-! ### prunedFrameEnds -/
@[simp] theorem State.prunedFrameEnds_ssv (s : State) : (s.prunedFrameEnds).ssv = s.ssv :=
  by unfold State.prunedFrameEnds; split <;> rfl
@[simp] theorem State.prunedFrameEnds_sfu (s : State) : (s.prunedFrameEnds).sfu = s.sfu :=
  by unfold State.prunedFrameEnds; split <;> rfl
@[simp] theorem State.prunedFrameEnds_sdm (s : State) : (s.prunedFrameEnds).sdm = s.sdm :=
  by unfold State.prunedFrameEnds; split <;> rfl
@[simp] theorem State.prunedFrameEnds_asu (s : State) : (s.prunedFrameEnds).asu = s.asu :=
  by unfold State.prunedFrameEnds; split <;> rfl
@[simp] theorem State.prunedFrameEnds_flm (s : State) : (s.prunedFrameEnds).flm = s.flm :=
  by unfold State.prunedFrameEnds; split <;> rfl
@[simp] theorem State.prunedFrameEnds_cru (s : State) : (s.prunedFrameEnds).cru = s.cru :=
  by unfold State.prunedFrameEnds; split <;> rfl
@[simp] theorem State.prunedFrameEnds_diu (s : State) : (s.prunedFrameEnds).diu = s.diu :=
  by unfold State.prunedFrameEnds; split <;> rfl
@[simp] theorem State.prunedFrameEnds_idr (s : State) : (s.prunedFrameEnds).idr = s.idr :=
  by unfold State.prunedFrameEnds; split <;> rfl
@[simp] theorem State.prunedFrameEnds_cfl (s : State) : (s.prunedFrameEnds).cfl = s.cfl :=
  by unfold State.prunedFrameEnds; split <;> rfl
@[simp] theorem State.prunedFrameEnds_snu (s : State) : (s.prunedFrameEnds).snu = s.snu :=
  by unfold State.prunedFrameEnds; split <;> rfl
@[simp] theorem State.prunedFrameEnds_routed (s : State) : (s.prunedFrameEnds).routed = s.routed :=
  by unfold State.prunedFrameEnds; split <;> rfl
@[simp] theorem State.prunedFrameEnds_supokHigh (s : State) : (s.prunedFrameEnds).supokHigh = s.supokHigh :=
  by unfold State.prunedFrameEnds; split <;> rfl
@[simp] theorem State.prunedFrameEnds_rstnHigh (s : State) : (s.prunedFrameEnds).rstnHigh = s.rstnHigh :=
  by unfold State.prunedFrameEnds; split <;> rfl
@[simp] theorem State.prunedFrameEnds_now (s : State) : (s.prunedFrameEnds).now = s.now :=
  by unfold State.prunedFrameEnds; split <;> rfl
@[simp] theorem State.prunedFrameEnds_freeIndex (s : State) : (s.prunedFrameEnds).freeIndex = s.freeIndex :=
  by unfold State.prunedFrameEnds; split <;> rfl
@[simp] theorem State.prunedFrameEnds_pending (s : State) : (s.prunedFrameEnds).pending = s.pending :=
  by unfold State.prunedFrameEnds; split <;> rfl

/-! ### hearFrame -/
@[simp] theorem State.hearFrame_ssv (s : State) (bytes : List Byte) : (s.hearFrame bytes).ssv = s.ssv :=
  by unfold State.hearFrame; split <;> rfl
@[simp] theorem State.hearFrame_sfu (s : State) (bytes : List Byte) : (s.hearFrame bytes).sfu = s.sfu :=
  by unfold State.hearFrame; split <;> rfl
@[simp] theorem State.hearFrame_sdm (s : State) (bytes : List Byte) : (s.hearFrame bytes).sdm = s.sdm :=
  by unfold State.hearFrame; split <;> rfl
@[simp] theorem State.hearFrame_asu (s : State) (bytes : List Byte) : (s.hearFrame bytes).asu = s.asu :=
  by unfold State.hearFrame; split <;> rfl
@[simp] theorem State.hearFrame_flm (s : State) (bytes : List Byte) : (s.hearFrame bytes).flm = s.flm :=
  by unfold State.hearFrame; split <;> rfl
@[simp] theorem State.hearFrame_cru (s : State) (bytes : List Byte) : (s.hearFrame bytes).cru = s.cru :=
  by unfold State.hearFrame; split <;> rfl
@[simp] theorem State.hearFrame_diu (s : State) (bytes : List Byte) : (s.hearFrame bytes).diu = s.diu :=
  by unfold State.hearFrame; split <;> rfl
@[simp] theorem State.hearFrame_idr (s : State) (bytes : List Byte) : (s.hearFrame bytes).idr = s.idr :=
  by unfold State.hearFrame; split <;> rfl
@[simp] theorem State.hearFrame_cfl (s : State) (bytes : List Byte) : (s.hearFrame bytes).cfl = s.cfl :=
  by unfold State.hearFrame; split <;> rfl
@[simp] theorem State.hearFrame_snu (s : State) (bytes : List Byte) : (s.hearFrame bytes).snu = s.snu :=
  by unfold State.hearFrame; split <;> rfl
@[simp] theorem State.hearFrame_routed (s : State) (bytes : List Byte) : (s.hearFrame bytes).routed = s.routed :=
  by unfold State.hearFrame; split <;> rfl
@[simp] theorem State.hearFrame_supokHigh (s : State) (bytes : List Byte) : (s.hearFrame bytes).supokHigh = s.supokHigh :=
  by unfold State.hearFrame; split <;> rfl
@[simp] theorem State.hearFrame_rstnHigh (s : State) (bytes : List Byte) : (s.hearFrame bytes).rstnHigh = s.rstnHigh :=
  by unfold State.hearFrame; split <;> rfl
@[simp] theorem State.hearFrame_now (s : State) (bytes : List Byte) : (s.hearFrame bytes).now = s.now :=
  by unfold State.hearFrame; split <;> rfl
@[simp] theorem State.hearFrame_freeIndex (s : State) (bytes : List Byte) : (s.hearFrame bytes).freeIndex = s.freeIndex :=
  by unfold State.hearFrame; split <;> rfl
@[simp] theorem State.hearFrame_pending (s : State) (bytes : List Byte) : (s.hearFrame bytes).pending = s.pending :=
  by unfold State.hearFrame; split <;> rfl

/-! ### hearStartBit -/
@[simp] theorem State.hearStartBit_ssv (s : State) : (s.hearStartBit).ssv = s.ssv := by unfold State.hearStartBit; split <;> rfl
@[simp] theorem State.hearStartBit_sfu (s : State) : (s.hearStartBit).sfu = s.sfu := by unfold State.hearStartBit; split <;> rfl
@[simp] theorem State.hearStartBit_sdm (s : State) : (s.hearStartBit).sdm = s.sdm := by unfold State.hearStartBit; split <;> rfl
@[simp] theorem State.hearStartBit_asu (s : State) : (s.hearStartBit).asu = s.asu := by unfold State.hearStartBit; split <;> rfl
@[simp] theorem State.hearStartBit_flm (s : State) : (s.hearStartBit).flm = s.flm := by unfold State.hearStartBit; split <;> rfl
@[simp] theorem State.hearStartBit_cru (s : State) : (s.hearStartBit).cru = s.cru := by unfold State.hearStartBit; split <;> rfl
@[simp] theorem State.hearStartBit_diu (s : State) : (s.hearStartBit).diu = s.diu := by unfold State.hearStartBit; split <;> rfl
@[simp] theorem State.hearStartBit_idr (s : State) : (s.hearStartBit).idr = s.idr := by unfold State.hearStartBit; split <;> rfl
@[simp] theorem State.hearStartBit_cfl (s : State) : (s.hearStartBit).cfl = s.cfl := by unfold State.hearStartBit; split <;> rfl
@[simp] theorem State.hearStartBit_snu (s : State) : (s.hearStartBit).snu = s.snu := by unfold State.hearStartBit; split <;> rfl
@[simp] theorem State.hearStartBit_routed (s : State) : (s.hearStartBit).routed = s.routed :=
  by unfold State.hearStartBit; split <;> rfl
@[simp] theorem State.hearStartBit_supokHigh (s : State) : (s.hearStartBit).supokHigh = s.supokHigh :=
  by unfold State.hearStartBit; split <;> rfl
@[simp] theorem State.hearStartBit_rstnHigh (s : State) : (s.hearStartBit).rstnHigh = s.rstnHigh :=
  by unfold State.hearStartBit; split <;> rfl
@[simp] theorem State.hearStartBit_now (s : State) : (s.hearStartBit).now = s.now := by unfold State.hearStartBit; split <;> rfl
@[simp] theorem State.hearStartBit_freeIndex (s : State) : (s.hearStartBit).freeIndex = s.freeIndex :=
  by unfold State.hearStartBit; split <;> rfl
@[simp] theorem State.hearStartBit_pending (s : State) : (s.hearStartBit).pending = s.pending :=
  by unfold State.hearStartBit; split <;> rfl

/-! ### discardFrame -/
@[simp] theorem State.discardFrame_ssv (s : State) (bytes : List Byte) (ending : FrameEnding) :
    (s.discardFrame bytes ending).ssv = s.ssv := by unfold State.discardFrame; split <;> rfl
@[simp] theorem State.discardFrame_sfu (s : State) (bytes : List Byte) (ending : FrameEnding) :
    (s.discardFrame bytes ending).sfu = s.sfu := by unfold State.discardFrame; split <;> rfl
@[simp] theorem State.discardFrame_sdm (s : State) (bytes : List Byte) (ending : FrameEnding) :
    (s.discardFrame bytes ending).sdm = s.sdm := by unfold State.discardFrame; split <;> rfl
@[simp] theorem State.discardFrame_asu (s : State) (bytes : List Byte) (ending : FrameEnding) :
    (s.discardFrame bytes ending).asu = s.asu := by unfold State.discardFrame; split <;> rfl
@[simp] theorem State.discardFrame_flm (s : State) (bytes : List Byte) (ending : FrameEnding) :
    (s.discardFrame bytes ending).flm = s.flm := by unfold State.discardFrame; split <;> rfl
@[simp] theorem State.discardFrame_cru (s : State) (bytes : List Byte) (ending : FrameEnding) :
    (s.discardFrame bytes ending).cru = s.cru := by unfold State.discardFrame; split <;> rfl
@[simp] theorem State.discardFrame_diu (s : State) (bytes : List Byte) (ending : FrameEnding) :
    (s.discardFrame bytes ending).diu = s.diu := by unfold State.discardFrame; split <;> rfl
@[simp] theorem State.discardFrame_idr (s : State) (bytes : List Byte) (ending : FrameEnding) :
    (s.discardFrame bytes ending).idr = s.idr := by unfold State.discardFrame; split <;> rfl
@[simp] theorem State.discardFrame_cfl (s : State) (bytes : List Byte) (ending : FrameEnding) :
    (s.discardFrame bytes ending).cfl = s.cfl := by unfold State.discardFrame; split <;> rfl
@[simp] theorem State.discardFrame_snu (s : State) (bytes : List Byte) (ending : FrameEnding) :
    (s.discardFrame bytes ending).snu = s.snu := by unfold State.discardFrame; split <;> rfl
@[simp] theorem State.discardFrame_routed (s : State) (bytes : List Byte) (ending : FrameEnding) :
    (s.discardFrame bytes ending).routed = s.routed := by unfold State.discardFrame; split <;> rfl
@[simp] theorem State.discardFrame_supokHigh (s : State) (bytes : List Byte) (ending : FrameEnding) :
    (s.discardFrame bytes ending).supokHigh = s.supokHigh := by unfold State.discardFrame; split <;> rfl
@[simp] theorem State.discardFrame_rstnHigh (s : State) (bytes : List Byte) (ending : FrameEnding) :
    (s.discardFrame bytes ending).rstnHigh = s.rstnHigh := by unfold State.discardFrame; split <;> rfl
@[simp] theorem State.discardFrame_now (s : State) (bytes : List Byte) (ending : FrameEnding) :
    (s.discardFrame bytes ending).now = s.now := by unfold State.discardFrame; split <;> rfl
@[simp] theorem State.discardFrame_freeIndex (s : State) (bytes : List Byte) (ending : FrameEnding) :
    (s.discardFrame bytes ending).freeIndex = s.freeIndex := by unfold State.discardFrame; split <;> rfl
@[simp] theorem State.discardFrame_pending (s : State) (bytes : List Byte) (ending : FrameEnding) :
    (s.discardFrame bytes ending).pending = s.pending := by unfold State.discardFrame; split <;> rfl

/-! ### becomeReady -/
@[simp] theorem State.becomeReady_ssv (s : State) : (s.becomeReady).ssv = s.ssv := by unfold State.becomeReady; split <;> rfl
@[simp] theorem State.becomeReady_sfu (s : State) : (s.becomeReady).sfu = s.sfu := by unfold State.becomeReady; split <;> rfl
@[simp] theorem State.becomeReady_sdm (s : State) : (s.becomeReady).sdm = s.sdm := by unfold State.becomeReady; split <;> rfl
@[simp] theorem State.becomeReady_asu (s : State) : (s.becomeReady).asu = s.asu := by unfold State.becomeReady; split <;> rfl
@[simp] theorem State.becomeReady_flm (s : State) : (s.becomeReady).flm = s.flm := by unfold State.becomeReady; split <;> rfl
@[simp] theorem State.becomeReady_cru (s : State) : (s.becomeReady).cru = s.cru := by unfold State.becomeReady; split <;> rfl
@[simp] theorem State.becomeReady_diu (s : State) : (s.becomeReady).diu = s.diu := by unfold State.becomeReady; split <;> rfl
@[simp] theorem State.becomeReady_idr (s : State) : (s.becomeReady).idr = s.idr := by unfold State.becomeReady; split <;> rfl
@[simp] theorem State.becomeReady_cfl (s : State) : (s.becomeReady).cfl = s.cfl := by unfold State.becomeReady; split <;> rfl
@[simp] theorem State.becomeReady_snu (s : State) : (s.becomeReady).snu = s.snu := by unfold State.becomeReady; split <;> rfl
@[simp] theorem State.becomeReady_routed (s : State) : (s.becomeReady).routed = s.routed :=
  by unfold State.becomeReady; split <;> rfl
@[simp] theorem State.becomeReady_supokHigh (s : State) : (s.becomeReady).supokHigh = s.supokHigh :=
  by unfold State.becomeReady; split <;> rfl
@[simp] theorem State.becomeReady_rstnHigh (s : State) : (s.becomeReady).rstnHigh = s.rstnHigh :=
  by unfold State.becomeReady; split <;> rfl
@[simp] theorem State.becomeReady_now (s : State) : (s.becomeReady).now = s.now := by unfold State.becomeReady; split <;> rfl
@[simp] theorem State.becomeReady_freeIndex (s : State) : (s.becomeReady).freeIndex = s.freeIndex :=
  by unfold State.becomeReady; split <;> rfl
@[simp] theorem State.becomeReady_pending (s : State) : (s.becomeReady).pending = s.pending :=
  by unfold State.becomeReady; split <;> rfl

/-! ### clash -/
@[simp] theorem State.clash_ssv (s : State) : (s.clash).ssv = s.ssv := by unfold State.clash; dsimp only; split <;> simp
@[simp] theorem State.clash_sfu (s : State) : (s.clash).sfu = s.sfu := by unfold State.clash; dsimp only; split <;> simp
@[simp] theorem State.clash_sdm (s : State) : (s.clash).sdm = s.sdm := by unfold State.clash; dsimp only; split <;> simp
@[simp] theorem State.clash_asu (s : State) : (s.clash).asu = s.asu := by unfold State.clash; dsimp only; split <;> simp
@[simp] theorem State.clash_cru (s : State) : (s.clash).cru = s.cru := by unfold State.clash; dsimp only; split <;> simp
@[simp] theorem State.clash_cfl (s : State) : (s.clash).cfl = s.cfl := by unfold State.clash; dsimp only; split <;> simp
@[simp] theorem State.clash_snu (s : State) : (s.clash).snu = s.snu := by unfold State.clash; dsimp only; split <;> simp
@[simp] theorem State.clash_routed (s : State) : (s.clash).routed = s.routed :=
  by unfold State.clash; dsimp only; split <;> simp
@[simp] theorem State.clash_supokHigh (s : State) : (s.clash).supokHigh = s.supokHigh :=
  by unfold State.clash; dsimp only; split <;> simp
@[simp] theorem State.clash_rstnHigh (s : State) : (s.clash).rstnHigh = s.rstnHigh :=
  by unfold State.clash; dsimp only; split <;> simp
@[simp] theorem State.clash_now (s : State) : (s.clash).now = s.now := by unfold State.clash; dsimp only; split <;> simp
@[simp] theorem State.clash_freeIndex (s : State) : (s.clash).freeIndex = s.freeIndex :=
  by unfold State.clash; dsimp only; split <;> simp
@[simp] theorem State.clash_pending (s : State) : (s.clash).pending = s.pending :=
  by unfold State.clash; dsimp only; split <;> simp

/-! ### clashOver -/
@[simp] theorem State.clashOver_ssv (s : State) : (s.clashOver).ssv = s.ssv := rfl
@[simp] theorem State.clashOver_sfu (s : State) : (s.clashOver).sfu = s.sfu := rfl
@[simp] theorem State.clashOver_sdm (s : State) : (s.clashOver).sdm = s.sdm := rfl
@[simp] theorem State.clashOver_asu (s : State) : (s.clashOver).asu = s.asu := rfl
@[simp] theorem State.clashOver_cru (s : State) : (s.clashOver).cru = s.cru := rfl
@[simp] theorem State.clashOver_cfl (s : State) : (s.clashOver).cfl = s.cfl := rfl
@[simp] theorem State.clashOver_snu (s : State) : (s.clashOver).snu = s.snu := rfl
@[simp] theorem State.clashOver_routed (s : State) : (s.clashOver).routed = s.routed := rfl
@[simp] theorem State.clashOver_supokHigh (s : State) : (s.clashOver).supokHigh = s.supokHigh := rfl
@[simp] theorem State.clashOver_rstnHigh (s : State) : (s.clashOver).rstnHigh = s.rstnHigh := rfl
@[simp] theorem State.clashOver_now (s : State) : (s.clashOver).now = s.now := rfl
@[simp] theorem State.clashOver_freeIndex (s : State) : (s.clashOver).freeIndex = s.freeIndex := rfl
@[simp] theorem State.clashOver_pending (s : State) : (s.clashOver).pending = s.pending := rfl


end Sys2Proof.Machine
end

