-- ==== Sys2Proof/Laws/Blocks.lean ====
section
/-! SUPPORT. The fields an operation on speed or aspects leaves as they are. -/

namespace Sys2Proof.Machine

open Sys2Proof

/-! ### toneIssueOpt -/
@[simp] theorem State.toneIssueOpt_lif (s : State) (p : Option Pattern) : (s.toneIssueOpt p).lif = s.lif := by cases p <;> rfl
@[simp] theorem State.toneIssueOpt_ssv (s : State) (p : Option Pattern) : (s.toneIssueOpt p).ssv = s.ssv := by cases p <;> rfl
@[simp] theorem State.toneIssueOpt_sfu (s : State) (p : Option Pattern) : (s.toneIssueOpt p).sfu = s.sfu := by cases p <;> rfl
@[simp] theorem State.toneIssueOpt_sdm (s : State) (p : Option Pattern) : (s.toneIssueOpt p).sdm = s.sdm := by cases p <;> rfl
@[simp] theorem State.toneIssueOpt_asu (s : State) (p : Option Pattern) : (s.toneIssueOpt p).asu = s.asu := by cases p <;> rfl
@[simp] theorem State.toneIssueOpt_flm (s : State) (p : Option Pattern) : (s.toneIssueOpt p).flm = s.flm := by cases p <;> rfl
@[simp] theorem State.toneIssueOpt_cru (s : State) (p : Option Pattern) : (s.toneIssueOpt p).cru = s.cru := by cases p <;> rfl
@[simp] theorem State.toneIssueOpt_diu (s : State) (p : Option Pattern) : (s.toneIssueOpt p).diu = s.diu := by cases p <;> rfl
@[simp] theorem State.toneIssueOpt_cfl (s : State) (p : Option Pattern) : (s.toneIssueOpt p).cfl = s.cfl := by cases p <;> rfl
@[simp] theorem State.toneIssueOpt_snu (s : State) (p : Option Pattern) : (s.toneIssueOpt p).snu = s.snu := by cases p <;> rfl
@[simp] theorem State.toneIssueOpt_routed (s : State) (p : Option Pattern) : (s.toneIssueOpt p).routed = s.routed :=
  by cases p <;> rfl
@[simp] theorem State.toneIssueOpt_supokHigh (s : State) (p : Option Pattern) : (s.toneIssueOpt p).supokHigh = s.supokHigh :=
  by cases p <;> rfl
@[simp] theorem State.toneIssueOpt_rstnHigh (s : State) (p : Option Pattern) : (s.toneIssueOpt p).rstnHigh = s.rstnHigh :=
  by cases p <;> rfl
@[simp] theorem State.toneIssueOpt_now (s : State) (p : Option Pattern) : (s.toneIssueOpt p).now = s.now := by cases p <;> rfl
@[simp] theorem State.toneIssueOpt_freeIndex (s : State) (p : Option Pattern) : (s.toneIssueOpt p).freeIndex = s.freeIndex :=
  by cases p <;> rfl
@[simp] theorem State.toneIssueOpt_pending (s : State) (p : Option Pattern) : (s.toneIssueOpt p).pending = s.pending :=
  by cases p <;> rfl

/-! ### evaluateOverspeed -/
@[simp] theorem State.evaluateOverspeed_lif (s : State) : (s.evaluateOverspeed).lif = s.lif := by simp [State.evaluateOverspeed]
@[simp] theorem State.evaluateOverspeed_ssv (s : State) : (s.evaluateOverspeed).ssv = s.ssv := by simp [State.evaluateOverspeed]
@[simp] theorem State.evaluateOverspeed_sfu (s : State) : (s.evaluateOverspeed).sfu = s.sfu := by simp [State.evaluateOverspeed]
@[simp] theorem State.evaluateOverspeed_asu (s : State) : (s.evaluateOverspeed).asu = s.asu := by simp [State.evaluateOverspeed]
@[simp] theorem State.evaluateOverspeed_flm (s : State) : (s.evaluateOverspeed).flm = s.flm := by simp [State.evaluateOverspeed]
@[simp] theorem State.evaluateOverspeed_cru (s : State) : (s.evaluateOverspeed).cru = s.cru := by simp [State.evaluateOverspeed]
@[simp] theorem State.evaluateOverspeed_diu (s : State) : (s.evaluateOverspeed).diu = s.diu := by simp [State.evaluateOverspeed]
@[simp] theorem State.evaluateOverspeed_cfl (s : State) : (s.evaluateOverspeed).cfl = s.cfl := by simp [State.evaluateOverspeed]
@[simp] theorem State.evaluateOverspeed_snu (s : State) : (s.evaluateOverspeed).snu = s.snu := by simp [State.evaluateOverspeed]
@[simp] theorem State.evaluateOverspeed_routed (s : State) : (s.evaluateOverspeed).routed = s.routed :=
  by simp [State.evaluateOverspeed]
@[simp] theorem State.evaluateOverspeed_supokHigh (s : State) : (s.evaluateOverspeed).supokHigh = s.supokHigh :=
  by simp [State.evaluateOverspeed]
@[simp] theorem State.evaluateOverspeed_rstnHigh (s : State) : (s.evaluateOverspeed).rstnHigh = s.rstnHigh :=
  by simp [State.evaluateOverspeed]
@[simp] theorem State.evaluateOverspeed_now (s : State) : (s.evaluateOverspeed).now = s.now := by simp [State.evaluateOverspeed]
@[simp] theorem State.evaluateOverspeed_freeIndex (s : State) : (s.evaluateOverspeed).freeIndex = s.freeIndex :=
  by simp [State.evaluateOverspeed]
@[simp] theorem State.evaluateOverspeed_pending (s : State) : (s.evaluateOverspeed).pending = s.pending :=
  by simp [State.evaluateOverspeed]

/-! ### sdmHandOff -/
@[simp] theorem State.sdmHandOff_lif (s : State) (fused : Option Nat) : (s.sdmHandOff fused).lif = s.lif :=
  by simp [State.sdmHandOff]
@[simp] theorem State.sdmHandOff_ssv (s : State) (fused : Option Nat) : (s.sdmHandOff fused).ssv = s.ssv :=
  by simp [State.sdmHandOff]
@[simp] theorem State.sdmHandOff_sfu (s : State) (fused : Option Nat) : (s.sdmHandOff fused).sfu = s.sfu :=
  by simp [State.sdmHandOff]
@[simp] theorem State.sdmHandOff_asu (s : State) (fused : Option Nat) : (s.sdmHandOff fused).asu = s.asu :=
  by simp [State.sdmHandOff]
@[simp] theorem State.sdmHandOff_flm (s : State) (fused : Option Nat) : (s.sdmHandOff fused).flm = s.flm :=
  by simp [State.sdmHandOff]
@[simp] theorem State.sdmHandOff_cru (s : State) (fused : Option Nat) : (s.sdmHandOff fused).cru = s.cru :=
  by simp [State.sdmHandOff]
@[simp] theorem State.sdmHandOff_diu (s : State) (fused : Option Nat) : (s.sdmHandOff fused).diu = s.diu :=
  by simp [State.sdmHandOff]
@[simp] theorem State.sdmHandOff_cfl (s : State) (fused : Option Nat) : (s.sdmHandOff fused).cfl = s.cfl :=
  by simp [State.sdmHandOff]
@[simp] theorem State.sdmHandOff_snu (s : State) (fused : Option Nat) : (s.sdmHandOff fused).snu = s.snu :=
  by simp [State.sdmHandOff]
@[simp] theorem State.sdmHandOff_routed (s : State) (fused : Option Nat) : (s.sdmHandOff fused).routed = s.routed :=
  by simp [State.sdmHandOff]
@[simp] theorem State.sdmHandOff_supokHigh (s : State) (fused : Option Nat) : (s.sdmHandOff fused).supokHigh = s.supokHigh :=
  by simp [State.sdmHandOff]
@[simp] theorem State.sdmHandOff_rstnHigh (s : State) (fused : Option Nat) : (s.sdmHandOff fused).rstnHigh = s.rstnHigh :=
  by simp [State.sdmHandOff]
@[simp] theorem State.sdmHandOff_now (s : State) (fused : Option Nat) : (s.sdmHandOff fused).now = s.now :=
  by simp [State.sdmHandOff]
@[simp] theorem State.sdmHandOff_freeIndex (s : State) (fused : Option Nat) : (s.sdmHandOff fused).freeIndex = s.freeIndex :=
  by simp [State.sdmHandOff]
@[simp] theorem State.sdmHandOff_pending (s : State) (fused : Option Nat) : (s.sdmHandOff fused).pending = s.pending :=
  by simp [State.sdmHandOff]

/-! ### sdmLimits -/
@[simp] theorem State.sdmLimits_lif (s : State) (limits : Limits) : (s.sdmLimits limits).lif = s.lif :=
  by simp [State.sdmLimits]
@[simp] theorem State.sdmLimits_ssv (s : State) (limits : Limits) : (s.sdmLimits limits).ssv = s.ssv :=
  by simp [State.sdmLimits]
@[simp] theorem State.sdmLimits_sfu (s : State) (limits : Limits) : (s.sdmLimits limits).sfu = s.sfu :=
  by simp [State.sdmLimits]
@[simp] theorem State.sdmLimits_asu (s : State) (limits : Limits) : (s.sdmLimits limits).asu = s.asu :=
  by simp [State.sdmLimits]
@[simp] theorem State.sdmLimits_flm (s : State) (limits : Limits) : (s.sdmLimits limits).flm = s.flm :=
  by simp [State.sdmLimits]
@[simp] theorem State.sdmLimits_cru (s : State) (limits : Limits) : (s.sdmLimits limits).cru = s.cru :=
  by simp [State.sdmLimits]
@[simp] theorem State.sdmLimits_diu (s : State) (limits : Limits) : (s.sdmLimits limits).diu = s.diu :=
  by simp [State.sdmLimits]
@[simp] theorem State.sdmLimits_cfl (s : State) (limits : Limits) : (s.sdmLimits limits).cfl = s.cfl :=
  by simp [State.sdmLimits]
@[simp] theorem State.sdmLimits_snu (s : State) (limits : Limits) : (s.sdmLimits limits).snu = s.snu :=
  by simp [State.sdmLimits]
@[simp] theorem State.sdmLimits_routed (s : State) (limits : Limits) : (s.sdmLimits limits).routed = s.routed :=
  by simp [State.sdmLimits]
@[simp] theorem State.sdmLimits_supokHigh (s : State) (limits : Limits) : (s.sdmLimits limits).supokHigh = s.supokHigh :=
  by simp [State.sdmLimits]
@[simp] theorem State.sdmLimits_rstnHigh (s : State) (limits : Limits) : (s.sdmLimits limits).rstnHigh = s.rstnHigh :=
  by simp [State.sdmLimits]
@[simp] theorem State.sdmLimits_now (s : State) (limits : Limits) : (s.sdmLimits limits).now = s.now :=
  by simp [State.sdmLimits]
@[simp] theorem State.sdmLimits_freeIndex (s : State) (limits : Limits) : (s.sdmLimits limits).freeIndex = s.freeIndex :=
  by simp [State.sdmLimits]
@[simp] theorem State.sdmLimits_pending (s : State) (limits : Limits) : (s.sdmLimits limits).pending = s.pending :=
  by simp [State.sdmLimits]

/-! ### sfuCompute -/
@[simp] theorem State.sfuCompute_lif (s : State) : (s.sfuCompute).lif = s.lif := by simp [State.sfuCompute]
@[simp] theorem State.sfuCompute_ssv (s : State) : (s.sfuCompute).ssv = s.ssv := by simp [State.sfuCompute]
@[simp] theorem State.sfuCompute_asu (s : State) : (s.sfuCompute).asu = s.asu := by simp [State.sfuCompute]
@[simp] theorem State.sfuCompute_cru (s : State) : (s.sfuCompute).cru = s.cru := by simp [State.sfuCompute]
@[simp] theorem State.sfuCompute_cfl (s : State) : (s.sfuCompute).cfl = s.cfl := by simp [State.sfuCompute]
@[simp] theorem State.sfuCompute_snu (s : State) : (s.sfuCompute).snu = s.snu := by simp [State.sfuCompute]
@[simp] theorem State.sfuCompute_routed (s : State) : (s.sfuCompute).routed = s.routed := by simp [State.sfuCompute]
@[simp] theorem State.sfuCompute_supokHigh (s : State) : (s.sfuCompute).supokHigh = s.supokHigh := by simp [State.sfuCompute]
@[simp] theorem State.sfuCompute_rstnHigh (s : State) : (s.sfuCompute).rstnHigh = s.rstnHigh := by simp [State.sfuCompute]
@[simp] theorem State.sfuCompute_now (s : State) : (s.sfuCompute).now = s.now := by simp [State.sfuCompute]
@[simp] theorem State.sfuCompute_freeIndex (s : State) : (s.sfuCompute).freeIndex = s.freeIndex := by simp [State.sfuCompute]
@[simp] theorem State.sfuCompute_pending (s : State) : (s.sfuCompute).pending = s.pending := by simp [State.sfuCompute]

/-! ### sfuPublished -/
@[simp] theorem State.sfuPublished_lif (s : State) (k : Fin 4) (after : EntryState) (payload : Option (List Byte)) :
    (s.sfuPublished k after payload).lif = s.lif := by simp [State.sfuPublished]
@[simp] theorem State.sfuPublished_ssv (s : State) (k : Fin 4) (after : EntryState) (payload : Option (List Byte)) :
    (s.sfuPublished k after payload).ssv = s.ssv := by simp [State.sfuPublished]
@[simp] theorem State.sfuPublished_asu (s : State) (k : Fin 4) (after : EntryState) (payload : Option (List Byte)) :
    (s.sfuPublished k after payload).asu = s.asu := by simp [State.sfuPublished]
@[simp] theorem State.sfuPublished_cru (s : State) (k : Fin 4) (after : EntryState) (payload : Option (List Byte)) :
    (s.sfuPublished k after payload).cru = s.cru := by simp [State.sfuPublished]
@[simp] theorem State.sfuPublished_cfl (s : State) (k : Fin 4) (after : EntryState) (payload : Option (List Byte)) :
    (s.sfuPublished k after payload).cfl = s.cfl := by simp [State.sfuPublished]
@[simp] theorem State.sfuPublished_snu (s : State) (k : Fin 4) (after : EntryState) (payload : Option (List Byte)) :
    (s.sfuPublished k after payload).snu = s.snu := by simp [State.sfuPublished]
@[simp] theorem State.sfuPublished_routed (s : State) (k : Fin 4) (after : EntryState) (payload : Option (List Byte)) :
    (s.sfuPublished k after payload).routed = s.routed := by simp [State.sfuPublished]
@[simp] theorem State.sfuPublished_supokHigh (s : State) (k : Fin 4) (after : EntryState) (payload : Option (List Byte)) :
    (s.sfuPublished k after payload).supokHigh = s.supokHigh := by simp [State.sfuPublished]
@[simp] theorem State.sfuPublished_rstnHigh (s : State) (k : Fin 4) (after : EntryState) (payload : Option (List Byte)) :
    (s.sfuPublished k after payload).rstnHigh = s.rstnHigh := by simp [State.sfuPublished]
@[simp] theorem State.sfuPublished_now (s : State) (k : Fin 4) (after : EntryState) (payload : Option (List Byte)) :
    (s.sfuPublished k after payload).now = s.now := by simp [State.sfuPublished]
@[simp] theorem State.sfuPublished_freeIndex (s : State) (k : Fin 4) (after : EntryState) (payload : Option (List Byte)) :
    (s.sfuPublished k after payload).freeIndex = s.freeIndex := by simp [State.sfuPublished]
@[simp] theorem State.sfuPublished_pending (s : State) (k : Fin 4) (after : EntryState) (payload : Option (List Byte)) :
    (s.sfuPublished k after payload).pending = s.pending := by simp [State.sfuPublished]

/-! ### sfuGrace -/
@[simp] theorem State.sfuGrace_lif (s : State) : (s.sfuGrace).lif = s.lif :=
  by unfold State.sfuGrace; dsimp only; split <;> simp
@[simp] theorem State.sfuGrace_ssv (s : State) : (s.sfuGrace).ssv = s.ssv :=
  by unfold State.sfuGrace; dsimp only; split <;> simp
@[simp] theorem State.sfuGrace_sdm (s : State) : (s.sfuGrace).sdm = s.sdm :=
  by unfold State.sfuGrace; dsimp only; split <;> simp
@[simp] theorem State.sfuGrace_asu (s : State) : (s.sfuGrace).asu = s.asu :=
  by unfold State.sfuGrace; dsimp only; split <;> simp
@[simp] theorem State.sfuGrace_cru (s : State) : (s.sfuGrace).cru = s.cru :=
  by unfold State.sfuGrace; dsimp only; split <;> simp
@[simp] theorem State.sfuGrace_cfl (s : State) : (s.sfuGrace).cfl = s.cfl :=
  by unfold State.sfuGrace; dsimp only; split <;> simp
@[simp] theorem State.sfuGrace_snu (s : State) : (s.sfuGrace).snu = s.snu :=
  by unfold State.sfuGrace; dsimp only; split <;> simp
@[simp] theorem State.sfuGrace_routed (s : State) : (s.sfuGrace).routed = s.routed :=
  by unfold State.sfuGrace; dsimp only; split <;> simp
@[simp] theorem State.sfuGrace_supokHigh (s : State) : (s.sfuGrace).supokHigh = s.supokHigh :=
  by unfold State.sfuGrace; dsimp only; split <;> simp
@[simp] theorem State.sfuGrace_rstnHigh (s : State) : (s.sfuGrace).rstnHigh = s.rstnHigh :=
  by unfold State.sfuGrace; dsimp only; split <;> simp
@[simp] theorem State.sfuGrace_now (s : State) : (s.sfuGrace).now = s.now :=
  by unfold State.sfuGrace; dsimp only; split <;> simp
@[simp] theorem State.sfuGrace_freeIndex (s : State) : (s.sfuGrace).freeIndex = s.freeIndex :=
  by unfold State.sfuGrace; dsimp only; split <;> simp
@[simp] theorem State.sfuGrace_pending (s : State) : (s.sfuGrace).pending = s.pending :=
  by unfold State.sfuGrace; dsimp only; split <;> simp

/-! ### asuIndicate -/
@[simp] theorem State.asuIndicate_lif (s : State) : (s.asuIndicate).lif = s.lif := rfl
@[simp] theorem State.asuIndicate_ssv (s : State) : (s.asuIndicate).ssv = s.ssv := rfl
@[simp] theorem State.asuIndicate_sfu (s : State) : (s.asuIndicate).sfu = s.sfu := rfl
@[simp] theorem State.asuIndicate_sdm (s : State) : (s.asuIndicate).sdm = s.sdm := rfl
@[simp] theorem State.asuIndicate_asu (s : State) : (s.asuIndicate).asu = s.asu := rfl
@[simp] theorem State.asuIndicate_flm (s : State) : (s.asuIndicate).flm = s.flm := rfl
@[simp] theorem State.asuIndicate_cru (s : State) : (s.asuIndicate).cru = s.cru := rfl
@[simp] theorem State.asuIndicate_diu (s : State) : (s.asuIndicate).diu = s.diu := rfl
@[simp] theorem State.asuIndicate_cfl (s : State) : (s.asuIndicate).cfl = s.cfl := rfl
@[simp] theorem State.asuIndicate_snu (s : State) : (s.asuIndicate).snu = s.snu := rfl
@[simp] theorem State.asuIndicate_routed (s : State) : (s.asuIndicate).routed = s.routed := rfl
@[simp] theorem State.asuIndicate_supokHigh (s : State) : (s.asuIndicate).supokHigh = s.supokHigh := rfl
@[simp] theorem State.asuIndicate_rstnHigh (s : State) : (s.asuIndicate).rstnHigh = s.rstnHigh := rfl
@[simp] theorem State.asuIndicate_now (s : State) : (s.asuIndicate).now = s.now := rfl
@[simp] theorem State.asuIndicate_freeIndex (s : State) : (s.asuIndicate).freeIndex = s.freeIndex := rfl
@[simp] theorem State.asuIndicate_pending (s : State) : (s.asuIndicate).pending = s.pending := rfl

/-! ### reselect -/
@[simp] theorem State.reselect_lif (s : State) : (s.reselect).lif = s.lif :=
  by unfold State.reselect; dsimp only; split <;> simp
@[simp] theorem State.reselect_ssv (s : State) : (s.reselect).ssv = s.ssv :=
  by unfold State.reselect; dsimp only; split <;> simp
@[simp] theorem State.reselect_sfu (s : State) : (s.reselect).sfu = s.sfu :=
  by unfold State.reselect; dsimp only; split <;> simp
@[simp] theorem State.reselect_cru (s : State) : (s.reselect).cru = s.cru :=
  by unfold State.reselect; dsimp only; split <;> simp
@[simp] theorem State.reselect_cfl (s : State) : (s.reselect).cfl = s.cfl :=
  by unfold State.reselect; dsimp only; split <;> simp
@[simp] theorem State.reselect_snu (s : State) : (s.reselect).snu = s.snu :=
  by unfold State.reselect; dsimp only; split <;> simp
@[simp] theorem State.reselect_routed (s : State) : (s.reselect).routed = s.routed :=
  by unfold State.reselect; dsimp only; split <;> simp
@[simp] theorem State.reselect_supokHigh (s : State) : (s.reselect).supokHigh = s.supokHigh :=
  by unfold State.reselect; dsimp only; split <;> simp
@[simp] theorem State.reselect_rstnHigh (s : State) : (s.reselect).rstnHigh = s.rstnHigh :=
  by unfold State.reselect; dsimp only; split <;> simp
@[simp] theorem State.reselect_now (s : State) : (s.reselect).now = s.now :=
  by unfold State.reselect; dsimp only; split <;> simp
@[simp] theorem State.reselect_freeIndex (s : State) : (s.reselect).freeIndex = s.freeIndex :=
  by unfold State.reselect; dsimp only; split <;> simp
@[simp] theorem State.reselect_pending (s : State) : (s.reselect).pending = s.pending :=
  by unfold State.reselect; dsimp only; split <;> simp

/-! ### asuPublished -/
@[simp] theorem State.asuPublished_lif (s : State) (secondary : Bool) (station : Nat) (after : EntryState) (payload : Option (List Byte)) :
    (s.asuPublished secondary station after payload).lif = s.lif := by unfold State.asuPublished; split <;> simp
@[simp] theorem State.asuPublished_ssv (s : State) (secondary : Bool) (station : Nat) (after : EntryState) (payload : Option (List Byte)) :
    (s.asuPublished secondary station after payload).ssv = s.ssv := by unfold State.asuPublished; split <;> simp
@[simp] theorem State.asuPublished_sfu (s : State) (secondary : Bool) (station : Nat) (after : EntryState) (payload : Option (List Byte)) :
    (s.asuPublished secondary station after payload).sfu = s.sfu := by unfold State.asuPublished; split <;> simp
@[simp] theorem State.asuPublished_cru (s : State) (secondary : Bool) (station : Nat) (after : EntryState) (payload : Option (List Byte)) :
    (s.asuPublished secondary station after payload).cru = s.cru := by unfold State.asuPublished; split <;> simp
@[simp] theorem State.asuPublished_cfl (s : State) (secondary : Bool) (station : Nat) (after : EntryState) (payload : Option (List Byte)) :
    (s.asuPublished secondary station after payload).cfl = s.cfl := by unfold State.asuPublished; split <;> simp
@[simp] theorem State.asuPublished_snu (s : State) (secondary : Bool) (station : Nat) (after : EntryState) (payload : Option (List Byte)) :
    (s.asuPublished secondary station after payload).snu = s.snu := by unfold State.asuPublished; split <;> simp
@[simp] theorem State.asuPublished_routed (s : State) (secondary : Bool) (station : Nat) (after : EntryState) (payload : Option (List Byte)) :
    (s.asuPublished secondary station after payload).routed = s.routed := by unfold State.asuPublished; split <;> simp
@[simp] theorem State.asuPublished_supokHigh (s : State) (secondary : Bool) (station : Nat) (after : EntryState) (payload : Option (List Byte)) :
    (s.asuPublished secondary station after payload).supokHigh = s.supokHigh := by unfold State.asuPublished; split <;> simp
@[simp] theorem State.asuPublished_rstnHigh (s : State) (secondary : Bool) (station : Nat) (after : EntryState) (payload : Option (List Byte)) :
    (s.asuPublished secondary station after payload).rstnHigh = s.rstnHigh := by unfold State.asuPublished; split <;> simp
@[simp] theorem State.asuPublished_now (s : State) (secondary : Bool) (station : Nat) (after : EntryState) (payload : Option (List Byte)) :
    (s.asuPublished secondary station after payload).now = s.now := by unfold State.asuPublished; split <;> simp
@[simp] theorem State.asuPublished_freeIndex (s : State) (secondary : Bool) (station : Nat) (after : EntryState) (payload : Option (List Byte)) :
    (s.asuPublished secondary station after payload).freeIndex = s.freeIndex := by unfold State.asuPublished; split <;> simp
@[simp] theorem State.asuPublished_pending (s : State) (secondary : Bool) (station : Nat) (after : EntryState) (payload : Option (List Byte)) :
    (s.asuPublished secondary station after payload).pending = s.pending := by unfold State.asuPublished; split <;> simp

/-! ### asuGrace -/
@[simp] theorem State.asuGrace_lif (s : State) : (s.asuGrace).lif = s.lif := by simp [State.asuGrace]
@[simp] theorem State.asuGrace_ssv (s : State) : (s.asuGrace).ssv = s.ssv := by simp [State.asuGrace]
@[simp] theorem State.asuGrace_sfu (s : State) : (s.asuGrace).sfu = s.sfu := by simp [State.asuGrace]
@[simp] theorem State.asuGrace_cru (s : State) : (s.asuGrace).cru = s.cru := by simp [State.asuGrace]
@[simp] theorem State.asuGrace_cfl (s : State) : (s.asuGrace).cfl = s.cfl := by simp [State.asuGrace]
@[simp] theorem State.asuGrace_snu (s : State) : (s.asuGrace).snu = s.snu := by simp [State.asuGrace]
@[simp] theorem State.asuGrace_routed (s : State) : (s.asuGrace).routed = s.routed := by simp [State.asuGrace]
@[simp] theorem State.asuGrace_supokHigh (s : State) : (s.asuGrace).supokHigh = s.supokHigh := by simp [State.asuGrace]
@[simp] theorem State.asuGrace_rstnHigh (s : State) : (s.asuGrace).rstnHigh = s.rstnHigh := by simp [State.asuGrace]
@[simp] theorem State.asuGrace_now (s : State) : (s.asuGrace).now = s.now := by simp [State.asuGrace]
@[simp] theorem State.asuGrace_freeIndex (s : State) : (s.asuGrace).freeIndex = s.freeIndex := by simp [State.asuGrace]
@[simp] theorem State.asuGrace_pending (s : State) : (s.asuGrace).pending = s.pending := by simp [State.asuGrace]

/-! ### disagreementExpiry -/
@[simp] theorem State.disagreementExpiry_lif (s : State) : (s.disagreementExpiry).lif = s.lif := rfl
@[simp] theorem State.disagreementExpiry_ssv (s : State) : (s.disagreementExpiry).ssv = s.ssv := rfl
@[simp] theorem State.disagreementExpiry_sfu (s : State) : (s.disagreementExpiry).sfu = s.sfu := rfl
@[simp] theorem State.disagreementExpiry_sdm (s : State) : (s.disagreementExpiry).sdm = s.sdm := rfl
@[simp] theorem State.disagreementExpiry_cru (s : State) : (s.disagreementExpiry).cru = s.cru := rfl
@[simp] theorem State.disagreementExpiry_cfl (s : State) : (s.disagreementExpiry).cfl = s.cfl := rfl
@[simp] theorem State.disagreementExpiry_snu (s : State) : (s.disagreementExpiry).snu = s.snu := rfl
@[simp] theorem State.disagreementExpiry_routed (s : State) : (s.disagreementExpiry).routed = s.routed := rfl
@[simp] theorem State.disagreementExpiry_supokHigh (s : State) : (s.disagreementExpiry).supokHigh = s.supokHigh := rfl
@[simp] theorem State.disagreementExpiry_rstnHigh (s : State) : (s.disagreementExpiry).rstnHigh = s.rstnHigh := rfl
@[simp] theorem State.disagreementExpiry_now (s : State) : (s.disagreementExpiry).now = s.now := rfl
@[simp] theorem State.disagreementExpiry_freeIndex (s : State) : (s.disagreementExpiry).freeIndex = s.freeIndex := rfl
@[simp] theorem State.disagreementExpiry_pending (s : State) : (s.disagreementExpiry).pending = s.pending := rfl

/-! ### closeRecord -/
@[simp] theorem State.closeRecord_lif (s : State) : (s.closeRecord).lif = s.lif := rfl
@[simp] theorem State.closeRecord_ssv (s : State) : (s.closeRecord).ssv = s.ssv := rfl
@[simp] theorem State.closeRecord_sfu (s : State) : (s.closeRecord).sfu = s.sfu := rfl
@[simp] theorem State.closeRecord_sdm (s : State) : (s.closeRecord).sdm = s.sdm := rfl
@[simp] theorem State.closeRecord_flm (s : State) : (s.closeRecord).flm = s.flm := rfl
@[simp] theorem State.closeRecord_cru (s : State) : (s.closeRecord).cru = s.cru := rfl
@[simp] theorem State.closeRecord_diu (s : State) : (s.closeRecord).diu = s.diu := rfl
@[simp] theorem State.closeRecord_cfl (s : State) : (s.closeRecord).cfl = s.cfl := rfl
@[simp] theorem State.closeRecord_snu (s : State) : (s.closeRecord).snu = s.snu := rfl
@[simp] theorem State.closeRecord_routed (s : State) : (s.closeRecord).routed = s.routed := rfl
@[simp] theorem State.closeRecord_supokHigh (s : State) : (s.closeRecord).supokHigh = s.supokHigh := rfl
@[simp] theorem State.closeRecord_rstnHigh (s : State) : (s.closeRecord).rstnHigh = s.rstnHigh := rfl
@[simp] theorem State.closeRecord_now (s : State) : (s.closeRecord).now = s.now := rfl
@[simp] theorem State.closeRecord_freeIndex (s : State) : (s.closeRecord).freeIndex = s.freeIndex := rfl
@[simp] theorem State.closeRecord_pending (s : State) : (s.closeRecord).pending = s.pending := rfl

/-! ### announceOverdue -/
@[simp] theorem State.announceOverdue_ssv (s : State) (r : PendingAck) (time : Nat) : (s.announceOverdue r time).ssv = s.ssv :=
  by simp [State.announceOverdue]
@[simp] theorem State.announceOverdue_sfu (s : State) (r : PendingAck) (time : Nat) : (s.announceOverdue r time).sfu = s.sfu :=
  by simp [State.announceOverdue]
@[simp] theorem State.announceOverdue_sdm (s : State) (r : PendingAck) (time : Nat) : (s.announceOverdue r time).sdm = s.sdm :=
  by simp [State.announceOverdue]
@[simp] theorem State.announceOverdue_cru (s : State) (r : PendingAck) (time : Nat) : (s.announceOverdue r time).cru = s.cru :=
  by simp [State.announceOverdue]
@[simp] theorem State.announceOverdue_cfl (s : State) (r : PendingAck) (time : Nat) : (s.announceOverdue r time).cfl = s.cfl :=
  by simp [State.announceOverdue]
@[simp] theorem State.announceOverdue_routed (s : State) (r : PendingAck) (time : Nat) :
    (s.announceOverdue r time).routed = s.routed := by simp [State.announceOverdue]
@[simp] theorem State.announceOverdue_supokHigh (s : State) (r : PendingAck) (time : Nat) :
    (s.announceOverdue r time).supokHigh = s.supokHigh := by simp [State.announceOverdue]
@[simp] theorem State.announceOverdue_rstnHigh (s : State) (r : PendingAck) (time : Nat) :
    (s.announceOverdue r time).rstnHigh = s.rstnHigh := by simp [State.announceOverdue]
@[simp] theorem State.announceOverdue_now (s : State) (r : PendingAck) (time : Nat) : (s.announceOverdue r time).now = s.now :=
  by simp [State.announceOverdue]
@[simp] theorem State.announceOverdue_freeIndex (s : State) (r : PendingAck) (time : Nat) :
    (s.announceOverdue r time).freeIndex = s.freeIndex := by simp [State.announceOverdue]
@[simp] theorem State.announceOverdue_pending (s : State) (r : PendingAck) (time : Nat) :
    (s.announceOverdue r time).pending = s.pending := by simp [State.announceOverdue]

/-! ### acknowledgementExpiry -/
@[simp] theorem State.acknowledgementExpiry_ssv (s : State) : (s.acknowledgementExpiry).ssv = s.ssv := by
  unfold State.acknowledgementExpiry
  split
  · rfl
  · dsimp only
    split <;> simp
@[simp] theorem State.acknowledgementExpiry_sfu (s : State) : (s.acknowledgementExpiry).sfu = s.sfu := by
  unfold State.acknowledgementExpiry
  split
  · rfl
  · dsimp only
    split <;> simp
@[simp] theorem State.acknowledgementExpiry_sdm (s : State) : (s.acknowledgementExpiry).sdm = s.sdm := by
  unfold State.acknowledgementExpiry
  split
  · rfl
  · dsimp only
    split <;> simp
@[simp] theorem State.acknowledgementExpiry_cru (s : State) : (s.acknowledgementExpiry).cru = s.cru := by
  unfold State.acknowledgementExpiry
  split
  · rfl
  · dsimp only
    split <;> simp
@[simp] theorem State.acknowledgementExpiry_cfl (s : State) : (s.acknowledgementExpiry).cfl = s.cfl := by
  unfold State.acknowledgementExpiry
  split
  · rfl
  · dsimp only
    split <;> simp
@[simp] theorem State.acknowledgementExpiry_routed (s : State) : (s.acknowledgementExpiry).routed = s.routed := by
  unfold State.acknowledgementExpiry
  split
  · rfl
  · dsimp only
    split <;> simp
@[simp] theorem State.acknowledgementExpiry_supokHigh (s : State) : (s.acknowledgementExpiry).supokHigh = s.supokHigh := by
  unfold State.acknowledgementExpiry
  split
  · rfl
  · dsimp only
    split <;> simp
@[simp] theorem State.acknowledgementExpiry_rstnHigh (s : State) : (s.acknowledgementExpiry).rstnHigh = s.rstnHigh := by
  unfold State.acknowledgementExpiry
  split
  · rfl
  · dsimp only
    split <;> simp
@[simp] theorem State.acknowledgementExpiry_now (s : State) : (s.acknowledgementExpiry).now = s.now := by
  unfold State.acknowledgementExpiry
  split
  · rfl
  · dsimp only
    split <;> simp
@[simp] theorem State.acknowledgementExpiry_freeIndex (s : State) : (s.acknowledgementExpiry).freeIndex = s.freeIndex := by
  unfold State.acknowledgementExpiry
  split
  · rfl
  · dsimp only
    split <;> simp
@[simp] theorem State.acknowledgementExpiry_pending (s : State) : (s.acknowledgementExpiry).pending = s.pending := by
  unfold State.acknowledgementExpiry
  split
  · rfl
  · dsimp only
    split <;> simp

/-! ### repeatExpiry -/
@[simp] theorem State.repeatExpiry_ssv (s : State) : (s.repeatExpiry).ssv = s.ssv := by
  unfold State.repeatExpiry
  dsimp only
  split
  · rfl
  · split <;> simp
@[simp] theorem State.repeatExpiry_sfu (s : State) : (s.repeatExpiry).sfu = s.sfu := by
  unfold State.repeatExpiry
  dsimp only
  split
  · rfl
  · split <;> simp
@[simp] theorem State.repeatExpiry_sdm (s : State) : (s.repeatExpiry).sdm = s.sdm := by
  unfold State.repeatExpiry
  dsimp only
  split
  · rfl
  · split <;> simp
@[simp] theorem State.repeatExpiry_cru (s : State) : (s.repeatExpiry).cru = s.cru := by
  unfold State.repeatExpiry
  dsimp only
  split
  · rfl
  · split <;> simp
@[simp] theorem State.repeatExpiry_cfl (s : State) : (s.repeatExpiry).cfl = s.cfl := by
  unfold State.repeatExpiry
  dsimp only
  split
  · rfl
  · split <;> simp
@[simp] theorem State.repeatExpiry_routed (s : State) : (s.repeatExpiry).routed = s.routed := by
  unfold State.repeatExpiry
  dsimp only
  split
  · rfl
  · split <;> simp
@[simp] theorem State.repeatExpiry_supokHigh (s : State) : (s.repeatExpiry).supokHigh = s.supokHigh := by
  unfold State.repeatExpiry
  dsimp only
  split
  · rfl
  · split <;> simp
@[simp] theorem State.repeatExpiry_rstnHigh (s : State) : (s.repeatExpiry).rstnHigh = s.rstnHigh := by
  unfold State.repeatExpiry
  dsimp only
  split
  · rfl
  · split <;> simp
@[simp] theorem State.repeatExpiry_now (s : State) : (s.repeatExpiry).now = s.now := by
  unfold State.repeatExpiry
  dsimp only
  split
  · rfl
  · split <;> simp
@[simp] theorem State.repeatExpiry_freeIndex (s : State) : (s.repeatExpiry).freeIndex = s.freeIndex := by
  unfold State.repeatExpiry
  dsimp only
  split
  · rfl
  · split <;> simp
@[simp] theorem State.repeatExpiry_pending (s : State) : (s.repeatExpiry).pending = s.pending := by
  unfold State.repeatExpiry
  dsimp only
  split
  · rfl
  · split <;> simp

/-! ### asuLeavesActive -/
@[simp] theorem State.asuLeavesActive_lif (s : State) : (s.asuLeavesActive).lif = s.lif := rfl
@[simp] theorem State.asuLeavesActive_ssv (s : State) : (s.asuLeavesActive).ssv = s.ssv := rfl
@[simp] theorem State.asuLeavesActive_sfu (s : State) : (s.asuLeavesActive).sfu = s.sfu := rfl
@[simp] theorem State.asuLeavesActive_sdm (s : State) : (s.asuLeavesActive).sdm = s.sdm := rfl
@[simp] theorem State.asuLeavesActive_flm (s : State) : (s.asuLeavesActive).flm = s.flm := rfl
@[simp] theorem State.asuLeavesActive_cru (s : State) : (s.asuLeavesActive).cru = s.cru := rfl
@[simp] theorem State.asuLeavesActive_diu (s : State) : (s.asuLeavesActive).diu = s.diu := rfl
@[simp] theorem State.asuLeavesActive_idr (s : State) : (s.asuLeavesActive).idr = s.idr := rfl
@[simp] theorem State.asuLeavesActive_cfl (s : State) : (s.asuLeavesActive).cfl = s.cfl := rfl
@[simp] theorem State.asuLeavesActive_snu (s : State) : (s.asuLeavesActive).snu = s.snu := rfl
@[simp] theorem State.asuLeavesActive_routed (s : State) : (s.asuLeavesActive).routed = s.routed := rfl
@[simp] theorem State.asuLeavesActive_supokHigh (s : State) : (s.asuLeavesActive).supokHigh = s.supokHigh := rfl
@[simp] theorem State.asuLeavesActive_rstnHigh (s : State) : (s.asuLeavesActive).rstnHigh = s.rstnHigh := rfl
@[simp] theorem State.asuLeavesActive_now (s : State) : (s.asuLeavesActive).now = s.now := rfl
@[simp] theorem State.asuLeavesActive_freeIndex (s : State) : (s.asuLeavesActive).freeIndex = s.freeIndex := rfl
@[simp] theorem State.asuLeavesActive_pending (s : State) : (s.asuLeavesActive).pending = s.pending := rfl

/-! ### asuEntersActive -/
@[simp] theorem State.asuEntersActive_ssv (s : State) : (s.asuEntersActive).ssv = s.ssv := by
  unfold State.asuEntersActive
  split
  · rfl
  · split <;> simp
@[simp] theorem State.asuEntersActive_sfu (s : State) : (s.asuEntersActive).sfu = s.sfu := by
  unfold State.asuEntersActive
  split
  · rfl
  · split <;> simp
@[simp] theorem State.asuEntersActive_sdm (s : State) : (s.asuEntersActive).sdm = s.sdm := by
  unfold State.asuEntersActive
  split
  · rfl
  · split <;> simp
@[simp] theorem State.asuEntersActive_cru (s : State) : (s.asuEntersActive).cru = s.cru := by
  unfold State.asuEntersActive
  split
  · rfl
  · split <;> simp
@[simp] theorem State.asuEntersActive_cfl (s : State) : (s.asuEntersActive).cfl = s.cfl := by
  unfold State.asuEntersActive
  split
  · rfl
  · split <;> simp
@[simp] theorem State.asuEntersActive_routed (s : State) : (s.asuEntersActive).routed = s.routed := by
  unfold State.asuEntersActive
  split
  · rfl
  · split <;> simp
@[simp] theorem State.asuEntersActive_supokHigh (s : State) : (s.asuEntersActive).supokHigh = s.supokHigh := by
  unfold State.asuEntersActive
  split
  · rfl
  · split <;> simp
@[simp] theorem State.asuEntersActive_rstnHigh (s : State) : (s.asuEntersActive).rstnHigh = s.rstnHigh := by
  unfold State.asuEntersActive
  split
  · rfl
  · split <;> simp
@[simp] theorem State.asuEntersActive_now (s : State) : (s.asuEntersActive).now = s.now := by
  unfold State.asuEntersActive
  split
  · rfl
  · split <;> simp
@[simp] theorem State.asuEntersActive_freeIndex (s : State) : (s.asuEntersActive).freeIndex = s.freeIndex := by
  unfold State.asuEntersActive
  split
  · rfl
  · split <;> simp
@[simp] theorem State.asuEntersActive_pending (s : State) : (s.asuEntersActive).pending = s.pending := by
  unfold State.asuEntersActive
  split
  · rfl
  · split <;> simp

/-! ### asuPress -/
@[simp] theorem State.asuPress_ssv (s : State) : (s.asuPress).ssv = s.ssv := by
  unfold State.asuPress
  split
  · rfl
  · split <;> simp
@[simp] theorem State.asuPress_sfu (s : State) : (s.asuPress).sfu = s.sfu := by
  unfold State.asuPress
  split
  · rfl
  · split <;> simp
@[simp] theorem State.asuPress_sdm (s : State) : (s.asuPress).sdm = s.sdm := by
  unfold State.asuPress
  split
  · rfl
  · split <;> simp
@[simp] theorem State.asuPress_cru (s : State) : (s.asuPress).cru = s.cru := by
  unfold State.asuPress
  split
  · rfl
  · split <;> simp
@[simp] theorem State.asuPress_cfl (s : State) : (s.asuPress).cfl = s.cfl := by
  unfold State.asuPress
  split
  · rfl
  · split <;> simp
@[simp] theorem State.asuPress_routed (s : State) : (s.asuPress).routed = s.routed := by
  unfold State.asuPress
  split
  · rfl
  · split <;> simp
@[simp] theorem State.asuPress_supokHigh (s : State) : (s.asuPress).supokHigh = s.supokHigh := by
  unfold State.asuPress
  split
  · rfl
  · split <;> simp
@[simp] theorem State.asuPress_rstnHigh (s : State) : (s.asuPress).rstnHigh = s.rstnHigh := by
  unfold State.asuPress
  split
  · rfl
  · split <;> simp
@[simp] theorem State.asuPress_now (s : State) : (s.asuPress).now = s.now := by
  unfold State.asuPress
  split
  · rfl
  · split <;> simp
@[simp] theorem State.asuPress_freeIndex (s : State) : (s.asuPress).freeIndex = s.freeIndex := by
  unfold State.asuPress
  split
  · rfl
  · split <;> simp
@[simp] theorem State.asuPress_pending (s : State) : (s.asuPress).pending = s.pending := by
  unfold State.asuPress
  split
  · rfl
  · split <;> simp

/-! ### asuPeerAckn -/
@[simp] theorem State.asuPeerAckn_lif (s : State) (station : Nat) (inst : InstanceNo) :
    (s.asuPeerAckn station inst).lif = s.lif := by
  unfold State.asuPeerAckn
  split
  · rfl
  · split <;> simp
@[simp] theorem State.asuPeerAckn_ssv (s : State) (station : Nat) (inst : InstanceNo) :
    (s.asuPeerAckn station inst).ssv = s.ssv := by
  unfold State.asuPeerAckn
  split
  · rfl
  · split <;> simp
@[simp] theorem State.asuPeerAckn_sfu (s : State) (station : Nat) (inst : InstanceNo) :
    (s.asuPeerAckn station inst).sfu = s.sfu := by
  unfold State.asuPeerAckn
  split
  · rfl
  · split <;> simp
@[simp] theorem State.asuPeerAckn_sdm (s : State) (station : Nat) (inst : InstanceNo) :
    (s.asuPeerAckn station inst).sdm = s.sdm := by
  unfold State.asuPeerAckn
  split
  · rfl
  · split <;> simp
@[simp] theorem State.asuPeerAckn_flm (s : State) (station : Nat) (inst : InstanceNo) :
    (s.asuPeerAckn station inst).flm = s.flm := by
  unfold State.asuPeerAckn
  split
  · rfl
  · split <;> simp
@[simp] theorem State.asuPeerAckn_cru (s : State) (station : Nat) (inst : InstanceNo) :
    (s.asuPeerAckn station inst).cru = s.cru := by
  unfold State.asuPeerAckn
  split
  · rfl
  · split <;> simp
@[simp] theorem State.asuPeerAckn_diu (s : State) (station : Nat) (inst : InstanceNo) :
    (s.asuPeerAckn station inst).diu = s.diu := by
  unfold State.asuPeerAckn
  split
  · rfl
  · split <;> simp
@[simp] theorem State.asuPeerAckn_cfl (s : State) (station : Nat) (inst : InstanceNo) :
    (s.asuPeerAckn station inst).cfl = s.cfl := by
  unfold State.asuPeerAckn
  split
  · rfl
  · split <;> simp
@[simp] theorem State.asuPeerAckn_snu (s : State) (station : Nat) (inst : InstanceNo) :
    (s.asuPeerAckn station inst).snu = s.snu := by
  unfold State.asuPeerAckn
  split
  · rfl
  · split <;> simp
@[simp] theorem State.asuPeerAckn_routed (s : State) (station : Nat) (inst : InstanceNo) :
    (s.asuPeerAckn station inst).routed = s.routed := by
  unfold State.asuPeerAckn
  split
  · rfl
  · split <;> simp
@[simp] theorem State.asuPeerAckn_supokHigh (s : State) (station : Nat) (inst : InstanceNo) :
    (s.asuPeerAckn station inst).supokHigh = s.supokHigh := by
  unfold State.asuPeerAckn
  split
  · rfl
  · split <;> simp
@[simp] theorem State.asuPeerAckn_rstnHigh (s : State) (station : Nat) (inst : InstanceNo) :
    (s.asuPeerAckn station inst).rstnHigh = s.rstnHigh := by
  unfold State.asuPeerAckn
  split
  · rfl
  · split <;> simp
@[simp] theorem State.asuPeerAckn_now (s : State) (station : Nat) (inst : InstanceNo) :
    (s.asuPeerAckn station inst).now = s.now := by
  unfold State.asuPeerAckn
  split
  · rfl
  · split <;> simp
@[simp] theorem State.asuPeerAckn_freeIndex (s : State) (station : Nat) (inst : InstanceNo) :
    (s.asuPeerAckn station inst).freeIndex = s.freeIndex := by
  unfold State.asuPeerAckn
  split
  · rfl
  · split <;> simp
@[simp] theorem State.asuPeerAckn_pending (s : State) (station : Nat) (inst : InstanceNo) :
    (s.asuPeerAckn station inst).pending = s.pending := by
  unfold State.asuPeerAckn
  split
  · rfl
  · split <;> simp


end Sys2Proof.Machine
end

