-- ==== Sys2Proof/Laws/Role.lean ====
section
/-! SUPPORT. The fields an operation of the cab role leaves as they are. -/

namespace Sys2Proof.Machine

open Sys2Proof

/-! ### handDesk -/
@[simp] theorem State.handDesk_ssv (s : State) (before between after : FlmView) :
    (s.handDesk before between after).ssv = s.ssv := by simp [State.handDesk]
@[simp] theorem State.handDesk_sfu (s : State) (before between after : FlmView) :
    (s.handDesk before between after).sfu = s.sfu := by simp [State.handDesk]
@[simp] theorem State.handDesk_sdm (s : State) (before between after : FlmView) :
    (s.handDesk before between after).sdm = s.sdm := by simp [State.handDesk]
@[simp] theorem State.handDesk_asu (s : State) (before between after : FlmView) :
    (s.handDesk before between after).asu = s.asu := by simp [State.handDesk]
@[simp] theorem State.handDesk_cfl (s : State) (before between after : FlmView) :
    (s.handDesk before between after).cfl = s.cfl := by simp [State.handDesk]
@[simp] theorem State.handDesk_routed (s : State) (before between after : FlmView) :
    (s.handDesk before between after).routed = s.routed := by simp [State.handDesk]
@[simp] theorem State.handDesk_supokHigh (s : State) (before between after : FlmView) :
    (s.handDesk before between after).supokHigh = s.supokHigh := by simp [State.handDesk]
@[simp] theorem State.handDesk_rstnHigh (s : State) (before between after : FlmView) :
    (s.handDesk before between after).rstnHigh = s.rstnHigh := by simp [State.handDesk]
@[simp] theorem State.handDesk_now (s : State) (before between after : FlmView) :
    (s.handDesk before between after).now = s.now := by simp [State.handDesk]
@[simp] theorem State.handDesk_pending (s : State) (before between after : FlmView) :
    (s.handDesk before between after).pending = s.pending := by simp [State.handDesk]

/-! ### deskPeriod -/
@[simp] theorem State.deskPeriod_ssv (s : State) : (s.deskPeriod).ssv = s.ssv := by simp [State.deskPeriod]
@[simp] theorem State.deskPeriod_sfu (s : State) : (s.deskPeriod).sfu = s.sfu := by simp [State.deskPeriod]
@[simp] theorem State.deskPeriod_sdm (s : State) : (s.deskPeriod).sdm = s.sdm := by simp [State.deskPeriod]
@[simp] theorem State.deskPeriod_asu (s : State) : (s.deskPeriod).asu = s.asu := by simp [State.deskPeriod]
@[simp] theorem State.deskPeriod_cfl (s : State) : (s.deskPeriod).cfl = s.cfl := by simp [State.deskPeriod]
@[simp] theorem State.deskPeriod_routed (s : State) : (s.deskPeriod).routed = s.routed := by simp [State.deskPeriod]
@[simp] theorem State.deskPeriod_supokHigh (s : State) : (s.deskPeriod).supokHigh = s.supokHigh := by simp [State.deskPeriod]
@[simp] theorem State.deskPeriod_rstnHigh (s : State) : (s.deskPeriod).rstnHigh = s.rstnHigh := by simp [State.deskPeriod]
@[simp] theorem State.deskPeriod_now (s : State) : (s.deskPeriod).now = s.now := by simp [State.deskPeriod]
@[simp] theorem State.deskPeriod_pending (s : State) : (s.deskPeriod).pending = s.pending := by simp [State.deskPeriod]

/-! ### takeRole -/
@[simp] theorem State.takeRole_lif (s : State) (role : Role) : (s.takeRole role).lif = s.lif := rfl
@[simp] theorem State.takeRole_ssv (s : State) (role : Role) : (s.takeRole role).ssv = s.ssv := rfl
@[simp] theorem State.takeRole_sfu (s : State) (role : Role) : (s.takeRole role).sfu = s.sfu := rfl
@[simp] theorem State.takeRole_sdm (s : State) (role : Role) : (s.takeRole role).sdm = s.sdm := rfl
@[simp] theorem State.takeRole_asu (s : State) (role : Role) : (s.takeRole role).asu = s.asu := rfl
@[simp] theorem State.takeRole_flm (s : State) (role : Role) : (s.takeRole role).flm = s.flm := rfl
@[simp] theorem State.takeRole_diu (s : State) (role : Role) : (s.takeRole role).diu = s.diu := rfl
@[simp] theorem State.takeRole_cfl (s : State) (role : Role) : (s.takeRole role).cfl = s.cfl := rfl
@[simp] theorem State.takeRole_snu (s : State) (role : Role) : (s.takeRole role).snu = s.snu := rfl
@[simp] theorem State.takeRole_routed (s : State) (role : Role) : (s.takeRole role).routed = s.routed := rfl
@[simp] theorem State.takeRole_supokHigh (s : State) (role : Role) : (s.takeRole role).supokHigh = s.supokHigh := rfl
@[simp] theorem State.takeRole_rstnHigh (s : State) (role : Role) : (s.takeRole role).rstnHigh = s.rstnHigh := rfl
@[simp] theorem State.takeRole_now (s : State) (role : Role) : (s.takeRole role).now = s.now := rfl
@[simp] theorem State.takeRole_freeIndex (s : State) (role : Role) : (s.takeRole role).freeIndex = s.freeIndex := rfl
@[simp] theorem State.takeRole_pending (s : State) (role : Role) : (s.takeRole role).pending = s.pending := rfl

/-! ### enterRole -/
@[simp] theorem State.enterRole_ssv (s : State) (role : Role) : (s.enterRole role).ssv = s.ssv := by
  unfold State.enterRole
  dsimp only
  split
  · simp
  · split <;> simp
@[simp] theorem State.enterRole_sfu (s : State) (role : Role) : (s.enterRole role).sfu = s.sfu := by
  unfold State.enterRole
  dsimp only
  split
  · simp
  · split <;> simp
@[simp] theorem State.enterRole_sdm (s : State) (role : Role) : (s.enterRole role).sdm = s.sdm := by
  unfold State.enterRole
  dsimp only
  split
  · simp
  · split <;> simp
@[simp] theorem State.enterRole_cfl (s : State) (role : Role) : (s.enterRole role).cfl = s.cfl := by
  unfold State.enterRole
  dsimp only
  split
  · simp
  · split <;> simp
@[simp] theorem State.enterRole_routed (s : State) (role : Role) : (s.enterRole role).routed = s.routed := by
  unfold State.enterRole
  dsimp only
  split
  · simp
  · split <;> simp
@[simp] theorem State.enterRole_supokHigh (s : State) (role : Role) : (s.enterRole role).supokHigh = s.supokHigh := by
  unfold State.enterRole
  dsimp only
  split
  · simp
  · split <;> simp
@[simp] theorem State.enterRole_rstnHigh (s : State) (role : Role) : (s.enterRole role).rstnHigh = s.rstnHigh := by
  unfold State.enterRole
  dsimp only
  split
  · simp
  · split <;> simp
@[simp] theorem State.enterRole_now (s : State) (role : Role) : (s.enterRole role).now = s.now := by
  unfold State.enterRole
  dsimp only
  split
  · simp
  · split <;> simp
@[simp] theorem State.enterRole_freeIndex (s : State) (role : Role) : (s.enterRole role).freeIndex = s.freeIndex := by
  unfold State.enterRole
  dsimp only
  split
  · simp
  · split <;> simp
@[simp] theorem State.enterRole_pending (s : State) (role : Role) : (s.enterRole role).pending = s.pending := by
  unfold State.enterRole
  dsimp only
  split
  · simp
  · split <;> simp

/-! ### conflictRecord -/
@[simp] theorem State.conflictRecord_lif (s : State) (old : Role) : (s.conflictRecord old).lif = s.lif := by
  unfold State.conflictRecord
  split
  · simp
  · split <;> simp
@[simp] theorem State.conflictRecord_ssv (s : State) (old : Role) : (s.conflictRecord old).ssv = s.ssv := by
  unfold State.conflictRecord
  split
  · simp
  · split <;> simp
@[simp] theorem State.conflictRecord_sfu (s : State) (old : Role) : (s.conflictRecord old).sfu = s.sfu := by
  unfold State.conflictRecord
  split
  · simp
  · split <;> simp
@[simp] theorem State.conflictRecord_sdm (s : State) (old : Role) : (s.conflictRecord old).sdm = s.sdm := by
  unfold State.conflictRecord
  split
  · simp
  · split <;> simp
@[simp] theorem State.conflictRecord_asu (s : State) (old : Role) : (s.conflictRecord old).asu = s.asu := by
  unfold State.conflictRecord
  split
  · simp
  · split <;> simp
@[simp] theorem State.conflictRecord_cru (s : State) (old : Role) : (s.conflictRecord old).cru = s.cru := by
  unfold State.conflictRecord
  split
  · simp
  · split <;> simp
@[simp] theorem State.conflictRecord_cfl (s : State) (old : Role) : (s.conflictRecord old).cfl = s.cfl := by
  unfold State.conflictRecord
  split
  · simp
  · split <;> simp
@[simp] theorem State.conflictRecord_snu (s : State) (old : Role) : (s.conflictRecord old).snu = s.snu := by
  unfold State.conflictRecord
  split
  · simp
  · split <;> simp
@[simp] theorem State.conflictRecord_routed (s : State) (old : Role) : (s.conflictRecord old).routed = s.routed := by
  unfold State.conflictRecord
  split
  · simp
  · split <;> simp
@[simp] theorem State.conflictRecord_supokHigh (s : State) (old : Role) : (s.conflictRecord old).supokHigh = s.supokHigh := by
  unfold State.conflictRecord
  split
  · simp
  · split <;> simp
@[simp] theorem State.conflictRecord_rstnHigh (s : State) (old : Role) : (s.conflictRecord old).rstnHigh = s.rstnHigh := by
  unfold State.conflictRecord
  split
  · simp
  · split <;> simp
@[simp] theorem State.conflictRecord_now (s : State) (old : Role) : (s.conflictRecord old).now = s.now := by
  unfold State.conflictRecord
  split
  · simp
  · split <;> simp
@[simp] theorem State.conflictRecord_freeIndex (s : State) (old : Role) : (s.conflictRecord old).freeIndex = s.freeIndex := by
  unfold State.conflictRecord
  split
  · simp
  · split <;> simp
@[simp] theorem State.conflictRecord_pending (s : State) (old : Role) : (s.conflictRecord old).pending = s.pending := by
  unfold State.conflictRecord
  split
  · simp
  · split <;> simp

/-! ### peerConflictTest -/
@[simp] theorem State.peerConflictTest_lif (s : State) : (s.peerConflictTest).lif = s.lif := by
  unfold State.peerConflictTest
  dsimp only
  split
  · rfl
  · split <;> simp
@[simp] theorem State.peerConflictTest_ssv (s : State) : (s.peerConflictTest).ssv = s.ssv := by
  unfold State.peerConflictTest
  dsimp only
  split
  · rfl
  · split <;> simp
@[simp] theorem State.peerConflictTest_sfu (s : State) : (s.peerConflictTest).sfu = s.sfu := by
  unfold State.peerConflictTest
  dsimp only
  split
  · rfl
  · split <;> simp
@[simp] theorem State.peerConflictTest_sdm (s : State) : (s.peerConflictTest).sdm = s.sdm := by
  unfold State.peerConflictTest
  dsimp only
  split
  · rfl
  · split <;> simp
@[simp] theorem State.peerConflictTest_asu (s : State) : (s.peerConflictTest).asu = s.asu := by
  unfold State.peerConflictTest
  dsimp only
  split
  · rfl
  · split <;> simp
@[simp] theorem State.peerConflictTest_cfl (s : State) : (s.peerConflictTest).cfl = s.cfl := by
  unfold State.peerConflictTest
  dsimp only
  split
  · rfl
  · split <;> simp
@[simp] theorem State.peerConflictTest_snu (s : State) : (s.peerConflictTest).snu = s.snu := by
  unfold State.peerConflictTest
  dsimp only
  split
  · rfl
  · split <;> simp
@[simp] theorem State.peerConflictTest_routed (s : State) : (s.peerConflictTest).routed = s.routed := by
  unfold State.peerConflictTest
  dsimp only
  split
  · rfl
  · split <;> simp
@[simp] theorem State.peerConflictTest_supokHigh (s : State) : (s.peerConflictTest).supokHigh = s.supokHigh := by
  unfold State.peerConflictTest
  dsimp only
  split
  · rfl
  · split <;> simp
@[simp] theorem State.peerConflictTest_rstnHigh (s : State) : (s.peerConflictTest).rstnHigh = s.rstnHigh := by
  unfold State.peerConflictTest
  dsimp only
  split
  · rfl
  · split <;> simp
@[simp] theorem State.peerConflictTest_now (s : State) : (s.peerConflictTest).now = s.now := by
  unfold State.peerConflictTest
  dsimp only
  split
  · rfl
  · split <;> simp
@[simp] theorem State.peerConflictTest_freeIndex (s : State) : (s.peerConflictTest).freeIndex = s.freeIndex := by
  unfold State.peerConflictTest
  dsimp only
  split
  · rfl
  · split <;> simp
@[simp] theorem State.peerConflictTest_pending (s : State) : (s.peerConflictTest).pending = s.pending := by
  unfold State.peerConflictTest
  dsimp only
  split
  · rfl
  · split <;> simp

/-! ### evaluateRole -/
@[simp] theorem State.evaluateRole_ssv (s : State) (expiry : Bool) : (s.evaluateRole expiry).ssv = s.ssv :=
  by unfold State.evaluateRole; dsimp only; split <;> simp
@[simp] theorem State.evaluateRole_sfu (s : State) (expiry : Bool) : (s.evaluateRole expiry).sfu = s.sfu :=
  by unfold State.evaluateRole; dsimp only; split <;> simp
@[simp] theorem State.evaluateRole_sdm (s : State) (expiry : Bool) : (s.evaluateRole expiry).sdm = s.sdm :=
  by unfold State.evaluateRole; dsimp only; split <;> simp
@[simp] theorem State.evaluateRole_cfl (s : State) (expiry : Bool) : (s.evaluateRole expiry).cfl = s.cfl :=
  by unfold State.evaluateRole; dsimp only; split <;> simp
@[simp] theorem State.evaluateRole_routed (s : State) (expiry : Bool) : (s.evaluateRole expiry).routed = s.routed :=
  by unfold State.evaluateRole; dsimp only; split <;> simp
@[simp] theorem State.evaluateRole_supokHigh (s : State) (expiry : Bool) : (s.evaluateRole expiry).supokHigh = s.supokHigh :=
  by unfold State.evaluateRole; dsimp only; split <;> simp
@[simp] theorem State.evaluateRole_rstnHigh (s : State) (expiry : Bool) : (s.evaluateRole expiry).rstnHigh = s.rstnHigh :=
  by unfold State.evaluateRole; dsimp only; split <;> simp
@[simp] theorem State.evaluateRole_now (s : State) (expiry : Bool) : (s.evaluateRole expiry).now = s.now :=
  by unfold State.evaluateRole; dsimp only; split <;> simp
@[simp] theorem State.evaluateRole_pending (s : State) (expiry : Bool) : (s.evaluateRole expiry).pending = s.pending :=
  by unfold State.evaluateRole; dsimp only; split <;> simp

/-! ### firstEvaluation -/
@[simp] theorem State.firstEvaluation_ssv (s : State) : (s.firstEvaluation).ssv = s.ssv := by
  unfold State.firstEvaluation
  dsimp only
  repeat' split
  all_goals simp
@[simp] theorem State.firstEvaluation_sfu (s : State) : (s.firstEvaluation).sfu = s.sfu := by
  unfold State.firstEvaluation
  dsimp only
  repeat' split
  all_goals simp
@[simp] theorem State.firstEvaluation_sdm (s : State) : (s.firstEvaluation).sdm = s.sdm := by
  unfold State.firstEvaluation
  dsimp only
  repeat' split
  all_goals simp
@[simp] theorem State.firstEvaluation_cfl (s : State) : (s.firstEvaluation).cfl = s.cfl := by
  unfold State.firstEvaluation
  dsimp only
  repeat' split
  all_goals simp
@[simp] theorem State.firstEvaluation_routed (s : State) : (s.firstEvaluation).routed = s.routed := by
  unfold State.firstEvaluation
  dsimp only
  repeat' split
  all_goals simp
@[simp] theorem State.firstEvaluation_supokHigh (s : State) : (s.firstEvaluation).supokHigh = s.supokHigh := by
  unfold State.firstEvaluation
  dsimp only
  repeat' split
  all_goals simp
@[simp] theorem State.firstEvaluation_rstnHigh (s : State) : (s.firstEvaluation).rstnHigh = s.rstnHigh := by
  unfold State.firstEvaluation
  dsimp only
  repeat' split
  all_goals simp
@[simp] theorem State.firstEvaluation_now (s : State) : (s.firstEvaluation).now = s.now := by
  unfold State.firstEvaluation
  dsimp only
  repeat' split
  all_goals simp
@[simp] theorem State.firstEvaluation_pending (s : State) : (s.firstEvaluation).pending = s.pending := by
  unfold State.firstEvaluation
  dsimp only
  repeat' split
  all_goals simp

/-! ### cruPublished -/
@[simp] theorem State.cruPublished_ssv (s : State) (k : Fin 3) (after : EntryState) (payload : Option (List Byte)) :
    (s.cruPublished k after payload).ssv = s.ssv := by simp [State.cruPublished]
@[simp] theorem State.cruPublished_sfu (s : State) (k : Fin 3) (after : EntryState) (payload : Option (List Byte)) :
    (s.cruPublished k after payload).sfu = s.sfu := by simp [State.cruPublished]
@[simp] theorem State.cruPublished_sdm (s : State) (k : Fin 3) (after : EntryState) (payload : Option (List Byte)) :
    (s.cruPublished k after payload).sdm = s.sdm := by simp [State.cruPublished]
@[simp] theorem State.cruPublished_cfl (s : State) (k : Fin 3) (after : EntryState) (payload : Option (List Byte)) :
    (s.cruPublished k after payload).cfl = s.cfl := by simp [State.cruPublished]
@[simp] theorem State.cruPublished_routed (s : State) (k : Fin 3) (after : EntryState) (payload : Option (List Byte)) :
    (s.cruPublished k after payload).routed = s.routed := by simp [State.cruPublished]
@[simp] theorem State.cruPublished_supokHigh (s : State) (k : Fin 3) (after : EntryState) (payload : Option (List Byte)) :
    (s.cruPublished k after payload).supokHigh = s.supokHigh := by simp [State.cruPublished]
@[simp] theorem State.cruPublished_rstnHigh (s : State) (k : Fin 3) (after : EntryState) (payload : Option (List Byte)) :
    (s.cruPublished k after payload).rstnHigh = s.rstnHigh := by simp [State.cruPublished]
@[simp] theorem State.cruPublished_now (s : State) (k : Fin 3) (after : EntryState) (payload : Option (List Byte)) :
    (s.cruPublished k after payload).now = s.now := by simp [State.cruPublished]
@[simp] theorem State.cruPublished_pending (s : State) (k : Fin 3) (after : EntryState) (payload : Option (List Byte)) :
    (s.cruPublished k after payload).pending = s.pending := by simp [State.cruPublished]

/-! ### cruKey -/
@[simp] theorem State.cruKey_ssv (s : State) (on : Bool) : (s.cruKey on).ssv = s.ssv := by simp [State.cruKey]
@[simp] theorem State.cruKey_sfu (s : State) (on : Bool) : (s.cruKey on).sfu = s.sfu := by simp [State.cruKey]
@[simp] theorem State.cruKey_sdm (s : State) (on : Bool) : (s.cruKey on).sdm = s.sdm := by simp [State.cruKey]
@[simp] theorem State.cruKey_cfl (s : State) (on : Bool) : (s.cruKey on).cfl = s.cfl := by simp [State.cruKey]
@[simp] theorem State.cruKey_routed (s : State) (on : Bool) : (s.cruKey on).routed = s.routed := by simp [State.cruKey]
@[simp] theorem State.cruKey_supokHigh (s : State) (on : Bool) : (s.cruKey on).supokHigh = s.supokHigh := by simp [State.cruKey]
@[simp] theorem State.cruKey_rstnHigh (s : State) (on : Bool) : (s.cruKey on).rstnHigh = s.rstnHigh := by simp [State.cruKey]
@[simp] theorem State.cruKey_now (s : State) (on : Bool) : (s.cruKey on).now = s.now := by simp [State.cruKey]
@[simp] theorem State.cruKey_pending (s : State) (on : Bool) : (s.cruKey on).pending = s.pending := by simp [State.cruKey]

/-! ### claimExpiry -/
@[simp] theorem State.claimExpiry_ssv (s : State) : (s.claimExpiry).ssv = s.ssv := by simp [State.claimExpiry]
@[simp] theorem State.claimExpiry_sfu (s : State) : (s.claimExpiry).sfu = s.sfu := by simp [State.claimExpiry]
@[simp] theorem State.claimExpiry_sdm (s : State) : (s.claimExpiry).sdm = s.sdm := by simp [State.claimExpiry]
@[simp] theorem State.claimExpiry_cfl (s : State) : (s.claimExpiry).cfl = s.cfl := by simp [State.claimExpiry]
@[simp] theorem State.claimExpiry_routed (s : State) : (s.claimExpiry).routed = s.routed := by simp [State.claimExpiry]
@[simp] theorem State.claimExpiry_supokHigh (s : State) : (s.claimExpiry).supokHigh = s.supokHigh := by simp [State.claimExpiry]
@[simp] theorem State.claimExpiry_rstnHigh (s : State) : (s.claimExpiry).rstnHigh = s.rstnHigh := by simp [State.claimExpiry]
@[simp] theorem State.claimExpiry_now (s : State) : (s.claimExpiry).now = s.now := by simp [State.claimExpiry]
@[simp] theorem State.claimExpiry_pending (s : State) : (s.claimExpiry).pending = s.pending := by simp [State.claimExpiry]


end Sys2Proof.Machine
end

