-- ==== Sys2Proof/Laws/Events.lean ====
section
/-! SUPPORT. The fields an event at a source entry, at the desk inputs or at the Snapshot Unit leaves as they are. -/

namespace Sys2Proof.Machine

open Sys2Proof

/-! ### flmPublished -/
@[simp] theorem State.flmPublished_lif (s : State) (station : Nat) (after : EntryState) (payload : Option (List Byte)) :
    (s.flmPublished station after payload).lif = s.lif := by unfold State.flmPublished; split <;> simp
@[simp] theorem State.flmPublished_ssv (s : State) (station : Nat) (after : EntryState) (payload : Option (List Byte)) :
    (s.flmPublished station after payload).ssv = s.ssv := by unfold State.flmPublished; split <;> simp
@[simp] theorem State.flmPublished_sfu (s : State) (station : Nat) (after : EntryState) (payload : Option (List Byte)) :
    (s.flmPublished station after payload).sfu = s.sfu := by unfold State.flmPublished; split <;> simp
@[simp] theorem State.flmPublished_sdm (s : State) (station : Nat) (after : EntryState) (payload : Option (List Byte)) :
    (s.flmPublished station after payload).sdm = s.sdm := by unfold State.flmPublished; split <;> simp
@[simp] theorem State.flmPublished_asu (s : State) (station : Nat) (after : EntryState) (payload : Option (List Byte)) :
    (s.flmPublished station after payload).asu = s.asu := by unfold State.flmPublished; split <;> simp
@[simp] theorem State.flmPublished_cru (s : State) (station : Nat) (after : EntryState) (payload : Option (List Byte)) :
    (s.flmPublished station after payload).cru = s.cru := by unfold State.flmPublished; split <;> simp
@[simp] theorem State.flmPublished_cfl (s : State) (station : Nat) (after : EntryState) (payload : Option (List Byte)) :
    (s.flmPublished station after payload).cfl = s.cfl := by unfold State.flmPublished; split <;> simp
@[simp] theorem State.flmPublished_snu (s : State) (station : Nat) (after : EntryState) (payload : Option (List Byte)) :
    (s.flmPublished station after payload).snu = s.snu := by unfold State.flmPublished; split <;> simp
@[simp] theorem State.flmPublished_routed (s : State) (station : Nat) (after : EntryState) (payload : Option (List Byte)) :
    (s.flmPublished station after payload).routed = s.routed := by unfold State.flmPublished; split <;> simp
@[simp] theorem State.flmPublished_supokHigh (s : State) (station : Nat) (after : EntryState) (payload : Option (List Byte)) :
    (s.flmPublished station after payload).supokHigh = s.supokHigh := by unfold State.flmPublished; split <;> simp
@[simp] theorem State.flmPublished_rstnHigh (s : State) (station : Nat) (after : EntryState) (payload : Option (List Byte)) :
    (s.flmPublished station after payload).rstnHigh = s.rstnHigh := by unfold State.flmPublished; split <;> simp
@[simp] theorem State.flmPublished_now (s : State) (station : Nat) (after : EntryState) (payload : Option (List Byte)) :
    (s.flmPublished station after payload).now = s.now := by unfold State.flmPublished; split <;> simp
@[simp] theorem State.flmPublished_freeIndex (s : State) (station : Nat) (after : EntryState) (payload : Option (List Byte)) :
    (s.flmPublished station after payload).freeIndex = s.freeIndex := by unfold State.flmPublished; split <;> simp
@[simp] theorem State.flmPublished_pending (s : State) (station : Nat) (after : EntryState) (payload : Option (List Byte)) :
    (s.flmPublished station after payload).pending = s.pending := by unfold State.flmPublished; split <;> simp

/-! ### publish -/
@[simp] theorem State.publish_ssv (s : State) (c : SourceConfig) (after : EntryState) (payload : Option (List Byte)) :
    (s.publish c after payload).ssv = s.ssv := by unfold State.publish; split <;> simp
@[simp] theorem State.publish_cfl (s : State) (c : SourceConfig) (after : EntryState) (payload : Option (List Byte)) :
    (s.publish c after payload).cfl = s.cfl := by unfold State.publish; split <;> simp
@[simp] theorem State.publish_routed (s : State) (c : SourceConfig) (after : EntryState) (payload : Option (List Byte)) :
    (s.publish c after payload).routed = s.routed := by unfold State.publish; split <;> simp
@[simp] theorem State.publish_supokHigh (s : State) (c : SourceConfig) (after : EntryState) (payload : Option (List Byte)) :
    (s.publish c after payload).supokHigh = s.supokHigh := by unfold State.publish; split <;> simp
@[simp] theorem State.publish_rstnHigh (s : State) (c : SourceConfig) (after : EntryState) (payload : Option (List Byte)) :
    (s.publish c after payload).rstnHigh = s.rstnHigh := by unfold State.publish; split <;> simp
@[simp] theorem State.publish_now (s : State) (c : SourceConfig) (after : EntryState) (payload : Option (List Byte)) :
    (s.publish c after payload).now = s.now := by unfold State.publish; split <;> simp
@[simp] theorem State.publish_pending (s : State) (c : SourceConfig) (after : EntryState) (payload : Option (List Byte)) :
    (s.publish c after payload).pending = s.pending := by unfold State.publish; split <;> simp

/-! ### entryEvent -/
@[simp] theorem State.entryEvent_cfl (s : State) (i : Fin 24) (r : EntryResult) (payload : List Byte) :
    (s.entryEvent i r payload).cfl = s.cfl := by unfold State.entryEvent; dsimp only; split <;> simp
@[simp] theorem State.entryEvent_routed (s : State) (i : Fin 24) (r : EntryResult) (payload : List Byte) :
    (s.entryEvent i r payload).routed = s.routed := by unfold State.entryEvent; dsimp only; split <;> simp
@[simp] theorem State.entryEvent_supokHigh (s : State) (i : Fin 24) (r : EntryResult) (payload : List Byte) :
    (s.entryEvent i r payload).supokHigh = s.supokHigh := by unfold State.entryEvent; dsimp only; split <;> simp
@[simp] theorem State.entryEvent_rstnHigh (s : State) (i : Fin 24) (r : EntryResult) (payload : List Byte) :
    (s.entryEvent i r payload).rstnHigh = s.rstnHigh := by unfold State.entryEvent; dsimp only; split <;> simp
@[simp] theorem State.entryEvent_now (s : State) (i : Fin 24) (r : EntryResult) (payload : List Byte) :
    (s.entryEvent i r payload).now = s.now := by unfold State.entryEvent; dsimp only; split <;> simp
@[simp] theorem State.entryEvent_pending (s : State) (i : Fin 24) (r : EntryResult) (payload : List Byte) :
    (s.entryEvent i r payload).pending = s.pending := by unfold State.entryEvent; dsimp only; split <;> simp

/-! ### ssvArrival -/
@[simp] theorem State.ssvArrival_cfl (s : State) (f : Frame) : (s.ssvArrival f).cfl = s.cfl := by
  unfold State.ssvArrival
  split
  · rfl
  · split <;> simp
@[simp] theorem State.ssvArrival_routed (s : State) (f : Frame) : (s.ssvArrival f).routed = s.routed := by
  unfold State.ssvArrival
  split
  · rfl
  · split <;> simp
@[simp] theorem State.ssvArrival_supokHigh (s : State) (f : Frame) : (s.ssvArrival f).supokHigh = s.supokHigh := by
  unfold State.ssvArrival
  split
  · rfl
  · split <;> simp
@[simp] theorem State.ssvArrival_rstnHigh (s : State) (f : Frame) : (s.ssvArrival f).rstnHigh = s.rstnHigh := by
  unfold State.ssvArrival
  split
  · rfl
  · split <;> simp
@[simp] theorem State.ssvArrival_now (s : State) (f : Frame) : (s.ssvArrival f).now = s.now := by
  unfold State.ssvArrival
  split
  · rfl
  · split <;> simp
@[simp] theorem State.ssvArrival_pending (s : State) (f : Frame) : (s.ssvArrival f).pending = s.pending := by
  unfold State.ssvArrival
  split
  · rfl
  · split <;> simp

/-! ### lateExpiry -/
@[simp] theorem State.lateExpiry_cfl (s : State) (i : Fin 24) : (s.lateExpiry i).cfl = s.cfl := by simp [State.lateExpiry]
@[simp] theorem State.lateExpiry_routed (s : State) (i : Fin 24) : (s.lateExpiry i).routed = s.routed :=
  by simp [State.lateExpiry]
@[simp] theorem State.lateExpiry_supokHigh (s : State) (i : Fin 24) : (s.lateExpiry i).supokHigh = s.supokHigh :=
  by simp [State.lateExpiry]
@[simp] theorem State.lateExpiry_rstnHigh (s : State) (i : Fin 24) : (s.lateExpiry i).rstnHigh = s.rstnHigh :=
  by simp [State.lateExpiry]
@[simp] theorem State.lateExpiry_now (s : State) (i : Fin 24) : (s.lateExpiry i).now = s.now := by simp [State.lateExpiry]
@[simp] theorem State.lateExpiry_pending (s : State) (i : Fin 24) : (s.lateExpiry i).pending = s.pending :=
  by simp [State.lateExpiry]

/-! ### graceEntry -/
@[simp] theorem State.graceEntry_cfl (s : State) (i : Fin 24) : (s.graceEntry i).cfl = s.cfl :=
  by unfold State.graceEntry; split <;> simp
@[simp] theorem State.graceEntry_routed (s : State) (i : Fin 24) : (s.graceEntry i).routed = s.routed :=
  by unfold State.graceEntry; split <;> simp
@[simp] theorem State.graceEntry_supokHigh (s : State) (i : Fin 24) : (s.graceEntry i).supokHigh = s.supokHigh :=
  by unfold State.graceEntry; split <;> simp
@[simp] theorem State.graceEntry_rstnHigh (s : State) (i : Fin 24) : (s.graceEntry i).rstnHigh = s.rstnHigh :=
  by unfold State.graceEntry; split <;> simp
@[simp] theorem State.graceEntry_now (s : State) (i : Fin 24) : (s.graceEntry i).now = s.now :=
  by unfold State.graceEntry; split <;> simp
@[simp] theorem State.graceEntry_pending (s : State) (i : Fin 24) : (s.graceEntry i).pending = s.pending :=
  by unfold State.graceEntry; split <;> simp

/-! ### takeAckn -/
@[simp] theorem State.takeAckn_lif (s : State) (payload : List Byte) : (s.takeAckn payload).lif = s.lif :=
  by unfold State.takeAckn; split <;> simp
@[simp] theorem State.takeAckn_ssv (s : State) (payload : List Byte) : (s.takeAckn payload).ssv = s.ssv :=
  by unfold State.takeAckn; split <;> simp
@[simp] theorem State.takeAckn_sfu (s : State) (payload : List Byte) : (s.takeAckn payload).sfu = s.sfu :=
  by unfold State.takeAckn; split <;> simp
@[simp] theorem State.takeAckn_sdm (s : State) (payload : List Byte) : (s.takeAckn payload).sdm = s.sdm :=
  by unfold State.takeAckn; split <;> simp
@[simp] theorem State.takeAckn_cru (s : State) (payload : List Byte) : (s.takeAckn payload).cru = s.cru :=
  by unfold State.takeAckn; split <;> simp
@[simp] theorem State.takeAckn_cfl (s : State) (payload : List Byte) : (s.takeAckn payload).cfl = s.cfl :=
  by unfold State.takeAckn; split <;> simp
@[simp] theorem State.takeAckn_snu (s : State) (payload : List Byte) : (s.takeAckn payload).snu = s.snu :=
  by unfold State.takeAckn; split <;> simp
@[simp] theorem State.takeAckn_routed (s : State) (payload : List Byte) : (s.takeAckn payload).routed = s.routed :=
  by unfold State.takeAckn; split <;> simp
@[simp] theorem State.takeAckn_supokHigh (s : State) (payload : List Byte) : (s.takeAckn payload).supokHigh = s.supokHigh :=
  by unfold State.takeAckn; split <;> simp
@[simp] theorem State.takeAckn_rstnHigh (s : State) (payload : List Byte) : (s.takeAckn payload).rstnHigh = s.rstnHigh :=
  by unfold State.takeAckn; split <;> simp
@[simp] theorem State.takeAckn_now (s : State) (payload : List Byte) : (s.takeAckn payload).now = s.now :=
  by unfold State.takeAckn; split <;> simp
@[simp] theorem State.takeAckn_freeIndex (s : State) (payload : List Byte) : (s.takeAckn payload).freeIndex = s.freeIndex :=
  by unfold State.takeAckn; split <;> simp
@[simp] theorem State.takeAckn_pending (s : State) (payload : List Byte) : (s.takeAckn payload).pending = s.pending :=
  by unfold State.takeAckn; split <;> simp

/-! ### ssvAckn -/
@[simp] theorem State.ssvAckn_lif (s : State) (f : Frame) : (s.ssvAckn f).lif = s.lif := by unfold State.ssvAckn; split <;> simp
@[simp] theorem State.ssvAckn_ssv (s : State) (f : Frame) : (s.ssvAckn f).ssv = s.ssv := by unfold State.ssvAckn; split <;> simp
@[simp] theorem State.ssvAckn_sfu (s : State) (f : Frame) : (s.ssvAckn f).sfu = s.sfu := by unfold State.ssvAckn; split <;> simp
@[simp] theorem State.ssvAckn_sdm (s : State) (f : Frame) : (s.ssvAckn f).sdm = s.sdm := by unfold State.ssvAckn; split <;> simp
@[simp] theorem State.ssvAckn_cru (s : State) (f : Frame) : (s.ssvAckn f).cru = s.cru := by unfold State.ssvAckn; split <;> simp
@[simp] theorem State.ssvAckn_cfl (s : State) (f : Frame) : (s.ssvAckn f).cfl = s.cfl := by unfold State.ssvAckn; split <;> simp
@[simp] theorem State.ssvAckn_snu (s : State) (f : Frame) : (s.ssvAckn f).snu = s.snu := by unfold State.ssvAckn; split <;> simp
@[simp] theorem State.ssvAckn_routed (s : State) (f : Frame) : (s.ssvAckn f).routed = s.routed :=
  by unfold State.ssvAckn; split <;> simp
@[simp] theorem State.ssvAckn_supokHigh (s : State) (f : Frame) : (s.ssvAckn f).supokHigh = s.supokHigh :=
  by unfold State.ssvAckn; split <;> simp
@[simp] theorem State.ssvAckn_rstnHigh (s : State) (f : Frame) : (s.ssvAckn f).rstnHigh = s.rstnHigh :=
  by unfold State.ssvAckn; split <;> simp
@[simp] theorem State.ssvAckn_now (s : State) (f : Frame) : (s.ssvAckn f).now = s.now := by unfold State.ssvAckn; split <;> simp
@[simp] theorem State.ssvAckn_freeIndex (s : State) (f : Frame) : (s.ssvAckn f).freeIndex = s.freeIndex :=
  by unfold State.ssvAckn; split <;> simp
@[simp] theorem State.ssvAckn_pending (s : State) (f : Frame) : (s.ssvAckn f).pending = s.pending :=
  by unfold State.ssvAckn; split <;> simp

/-! ### inputChange -/
@[simp] theorem State.inputChange_lif (s : State) (level : InputLevel) : (s.inputChange level).lif = s.lif := rfl
@[simp] theorem State.inputChange_ssv (s : State) (level : InputLevel) : (s.inputChange level).ssv = s.ssv := rfl
@[simp] theorem State.inputChange_sfu (s : State) (level : InputLevel) : (s.inputChange level).sfu = s.sfu := rfl
@[simp] theorem State.inputChange_sdm (s : State) (level : InputLevel) : (s.inputChange level).sdm = s.sdm := rfl
@[simp] theorem State.inputChange_asu (s : State) (level : InputLevel) : (s.inputChange level).asu = s.asu := rfl
@[simp] theorem State.inputChange_flm (s : State) (level : InputLevel) : (s.inputChange level).flm = s.flm := rfl
@[simp] theorem State.inputChange_cru (s : State) (level : InputLevel) : (s.inputChange level).cru = s.cru := rfl
@[simp] theorem State.inputChange_idr (s : State) (level : InputLevel) : (s.inputChange level).idr = s.idr := rfl
@[simp] theorem State.inputChange_cfl (s : State) (level : InputLevel) : (s.inputChange level).cfl = s.cfl := rfl
@[simp] theorem State.inputChange_snu (s : State) (level : InputLevel) : (s.inputChange level).snu = s.snu := rfl
@[simp] theorem State.inputChange_routed (s : State) (level : InputLevel) : (s.inputChange level).routed = s.routed := rfl
@[simp] theorem State.inputChange_supokHigh (s : State) (level : InputLevel) : (s.inputChange level).supokHigh = s.supokHigh :=
  rfl
@[simp] theorem State.inputChange_rstnHigh (s : State) (level : InputLevel) : (s.inputChange level).rstnHigh = s.rstnHigh := rfl
@[simp] theorem State.inputChange_now (s : State) (level : InputLevel) : (s.inputChange level).now = s.now := rfl
@[simp] theorem State.inputChange_freeIndex (s : State) (level : InputLevel) : (s.inputChange level).freeIndex = s.freeIndex :=
  rfl
@[simp] theorem State.inputChange_pending (s : State) (level : InputLevel) : (s.inputChange level).pending = s.pending := rfl

/-! ### scrollWindow -/
@[simp] theorem State.scrollWindow_lif (s : State) : (s.scrollWindow).lif = s.lif := by unfold State.scrollWindow; split <;> rfl
@[simp] theorem State.scrollWindow_ssv (s : State) : (s.scrollWindow).ssv = s.ssv := by unfold State.scrollWindow; split <;> rfl
@[simp] theorem State.scrollWindow_sfu (s : State) : (s.scrollWindow).sfu = s.sfu := by unfold State.scrollWindow; split <;> rfl
@[simp] theorem State.scrollWindow_sdm (s : State) : (s.scrollWindow).sdm = s.sdm := by unfold State.scrollWindow; split <;> rfl
@[simp] theorem State.scrollWindow_asu (s : State) : (s.scrollWindow).asu = s.asu := by unfold State.scrollWindow; split <;> rfl
@[simp] theorem State.scrollWindow_flm (s : State) : (s.scrollWindow).flm = s.flm := by unfold State.scrollWindow; split <;> rfl
@[simp] theorem State.scrollWindow_cru (s : State) : (s.scrollWindow).cru = s.cru := by unfold State.scrollWindow; split <;> rfl
@[simp] theorem State.scrollWindow_idr (s : State) : (s.scrollWindow).idr = s.idr := by unfold State.scrollWindow; split <;> rfl
@[simp] theorem State.scrollWindow_cfl (s : State) : (s.scrollWindow).cfl = s.cfl := by unfold State.scrollWindow; split <;> rfl
@[simp] theorem State.scrollWindow_snu (s : State) : (s.scrollWindow).snu = s.snu := by unfold State.scrollWindow; split <;> rfl
@[simp] theorem State.scrollWindow_routed (s : State) : (s.scrollWindow).routed = s.routed :=
  by unfold State.scrollWindow; split <;> rfl
@[simp] theorem State.scrollWindow_supokHigh (s : State) : (s.scrollWindow).supokHigh = s.supokHigh :=
  by unfold State.scrollWindow; split <;> rfl
@[simp] theorem State.scrollWindow_rstnHigh (s : State) : (s.scrollWindow).rstnHigh = s.rstnHigh :=
  by unfold State.scrollWindow; split <;> rfl
@[simp] theorem State.scrollWindow_now (s : State) : (s.scrollWindow).now = s.now := by unfold State.scrollWindow; split <;> rfl
@[simp] theorem State.scrollWindow_freeIndex (s : State) : (s.scrollWindow).freeIndex = s.freeIndex :=
  by unfold State.scrollWindow; split <;> rfl
@[simp] theorem State.scrollWindow_pending (s : State) : (s.scrollWindow).pending = s.pending :=
  by unfold State.scrollWindow; split <;> rfl

/-! ### scrollReturns -/
@[simp] theorem State.scrollReturns_lif (s : State) : (s.scrollReturns).lif = s.lif := rfl
@[simp] theorem State.scrollReturns_ssv (s : State) : (s.scrollReturns).ssv = s.ssv := rfl
@[simp] theorem State.scrollReturns_sfu (s : State) : (s.scrollReturns).sfu = s.sfu := rfl
@[simp] theorem State.scrollReturns_sdm (s : State) : (s.scrollReturns).sdm = s.sdm := rfl
@[simp] theorem State.scrollReturns_asu (s : State) : (s.scrollReturns).asu = s.asu := rfl
@[simp] theorem State.scrollReturns_flm (s : State) : (s.scrollReturns).flm = s.flm := rfl
@[simp] theorem State.scrollReturns_cru (s : State) : (s.scrollReturns).cru = s.cru := rfl
@[simp] theorem State.scrollReturns_idr (s : State) : (s.scrollReturns).idr = s.idr := rfl
@[simp] theorem State.scrollReturns_cfl (s : State) : (s.scrollReturns).cfl = s.cfl := rfl
@[simp] theorem State.scrollReturns_snu (s : State) : (s.scrollReturns).snu = s.snu := rfl
@[simp] theorem State.scrollReturns_routed (s : State) : (s.scrollReturns).routed = s.routed := rfl
@[simp] theorem State.scrollReturns_supokHigh (s : State) : (s.scrollReturns).supokHigh = s.supokHigh := rfl
@[simp] theorem State.scrollReturns_rstnHigh (s : State) : (s.scrollReturns).rstnHigh = s.rstnHigh := rfl
@[simp] theorem State.scrollReturns_now (s : State) : (s.scrollReturns).now = s.now := rfl
@[simp] theorem State.scrollReturns_freeIndex (s : State) : (s.scrollReturns).freeIndex = s.freeIndex := rfl
@[simp] theorem State.scrollReturns_pending (s : State) : (s.scrollReturns).pending = s.pending := rfl

/-! ### flmPress -/
@[simp] theorem State.flmPress_ssv (s : State) (origin : Nat) (code : FaultCode) : (s.flmPress origin code).ssv = s.ssv := by
  unfold State.flmPress
  split
  · rfl
  · split <;> simp
@[simp] theorem State.flmPress_sfu (s : State) (origin : Nat) (code : FaultCode) : (s.flmPress origin code).sfu = s.sfu := by
  unfold State.flmPress
  split
  · rfl
  · split <;> simp
@[simp] theorem State.flmPress_sdm (s : State) (origin : Nat) (code : FaultCode) : (s.flmPress origin code).sdm = s.sdm := by
  unfold State.flmPress
  split
  · rfl
  · split <;> simp
@[simp] theorem State.flmPress_asu (s : State) (origin : Nat) (code : FaultCode) : (s.flmPress origin code).asu = s.asu := by
  unfold State.flmPress
  split
  · rfl
  · split <;> simp
@[simp] theorem State.flmPress_cru (s : State) (origin : Nat) (code : FaultCode) : (s.flmPress origin code).cru = s.cru := by
  unfold State.flmPress
  split
  · rfl
  · split <;> simp
@[simp] theorem State.flmPress_cfl (s : State) (origin : Nat) (code : FaultCode) : (s.flmPress origin code).cfl = s.cfl := by
  unfold State.flmPress
  split
  · rfl
  · split <;> simp
@[simp] theorem State.flmPress_routed (s : State) (origin : Nat) (code : FaultCode) :
    (s.flmPress origin code).routed = s.routed := by
  unfold State.flmPress
  split
  · rfl
  · split <;> simp
@[simp] theorem State.flmPress_supokHigh (s : State) (origin : Nat) (code : FaultCode) :
    (s.flmPress origin code).supokHigh = s.supokHigh := by
  unfold State.flmPress
  split
  · rfl
  · split <;> simp
@[simp] theorem State.flmPress_rstnHigh (s : State) (origin : Nat) (code : FaultCode) :
    (s.flmPress origin code).rstnHigh = s.rstnHigh := by
  unfold State.flmPress
  split
  · rfl
  · split <;> simp
@[simp] theorem State.flmPress_now (s : State) (origin : Nat) (code : FaultCode) : (s.flmPress origin code).now = s.now := by
  unfold State.flmPress
  split
  · rfl
  · split <;> simp
@[simp] theorem State.flmPress_freeIndex (s : State) (origin : Nat) (code : FaultCode) :
    (s.flmPress origin code).freeIndex = s.freeIndex := by
  unfold State.flmPress
  split
  · rfl
  · split <;> simp
@[simp] theorem State.flmPress_pending (s : State) (origin : Nat) (code : FaultCode) :
    (s.flmPress origin code).pending = s.pending := by
  unfold State.flmPress
  split
  · rfl
  · split <;> simp

/-! ### receivePress -/
@[simp] theorem State.receivePress_ssv (s : State) (r : PressRoute) : (s.receivePress r).ssv = s.ssv :=
  by cases r <;> simp [State.receivePress]
@[simp] theorem State.receivePress_sfu (s : State) (r : PressRoute) : (s.receivePress r).sfu = s.sfu :=
  by cases r <;> simp [State.receivePress]
@[simp] theorem State.receivePress_sdm (s : State) (r : PressRoute) : (s.receivePress r).sdm = s.sdm :=
  by cases r <;> simp [State.receivePress]
@[simp] theorem State.receivePress_cru (s : State) (r : PressRoute) : (s.receivePress r).cru = s.cru :=
  by cases r <;> simp [State.receivePress]
@[simp] theorem State.receivePress_cfl (s : State) (r : PressRoute) : (s.receivePress r).cfl = s.cfl :=
  by cases r <;> simp [State.receivePress]
@[simp] theorem State.receivePress_routed (s : State) (r : PressRoute) : (s.receivePress r).routed = s.routed :=
  by cases r <;> simp [State.receivePress]
@[simp] theorem State.receivePress_supokHigh (s : State) (r : PressRoute) : (s.receivePress r).supokHigh = s.supokHigh :=
  by cases r <;> simp [State.receivePress]
@[simp] theorem State.receivePress_rstnHigh (s : State) (r : PressRoute) : (s.receivePress r).rstnHigh = s.rstnHigh :=
  by cases r <;> simp [State.receivePress]
@[simp] theorem State.receivePress_now (s : State) (r : PressRoute) : (s.receivePress r).now = s.now :=
  by cases r <;> simp [State.receivePress]
@[simp] theorem State.receivePress_freeIndex (s : State) (r : PressRoute) : (s.receivePress r).freeIndex = s.freeIndex :=
  by cases r <;> simp [State.receivePress]
@[simp] theorem State.receivePress_pending (s : State) (r : PressRoute) : (s.receivePress r).pending = s.pending :=
  by cases r <;> simp [State.receivePress]

/-! ### takeRoutedPress -/
@[simp] theorem State.takeRoutedPress_ssv (s : State) : (s.takeRoutedPress).ssv = s.ssv :=
  by unfold State.takeRoutedPress; split <;> simp
@[simp] theorem State.takeRoutedPress_sfu (s : State) : (s.takeRoutedPress).sfu = s.sfu :=
  by unfold State.takeRoutedPress; split <;> simp
@[simp] theorem State.takeRoutedPress_sdm (s : State) : (s.takeRoutedPress).sdm = s.sdm :=
  by unfold State.takeRoutedPress; split <;> simp
@[simp] theorem State.takeRoutedPress_cru (s : State) : (s.takeRoutedPress).cru = s.cru :=
  by unfold State.takeRoutedPress; split <;> simp
@[simp] theorem State.takeRoutedPress_cfl (s : State) : (s.takeRoutedPress).cfl = s.cfl :=
  by unfold State.takeRoutedPress; split <;> simp
@[simp] theorem State.takeRoutedPress_supokHigh (s : State) : (s.takeRoutedPress).supokHigh = s.supokHigh :=
  by unfold State.takeRoutedPress; split <;> simp
@[simp] theorem State.takeRoutedPress_rstnHigh (s : State) : (s.takeRoutedPress).rstnHigh = s.rstnHigh :=
  by unfold State.takeRoutedPress; split <;> simp
@[simp] theorem State.takeRoutedPress_now (s : State) : (s.takeRoutedPress).now = s.now :=
  by unfold State.takeRoutedPress; split <;> simp
@[simp] theorem State.takeRoutedPress_freeIndex (s : State) : (s.takeRoutedPress).freeIndex = s.freeIndex :=
  by unfold State.takeRoutedPress; split <;> simp
@[simp] theorem State.takeRoutedPress_pending (s : State) : (s.takeRoutedPress).pending = s.pending :=
  by unfold State.takeRoutedPress; split <;> simp

/-! ### routeAckPress -/
@[simp] theorem State.routeAckPress_ssv (s : State) : (s.routeAckPress).ssv = s.ssv := by
  unfold State.routeAckPress
  dsimp only
  repeat' split
  all_goals simp
@[simp] theorem State.routeAckPress_sfu (s : State) : (s.routeAckPress).sfu = s.sfu := by
  unfold State.routeAckPress
  dsimp only
  repeat' split
  all_goals simp
@[simp] theorem State.routeAckPress_sdm (s : State) : (s.routeAckPress).sdm = s.sdm := by
  unfold State.routeAckPress
  dsimp only
  repeat' split
  all_goals simp
@[simp] theorem State.routeAckPress_cru (s : State) : (s.routeAckPress).cru = s.cru := by
  unfold State.routeAckPress
  dsimp only
  repeat' split
  all_goals simp
@[simp] theorem State.routeAckPress_cfl (s : State) : (s.routeAckPress).cfl = s.cfl := by
  unfold State.routeAckPress
  dsimp only
  repeat' split
  all_goals simp
@[simp] theorem State.routeAckPress_supokHigh (s : State) : (s.routeAckPress).supokHigh = s.supokHigh := by
  unfold State.routeAckPress
  dsimp only
  repeat' split
  all_goals simp
@[simp] theorem State.routeAckPress_rstnHigh (s : State) : (s.routeAckPress).rstnHigh = s.rstnHigh := by
  unfold State.routeAckPress
  dsimp only
  repeat' split
  all_goals simp
@[simp] theorem State.routeAckPress_now (s : State) : (s.routeAckPress).now = s.now := by
  unfold State.routeAckPress
  dsimp only
  repeat' split
  all_goals simp
@[simp] theorem State.routeAckPress_freeIndex (s : State) : (s.routeAckPress).freeIndex = s.freeIndex := by
  unfold State.routeAckPress
  dsimp only
  repeat' split
  all_goals simp
@[simp] theorem State.routeAckPress_pending (s : State) : (s.routeAckPress).pending = s.pending := by
  unfold State.routeAckPress
  dsimp only
  repeat' split
  all_goals simp

/-! ### takeAckPress -/
@[simp] theorem State.takeAckPress_ssv (s : State) : (s.takeAckPress).ssv = s.ssv := by simp [State.takeAckPress]
@[simp] theorem State.takeAckPress_sfu (s : State) : (s.takeAckPress).sfu = s.sfu := by simp [State.takeAckPress]
@[simp] theorem State.takeAckPress_sdm (s : State) : (s.takeAckPress).sdm = s.sdm := by simp [State.takeAckPress]
@[simp] theorem State.takeAckPress_cru (s : State) : (s.takeAckPress).cru = s.cru := by simp [State.takeAckPress]
@[simp] theorem State.takeAckPress_cfl (s : State) : (s.takeAckPress).cfl = s.cfl := by simp [State.takeAckPress]
@[simp] theorem State.takeAckPress_supokHigh (s : State) : (s.takeAckPress).supokHigh = s.supokHigh :=
  by simp [State.takeAckPress]
@[simp] theorem State.takeAckPress_rstnHigh (s : State) : (s.takeAckPress).rstnHigh = s.rstnHigh := by simp [State.takeAckPress]
@[simp] theorem State.takeAckPress_now (s : State) : (s.takeAckPress).now = s.now := by simp [State.takeAckPress]
@[simp] theorem State.takeAckPress_freeIndex (s : State) : (s.takeAckPress).freeIndex = s.freeIndex :=
  by simp [State.takeAckPress]
@[simp] theorem State.takeAckPress_pending (s : State) : (s.takeAckPress).pending = s.pending := by simp [State.takeAckPress]

/-! ### takeScrollPress -/
@[simp] theorem State.takeScrollPress_lif (s : State) : (s.takeScrollPress).lif = s.lif :=
  by unfold State.takeScrollPress; dsimp only; split <;> simp
@[simp] theorem State.takeScrollPress_ssv (s : State) : (s.takeScrollPress).ssv = s.ssv :=
  by unfold State.takeScrollPress; dsimp only; split <;> simp
@[simp] theorem State.takeScrollPress_sfu (s : State) : (s.takeScrollPress).sfu = s.sfu :=
  by unfold State.takeScrollPress; dsimp only; split <;> simp
@[simp] theorem State.takeScrollPress_sdm (s : State) : (s.takeScrollPress).sdm = s.sdm :=
  by unfold State.takeScrollPress; dsimp only; split <;> simp
@[simp] theorem State.takeScrollPress_asu (s : State) : (s.takeScrollPress).asu = s.asu :=
  by unfold State.takeScrollPress; dsimp only; split <;> simp
@[simp] theorem State.takeScrollPress_flm (s : State) : (s.takeScrollPress).flm = s.flm :=
  by unfold State.takeScrollPress; dsimp only; split <;> simp
@[simp] theorem State.takeScrollPress_cru (s : State) : (s.takeScrollPress).cru = s.cru :=
  by unfold State.takeScrollPress; dsimp only; split <;> simp
@[simp] theorem State.takeScrollPress_idr (s : State) : (s.takeScrollPress).idr = s.idr :=
  by unfold State.takeScrollPress; dsimp only; split <;> simp
@[simp] theorem State.takeScrollPress_cfl (s : State) : (s.takeScrollPress).cfl = s.cfl :=
  by unfold State.takeScrollPress; dsimp only; split <;> simp
@[simp] theorem State.takeScrollPress_snu (s : State) : (s.takeScrollPress).snu = s.snu :=
  by unfold State.takeScrollPress; dsimp only; split <;> simp
@[simp] theorem State.takeScrollPress_routed (s : State) : (s.takeScrollPress).routed = s.routed :=
  by unfold State.takeScrollPress; dsimp only; split <;> simp
@[simp] theorem State.takeScrollPress_supokHigh (s : State) : (s.takeScrollPress).supokHigh = s.supokHigh :=
  by unfold State.takeScrollPress; dsimp only; split <;> simp
@[simp] theorem State.takeScrollPress_rstnHigh (s : State) : (s.takeScrollPress).rstnHigh = s.rstnHigh :=
  by unfold State.takeScrollPress; dsimp only; split <;> simp
@[simp] theorem State.takeScrollPress_now (s : State) : (s.takeScrollPress).now = s.now :=
  by unfold State.takeScrollPress; dsimp only; split <;> simp
@[simp] theorem State.takeScrollPress_freeIndex (s : State) : (s.takeScrollPress).freeIndex = s.freeIndex :=
  by unfold State.takeScrollPress; dsimp only; split <;> simp
@[simp] theorem State.takeScrollPress_pending (s : State) : (s.takeScrollPress).pending = s.pending :=
  by unfold State.takeScrollPress; dsimp only; split <;> simp

/-! ### takeTest -/
@[simp] theorem State.takeTest_lif (s : State) : (s.takeTest).lif = s.lif := rfl
@[simp] theorem State.takeTest_ssv (s : State) : (s.takeTest).ssv = s.ssv := rfl
@[simp] theorem State.takeTest_sfu (s : State) : (s.takeTest).sfu = s.sfu := rfl
@[simp] theorem State.takeTest_sdm (s : State) : (s.takeTest).sdm = s.sdm := rfl
@[simp] theorem State.takeTest_asu (s : State) : (s.takeTest).asu = s.asu := rfl
@[simp] theorem State.takeTest_flm (s : State) : (s.takeTest).flm = s.flm := rfl
@[simp] theorem State.takeTest_cru (s : State) : (s.takeTest).cru = s.cru := rfl
@[simp] theorem State.takeTest_idr (s : State) : (s.takeTest).idr = s.idr := rfl
@[simp] theorem State.takeTest_cfl (s : State) : (s.takeTest).cfl = s.cfl := rfl
@[simp] theorem State.takeTest_snu (s : State) : (s.takeTest).snu = s.snu := rfl
@[simp] theorem State.takeTest_routed (s : State) : (s.takeTest).routed = s.routed := rfl
@[simp] theorem State.takeTest_supokHigh (s : State) : (s.takeTest).supokHigh = s.supokHigh := rfl
@[simp] theorem State.takeTest_rstnHigh (s : State) : (s.takeTest).rstnHigh = s.rstnHigh := rfl
@[simp] theorem State.takeTest_now (s : State) : (s.takeTest).now = s.now := rfl
@[simp] theorem State.takeTest_freeIndex (s : State) : (s.takeTest).freeIndex = s.freeIndex := rfl
@[simp] theorem State.takeTest_pending (s : State) : (s.takeTest).pending = s.pending := rfl

/-! ### takeKey -/
@[simp] theorem State.takeKey_ssv (s : State) : (s.takeKey).ssv = s.ssv := by unfold State.takeKey; dsimp only; split <;> simp
@[simp] theorem State.takeKey_sfu (s : State) : (s.takeKey).sfu = s.sfu := by unfold State.takeKey; dsimp only; split <;> simp
@[simp] theorem State.takeKey_sdm (s : State) : (s.takeKey).sdm = s.sdm := by unfold State.takeKey; dsimp only; split <;> simp
@[simp] theorem State.takeKey_cfl (s : State) : (s.takeKey).cfl = s.cfl := by unfold State.takeKey; dsimp only; split <;> simp
@[simp] theorem State.takeKey_routed (s : State) : (s.takeKey).routed = s.routed :=
  by unfold State.takeKey; dsimp only; split <;> simp
@[simp] theorem State.takeKey_supokHigh (s : State) : (s.takeKey).supokHigh = s.supokHigh :=
  by unfold State.takeKey; dsimp only; split <;> simp
@[simp] theorem State.takeKey_rstnHigh (s : State) : (s.takeKey).rstnHigh = s.rstnHigh :=
  by unfold State.takeKey; dsimp only; split <;> simp
@[simp] theorem State.takeKey_now (s : State) : (s.takeKey).now = s.now := by unfold State.takeKey; dsimp only; split <;> simp
@[simp] theorem State.takeKey_pending (s : State) : (s.takeKey).pending = s.pending :=
  by unfold State.takeKey; dsimp only; split <;> simp

/-! ### takeDimmer -/
@[simp] theorem State.takeDimmer_lif (s : State) : (s.takeDimmer).lif = s.lif := rfl
@[simp] theorem State.takeDimmer_ssv (s : State) : (s.takeDimmer).ssv = s.ssv := rfl
@[simp] theorem State.takeDimmer_sfu (s : State) : (s.takeDimmer).sfu = s.sfu := rfl
@[simp] theorem State.takeDimmer_sdm (s : State) : (s.takeDimmer).sdm = s.sdm := rfl
@[simp] theorem State.takeDimmer_asu (s : State) : (s.takeDimmer).asu = s.asu := rfl
@[simp] theorem State.takeDimmer_flm (s : State) : (s.takeDimmer).flm = s.flm := rfl
@[simp] theorem State.takeDimmer_cru (s : State) : (s.takeDimmer).cru = s.cru := rfl
@[simp] theorem State.takeDimmer_cfl (s : State) : (s.takeDimmer).cfl = s.cfl := rfl
@[simp] theorem State.takeDimmer_snu (s : State) : (s.takeDimmer).snu = s.snu := rfl
@[simp] theorem State.takeDimmer_routed (s : State) : (s.takeDimmer).routed = s.routed := rfl
@[simp] theorem State.takeDimmer_supokHigh (s : State) : (s.takeDimmer).supokHigh = s.supokHigh := rfl
@[simp] theorem State.takeDimmer_rstnHigh (s : State) : (s.takeDimmer).rstnHigh = s.rstnHigh := rfl
@[simp] theorem State.takeDimmer_now (s : State) : (s.takeDimmer).now = s.now := rfl
@[simp] theorem State.takeDimmer_freeIndex (s : State) : (s.takeDimmer).freeIndex = s.freeIndex := rfl
@[simp] theorem State.takeDimmer_pending (s : State) : (s.takeDimmer).pending = s.pending := rfl

/-! ### handIf -/
@[simp] theorem State.handIf_ssv (s : State) (b : Bool) (content : TxContent) : (s.handIf b content).ssv = s.ssv :=
  by unfold State.handIf; split <;> simp
@[simp] theorem State.handIf_sfu (s : State) (b : Bool) (content : TxContent) : (s.handIf b content).sfu = s.sfu :=
  by unfold State.handIf; split <;> simp
@[simp] theorem State.handIf_sdm (s : State) (b : Bool) (content : TxContent) : (s.handIf b content).sdm = s.sdm :=
  by unfold State.handIf; split <;> simp
@[simp] theorem State.handIf_asu (s : State) (b : Bool) (content : TxContent) : (s.handIf b content).asu = s.asu :=
  by unfold State.handIf; split <;> simp
@[simp] theorem State.handIf_cru (s : State) (b : Bool) (content : TxContent) : (s.handIf b content).cru = s.cru :=
  by unfold State.handIf; split <;> simp
@[simp] theorem State.handIf_cfl (s : State) (b : Bool) (content : TxContent) : (s.handIf b content).cfl = s.cfl :=
  by unfold State.handIf; split <;> simp
@[simp] theorem State.handIf_routed (s : State) (b : Bool) (content : TxContent) : (s.handIf b content).routed = s.routed :=
  by unfold State.handIf; split <;> simp
@[simp] theorem State.handIf_supokHigh (s : State) (b : Bool) (content : TxContent) :
    (s.handIf b content).supokHigh = s.supokHigh := by unfold State.handIf; split <;> simp
@[simp] theorem State.handIf_rstnHigh (s : State) (b : Bool) (content : TxContent) :
    (s.handIf b content).rstnHigh = s.rstnHigh := by unfold State.handIf; split <;> simp
@[simp] theorem State.handIf_now (s : State) (b : Bool) (content : TxContent) : (s.handIf b content).now = s.now :=
  by unfold State.handIf; split <;> simp
@[simp] theorem State.handIf_freeIndex (s : State) (b : Bool) (content : TxContent) :
    (s.handIf b content).freeIndex = s.freeIndex := by unfold State.handIf; split <;> simp
@[simp] theorem State.handIf_pending (s : State) (b : Bool) (content : TxContent) : (s.handIf b content).pending = s.pending :=
  by unfold State.handIf; split <;> simp

/-! ### latchSnapshot -/
@[simp] theorem State.latchSnapshot_ssv (s : State) (requester : Nat) (parts : SnapParts) :
    (s.latchSnapshot requester parts).ssv = s.ssv := by simp [State.latchSnapshot]
@[simp] theorem State.latchSnapshot_sfu (s : State) (requester : Nat) (parts : SnapParts) :
    (s.latchSnapshot requester parts).sfu = s.sfu := by simp [State.latchSnapshot]
@[simp] theorem State.latchSnapshot_sdm (s : State) (requester : Nat) (parts : SnapParts) :
    (s.latchSnapshot requester parts).sdm = s.sdm := by simp [State.latchSnapshot]
@[simp] theorem State.latchSnapshot_asu (s : State) (requester : Nat) (parts : SnapParts) :
    (s.latchSnapshot requester parts).asu = s.asu := by simp [State.latchSnapshot]
@[simp] theorem State.latchSnapshot_cru (s : State) (requester : Nat) (parts : SnapParts) :
    (s.latchSnapshot requester parts).cru = s.cru := by simp [State.latchSnapshot]
@[simp] theorem State.latchSnapshot_cfl (s : State) (requester : Nat) (parts : SnapParts) :
    (s.latchSnapshot requester parts).cfl = s.cfl := by simp [State.latchSnapshot]
@[simp] theorem State.latchSnapshot_routed (s : State) (requester : Nat) (parts : SnapParts) :
    (s.latchSnapshot requester parts).routed = s.routed := by simp [State.latchSnapshot]
@[simp] theorem State.latchSnapshot_supokHigh (s : State) (requester : Nat) (parts : SnapParts) :
    (s.latchSnapshot requester parts).supokHigh = s.supokHigh := by simp [State.latchSnapshot]
@[simp] theorem State.latchSnapshot_rstnHigh (s : State) (requester : Nat) (parts : SnapParts) :
    (s.latchSnapshot requester parts).rstnHigh = s.rstnHigh := by simp [State.latchSnapshot]
@[simp] theorem State.latchSnapshot_now (s : State) (requester : Nat) (parts : SnapParts) :
    (s.latchSnapshot requester parts).now = s.now := by simp [State.latchSnapshot]
@[simp] theorem State.latchSnapshot_freeIndex (s : State) (requester : Nat) (parts : SnapParts) :
    (s.latchSnapshot requester parts).freeIndex = s.freeIndex := by simp [State.latchSnapshot]
@[simp] theorem State.latchSnapshot_pending (s : State) (requester : Nat) (parts : SnapParts) :
    (s.latchSnapshot requester parts).pending = s.pending := by simp [State.latchSnapshot]

/-! ### snuRequest -/
@[simp] theorem State.snuRequest_ssv (s : State) (f : Frame) : (s.snuRequest f).ssv = s.ssv :=
  by unfold State.snuRequest; split <;> simp
@[simp] theorem State.snuRequest_sfu (s : State) (f : Frame) : (s.snuRequest f).sfu = s.sfu :=
  by unfold State.snuRequest; split <;> simp
@[simp] theorem State.snuRequest_sdm (s : State) (f : Frame) : (s.snuRequest f).sdm = s.sdm :=
  by unfold State.snuRequest; split <;> simp
@[simp] theorem State.snuRequest_asu (s : State) (f : Frame) : (s.snuRequest f).asu = s.asu :=
  by unfold State.snuRequest; split <;> simp
@[simp] theorem State.snuRequest_cru (s : State) (f : Frame) : (s.snuRequest f).cru = s.cru :=
  by unfold State.snuRequest; split <;> simp
@[simp] theorem State.snuRequest_cfl (s : State) (f : Frame) : (s.snuRequest f).cfl = s.cfl :=
  by unfold State.snuRequest; split <;> simp
@[simp] theorem State.snuRequest_routed (s : State) (f : Frame) : (s.snuRequest f).routed = s.routed :=
  by unfold State.snuRequest; split <;> simp
@[simp] theorem State.snuRequest_supokHigh (s : State) (f : Frame) : (s.snuRequest f).supokHigh = s.supokHigh :=
  by unfold State.snuRequest; split <;> simp
@[simp] theorem State.snuRequest_rstnHigh (s : State) (f : Frame) : (s.snuRequest f).rstnHigh = s.rstnHigh :=
  by unfold State.snuRequest; split <;> simp
@[simp] theorem State.snuRequest_now (s : State) (f : Frame) : (s.snuRequest f).now = s.now :=
  by unfold State.snuRequest; split <;> simp
@[simp] theorem State.snuRequest_freeIndex (s : State) (f : Frame) : (s.snuRequest f).freeIndex = s.freeIndex :=
  by unfold State.snuRequest; split <;> simp
@[simp] theorem State.snuRequest_pending (s : State) (f : Frame) : (s.snuRequest f).pending = s.pending :=
  by unfold State.snuRequest; split <;> simp

/-! ### turnFlash -/
@[simp] theorem State.turnFlash_lif (s : State) (g : Generator) : (s.turnFlash g).lif = s.lif := by cases g <;> rfl
@[simp] theorem State.turnFlash_ssv (s : State) (g : Generator) : (s.turnFlash g).ssv = s.ssv := by cases g <;> rfl
@[simp] theorem State.turnFlash_sfu (s : State) (g : Generator) : (s.turnFlash g).sfu = s.sfu := by cases g <;> rfl
@[simp] theorem State.turnFlash_sdm (s : State) (g : Generator) : (s.turnFlash g).sdm = s.sdm := by cases g <;> rfl
@[simp] theorem State.turnFlash_asu (s : State) (g : Generator) : (s.turnFlash g).asu = s.asu := by cases g <;> rfl
@[simp] theorem State.turnFlash_flm (s : State) (g : Generator) : (s.turnFlash g).flm = s.flm := by cases g <;> rfl
@[simp] theorem State.turnFlash_cru (s : State) (g : Generator) : (s.turnFlash g).cru = s.cru := by cases g <;> rfl
@[simp] theorem State.turnFlash_diu (s : State) (g : Generator) : (s.turnFlash g).diu = s.diu := by cases g <;> rfl
@[simp] theorem State.turnFlash_cfl (s : State) (g : Generator) : (s.turnFlash g).cfl = s.cfl := by cases g <;> rfl
@[simp] theorem State.turnFlash_snu (s : State) (g : Generator) : (s.turnFlash g).snu = s.snu := by cases g <;> rfl
@[simp] theorem State.turnFlash_routed (s : State) (g : Generator) : (s.turnFlash g).routed = s.routed := by cases g <;> rfl
@[simp] theorem State.turnFlash_supokHigh (s : State) (g : Generator) : (s.turnFlash g).supokHigh = s.supokHigh :=
  by cases g <;> rfl
@[simp] theorem State.turnFlash_rstnHigh (s : State) (g : Generator) : (s.turnFlash g).rstnHigh = s.rstnHigh :=
  by cases g <;> rfl
@[simp] theorem State.turnFlash_now (s : State) (g : Generator) : (s.turnFlash g).now = s.now := by cases g <;> rfl
@[simp] theorem State.turnFlash_freeIndex (s : State) (g : Generator) : (s.turnFlash g).freeIndex = s.freeIndex :=
  by cases g <;> rfl
@[simp] theorem State.turnFlash_pending (s : State) (g : Generator) : (s.turnFlash g).pending = s.pending := by cases g <;> rfl


end Sys2Proof.Machine
end

