-- ==== Sys2Proof/Laws/FaultList.lean ====
section
/-! SUPPORT. What the orders of the model do: the display order of the Fault List, the order of the speeds; and what finding and
creating a record can give. -/

namespace Sys2Proof.Machine

open Sys2Proof

/-! ### The display order (R90) -/

theorem displayLe_refl (a : FaultRecord) : displayLe a a = true := by simp [displayLe]

theorem displayLe_total (a b : FaultRecord) : displayLe a b = true ∨ displayLe b a = true := by
  simp only [displayLe, Bool.or_eq_true, Bool.and_eq_true, decide_eq_true_eq, beq_iff_eq]; omega

theorem displayLe_trans {a b c : FaultRecord} (h : displayLe a b = true) (k : displayLe b c = true) : displayLe a c = true := by
  simp only [displayLe, Bool.or_eq_true, Bool.and_eq_true, decide_eq_true_eq, beq_iff_eq] at *; omega

theorem placeRecord_perm (r : FaultRecord) (l : List FaultRecord) : (placeRecord r l).Perm (r :: l) := by
  induction l with
  | nil => exact .refl _
  | cons q rest ih =>
    simp only [placeRecord]
    split
    · exact .refl _
    · exact (ih.cons q).trans (.swap r q rest)

theorem inDisplayOrder_perm (l : List FaultRecord) : (inDisplayOrder l).Perm l := by
  induction l with
  | nil => exact .refl _
  | cons r rest ih => exact (placeRecord_perm r _).trans (ih.cons r)

theorem placeRecord_pairwise (r : FaultRecord) {l : List FaultRecord} (h : l.Pairwise (fun a b => displayLe a b = true)) :
    (placeRecord r l).Pairwise (fun a b => displayLe a b = true) := by
  induction l with
  | nil => simp [placeRecord]
  | cons q rest ih =>
    obtain ⟨hq, hr⟩ := List.pairwise_cons.1 h
    simp only [placeRecord]
    split
    · rename_i hrq
      refine List.pairwise_cons.2 ⟨fun b hb => ?_, h⟩
      cases List.mem_cons.1 hb with
      | inl e => exact e ▸ hrq
      | inr m => exact displayLe_trans hrq (hq b m)
    · rename_i hrq
      refine List.pairwise_cons.2 ⟨fun b hb => ?_, ih hr⟩
      cases List.mem_cons.1 ((placeRecord_perm r rest).mem_iff.1 hb) with
      | inl e => exact e ▸ (displayLe_total q r).resolve_right hrq
      | inr m => exact hq b m

theorem inDisplayOrder_pairwise (l : List FaultRecord) :
    (inDisplayOrder l).Pairwise (fun a b => displayLe a b = true) := by
  induction l with
  | nil => exact .nil
  | cons r rest ih => exact placeRecord_pairwise r ih

@[simp] theorem mem_inDisplayOrder {r : FaultRecord} {l : List FaultRecord} : r ∈ inDisplayOrder l ↔ r ∈ l :=
  (inDisplayOrder_perm l).mem_iff

@[simp] theorem length_inDisplayOrder (l : List FaultRecord) : (inDisplayOrder l).length = l.length :=
  (inDisplayOrder_perm l).length_eq

/-! ### The ascending order of the speeds (R31) -/

theorem placeNat_perm (v : Nat) (l : List Nat) : (placeNat v l).Perm (v :: l) := by
  induction l with
  | nil => exact .refl _
  | cons w rest ih =>
    simp only [placeNat]
    split
    · exact .refl _
    · exact (ih.cons w).trans (.swap v w rest)

theorem placeNat_pairwise (v : Nat) {l : List Nat} (h : l.Pairwise (· ≤ ·)) : (placeNat v l).Pairwise (· ≤ ·) := by
  induction l with
  | nil => simp [placeNat]
  | cons w rest ih =>
    obtain ⟨hw, hr⟩ := List.pairwise_cons.1 h
    simp only [placeNat]
    split
    · rename_i hvw
      refine List.pairwise_cons.2 ⟨fun b hb => ?_, h⟩
      cases List.mem_cons.1 hb with
      | inl e => exact e ▸ hvw
      | inr m => exact Nat.le_trans hvw (hw b m)
    · rename_i hvw
      refine List.pairwise_cons.2 ⟨fun b hb => ?_, ih hr⟩
      cases List.mem_cons.1 ((placeNat_perm v rest).mem_iff.1 hb) with
      | inl e => exact e ▸ Nat.le_of_lt (Nat.lt_of_not_le hvw)
      | inr m => exact hw b m

/-! ### Finding a record (R89) -/

theorem Flm.find_some {f : Flm} {origin : Nat} {code : FaultCode} {r : FaultRecord} (h : f.find origin code = some r) :
    r ∈ f.records ∧ r.origin = origin ∧ r.code = code := by
  refine ⟨List.mem_of_find?_eq_some h, ?_⟩
  simpa [FaultRecord.is] using List.find?_some h

theorem Flm.find_none {f : Flm} {origin : Nat} {code : FaultCode} :
    f.find origin code = none ↔ ∀ r ∈ f.records, r.is origin code = false := by
  simp [Flm.find]

/-! ### Creating a record (R91, R104) -/

/-- What a record that takes the next stamp makes of the list. -/
theorem Flm.add_cases (f : Flm) (r : FaultRecord) :
    (f.counter < 65535 ∧ f.add r = { f with
      records := inDisplayOrder ({ r with stamp := f.counter } :: f.records), counter := f.counter + 1 }) ∨
    (65535 ≤ f.counter ∧ f.add r = { f with
      records := inDisplayOrder (renumber ({ r with stamp := f.counter } :: f.records)), counter := f.records.length + 1 }) := by
  by_cases h : f.counter < 65535
  · exact .inl ⟨h, by simp [Flm.add, h]⟩
  · exact .inr ⟨by omega, by simp [Flm.add, h]⟩

/-- Room, refusal, or eviction. -/
theorem Flm.create_cases (f : Flm) (r : FaultRecord) :
    (f.records.length < capacity ∧ f.create r = f.add r) ∨
    (capacity ≤ f.records.length ∧ f.victim r.cls = none ∧ f.create r = { f with overflow := true }) ∨
    (∃ v, capacity ≤ f.records.length ∧ f.victim r.cls = some v ∧
      f.create r = ({ f.withRemaining (f.records.filter (fun q => q != v)) with overflow := true } : Flm).add r) := by
  by_cases h : f.records.length < capacity
  · exact .inl ⟨h, by simp [Flm.create, h]⟩
  · cases hv : f.victim r.cls with
    | none => exact .inr (.inl ⟨by omega, rfl, by simp [Flm.create, h, hv]⟩)
    | some v => exact .inr (.inr ⟨v, by omega, rfl, by simp [Flm.create, h, hv]⟩)

theorem firstEvicted_mem {l : List FaultRecord} {v : FaultRecord} (h : firstEvicted l = some v) : v ∈ l := by
  induction l generalizing v with
  | nil => cases h
  | cons r rest ih =>
    simp only [firstEvicted] at h
    split at h
    · cases h; exact List.mem_cons_self
    · rename_i best hb
      split at h
      · cases h; exact List.mem_cons_of_mem _ (ih hb)
      · cases h; exact List.mem_cons_self

/-- A victim stands in the list and is of a less severe class than the newcomer (R104). -/
theorem Flm.victim_some {f : Flm} {cls : FaultClass} {v : FaultRecord} (h : f.victim cls = some v) :
    v ∈ f.records ∧ cls.num < v.cls.num := by
  simpa using firstEvicted_mem h

/-- There is a victim unless no record is of a less severe class (R104). -/
theorem Flm.victim_none {f : Flm} {cls : FaultClass} : f.victim cls = none ↔ ∀ q ∈ f.records, q.cls.num ≤ cls.num := by
  have nil_iff : ∀ l : List FaultRecord, firstEvicted l = none ↔ l = [] := by
    intro l
    cases l with
    | nil => simp [firstEvicted]
    | cons r rest => simp only [firstEvicted]; split <;> (try split) <;> simp
  simp [Flm.victim, nil_iff, List.filter_eq_nil_iff]

/-! ### What the end of an event leaves (R106, R108, R109, R111, R112) -/

theorem State.flmEvent_flm (s : State) (r : FlmResult) :
    (s.flmEvent r).flm = r.flm.settleOverflow.runReminder (some (s.now + ms (1000 * s.cfg.reminderS))) := rfl

@[simp] theorem Flm.settleOverflow_records (f : Flm) : f.settleOverflow.records = f.records := rfl
@[simp] theorem Flm.settleOverflow_counter (f : Flm) : f.settleOverflow.counter = f.counter := rfl
@[simp] theorem Flm.settleOverflow_reminderAt (f : Flm) : f.settleOverflow.reminderAt = f.reminderAt := rfl
@[simp] theorem Flm.runReminder_records (f : Flm) (t : Option Time) : (f.runReminder t).records = f.records := rfl
@[simp] theorem Flm.runReminder_counter (f : Flm) (t : Option Time) : (f.runReminder t).counter = f.counter := rfl
@[simp] theorem Flm.runReminder_overflow (f : Flm) (t : Option Time) : (f.runReminder t).overflow = f.overflow := rfl

@[simp] theorem State.flmEvent_records (s : State) (r : FlmResult) : (s.flmEvent r).flm.records = r.flm.records := rfl
@[simp] theorem State.flmEvent_counter (s : State) (r : FlmResult) : (s.flmEvent r).flm.counter = r.flm.counter := rfl
@[simp] theorem State.flmEvent_overflow (s : State) (r : FlmResult) :
    (s.flmEvent r).flm.overflow = (r.flm.overflow && decide (overflowClearLevel < r.flm.records.length)) := rfl
@[simp] theorem State.flmEvent_diu_eq (s : State) (r : FlmResult) :
    (s.flmEvent r).diu = windowKept (s.flmEvent r).flm s.diu := rfl

/-- FAULT_STOP by the list that the event leaves, then FAULT_ACTION where the event causes it (R109, R110). -/
theorem State.flmEvent_arbiter (s : State) (r : FlmResult) :
    (s.flmEvent r).idr.arbiter =
      (let held := (s.idr.arbiter.hold .faultStop r.flm.stopSounds).rechoose s.eligible s.now
       if r.action then held.issue s.eligible s.now .faultAction else held) := rfl

/-- The reminder timer after an event (R111): left running, started, or stopped. -/
theorem State.flmEvent_reminderAt (s : State) (r : FlmResult) :
    (s.flmEvent r).flm.reminderAt =
      if r.flm.reminds then r.flm.reminderAt.or (some (s.now + ms (1000 * s.cfg.reminderS))) else none := by
  show (if r.flm.reminds then _ else none) = _
  cases h : r.flm.reminderAt <;> simp [Flm.settleOverflow, h]

/-- A window position stays, or its record has left the list and it is TOP with its timer stopped (R142). -/
theorem windowKept_cases (f : Flm) (d : Diu) :
    windowKept f d = d ∨
    (∃ n, d.window = some n ∧ f.find n.origin n.code = none ∧ windowKept f d = { d with window := none, scrollAt := none }) := by
  unfold windowKept
  split
  · exact .inl rfl
  · rename_i n hn
    split
    · exact .inl rfl
    · rename_i h; exact .inr ⟨n, hn, by simpa using h, rfl⟩

end Sys2Proof.Machine
end

