-- ==== Sys2Proof/Laws/Operations.lean ====
section
/-! SUPPORT. What the operations of the load, of the line driver, of a routed press and of the DESK period can do. -/

namespace Sys2Proof

open Sys2Proof.Machine

/-! ## The load (R181) -/

/-- A transaction in which every part is acknowledged runs through all parts and then through `rest`. -/
theorem untilUnacknowledged_of_all (rest : List BusStep) (parts : List (List BusStep × Bool)) (h : ∀ p ∈ parts, p.2 = true) :
    untilUnacknowledged rest parts = parts.flatMap (·.1) ++ rest := by
  induction parts with
  | nil => rfl
  | cons p parts ih =>
    obtain ⟨steps, ack⟩ := p
    have hp : ack = true := h (steps, ack) (by simp)
    simp [untilUnacknowledged, hp, ih (fun q hq => h q (by simp [hq]))]

/-- A memory that acknowledges everything gives the bytes the load asks for; one that does not gives none (R181). -/
theorem MemoryAnswer.bytesRead_cases (m : MemoryAnswer) :
    (m.answered = true ∧ m.bytesRead = (List.range m.readCount).map m.byte) ∨ (m.answered = false ∧ m.bytesRead = []) := by
  obtain ⟨⟨a, b, c, d⟩, bytes⟩ := m
  cases a <;> cases b <;> cases c <;> cases d <;>
    simp [answered, bytesRead, transaction, busClear, untilUnacknowledged, addressing, reading, List.filterMap_append,
      List.filterMap_map, Function.comp_def]

end Sys2Proof

namespace Sys2Proof.Machine

open Sys2Proof

/-! ## The line driver (R165, R174) -/

theorem State.driveEnd_of_some {s : State} {t : Time} (h : s.lif.drivenAt = some t) :
    s.driveEnd = some (t + s.bytesTime s.lif.driven.length) := by simp [State.driveEnd, h]

/-- The frame driven is over when its last stop bit is. -/
theorem State.driveOver_iff (s : State) : s.driveOver = true ↔ ∀ e, s.driveEnd = some e → e ≤ s.now := by
  unfold State.driveOver; split <;> simp_all

/-- The end of an attempt leaves the line idle from the last bit driven: the end of the frame's last stop bit where it is over,
now where it is not. -/
theorem State.idleStart_cases (s : State) :
    (∃ e, s.driveEnd = some e ∧ e ≤ s.now ∧ s.idleStart = e) ∨
    ((∀ e, s.driveEnd = some e → s.now < e) ∧ s.idleStart = s.now) := by
  unfold State.idleStart
  split
  · next e h =>
    rcases Nat.le_total e s.now with hle | hle
    · exact .inl ⟨e, h, hle, Nat.min_eq_right hle⟩
    · rcases Nat.lt_or_ge s.now e with hlt | hge
      · exact .inr ⟨fun e' h' => by simp_all, Nat.min_eq_left hle⟩
      · exact .inl ⟨e, h, hge, Nat.min_eq_right hge⟩
  · next h => exact .inr ⟨fun e' h' => by simp_all, rfl⟩

/-- Every byte travels as ten bits (R165). -/
@[simp] theorem length_byteLevels (b : Byte) : (byteLevels b).length = byteBits := rfl

@[simp] theorem length_frameLevels (bytes : List Byte) : (frameLevels bytes).length = byteBits * bytes.length := by
  induction bytes with
  | nil => rfl
  | cons b bytes ih => simp [frameLevels] at *; simp [byteBits] at *; omega

/-! ## A press on its way (R137, R138) -/

/-- The receiving block takes the press that is on its way, or there is none. -/
theorem State.takeRoutedPress_cases (s : State) :
    (s.routed = none ∧ s.takeRoutedPress = s) ∨
    (∃ p, s.routed = some p ∧ s.takeRoutedPress = ({ s with routed := none } : State).receivePress p.route) := by
  cases h : s.routed with
  | none => exact .inl ⟨rfl, by simp [State.takeRoutedPress, h]⟩
  | some p => exact .inr ⟨p, rfl, by simp [State.takeRoutedPress, h]⟩

/-- A press reaches the ASU, or the FLM with the record that the window showed. -/
theorem State.receivePress_cases (s : State) (route : PressRoute) :
    (route = .toAsu ∧ s.receivePress route = s.asuPress) ∨
    (∃ n, route = .toFlm n ∧ s.receivePress route = s.flmPress n.origin n.code) := by
  cases route with
  | toAsu => exact .inl ⟨rfl, rfl⟩
  | toFlm n => exact .inr ⟨n, rfl, rfl⟩

/-- A press has a route in ACTIVE only: to the ASU with a record open, else to the FLM with an unacknowledged record shown. -/
theorem State.pressRoute_some {s : State} {route : PressRoute} (h : s.pressRoute = some route) :
    s.cru.role = .active ∧
    ((route = .toAsu ∧ s.asu.pendingAck.isSome = true) ∨
     (s.asu.pendingAck = none ∧ ∃ r, shownRecord s.flm s.diu.window = some r ∧ r.state ≠ .raisedAck ∧
        route = .toFlm { origin := r.origin, code := r.code })) := by
  unfold State.pressRoute at h
  split at h
  · next ha =>
    refine ⟨ha, ?_⟩
    split at h
    · next hp => exact .inl ⟨by simp_all, hp⟩
    · next hp =>
      split at h
      · next r hr =>
        split at h
        · simp at h
        · next hs => exact .inr ⟨by simpa using hp, r, hr, hs, by simpa using h.symm⟩
      · simp at h
  · simp at h

/-! ## The DESK period (R124) -/

/-- A DESK frame handed leaves the CRU as it was, but for its period timer and the expiry still to be taken. -/
@[simp] theorem State.handDesk_cru (s : State) (before between after : FlmView) :
    (s.handDesk before between after).cru =
      { s.cru with deskAt := some (s.now + ms s.cfg.deskPeriodMs), deskDue := s.cru.dueAt s.now } := by
  simp [State.handDesk, State.inMs]

/-- The expiry of the DESK period leaves no expiry to be taken, and a full period to run. -/
@[simp] theorem State.deskPeriod_cru (s : State) :
    s.deskPeriod.cru = { s.cru with deskAt := some (s.now + ms s.cfg.deskPeriodMs), deskDue := none } := by
  simp [State.deskPeriod, Cru.dueAt, State.cfg]

/-- What is still to be taken when the timer is started again: what was, else the timer's own end where it is reached. -/
theorem Cru.dueAt_cases (c : Cru) (now : Time) :
    (∃ e, c.deskDue = some e ∧ c.dueAt now = some e) ∨
    (c.deskDue = none ∧ ∃ e, c.deskAt = some e ∧ e ≤ now ∧ c.dueAt now = some e) ∨
    (c.deskDue = none ∧ (∀ e, c.deskAt = some e → now < e) ∧ c.dueAt now = none) := by
  cases hd : c.deskDue with
  | some e => exact .inl ⟨e, rfl, by simp [Cru.dueAt, hd]⟩
  | none =>
    cases ha : c.deskAt with
    | none => exact .inr (.inr ⟨rfl, by simp, by simp [Cru.dueAt, hd, ha]⟩)
    | some e =>
      rcases Nat.lt_or_ge now e with h | h
      · exact .inr (.inr ⟨rfl, by simpa using h, by simp [Cru.dueAt, hd, ha, Option.filter, Nat.not_le.2 h]⟩)
      · exact .inr (.inl ⟨rfl, e, rfl, h, by simp [Cru.dueAt, hd, ha, Option.filter, h]⟩)

end Sys2Proof.Machine
end

