-- ==== Sys2Proof/Laws/Queue.lean ====
section
/-! SUPPORT. What the transmit queue's operations can do (R175, R176). -/

namespace Sys2Proof.Machine

open Sys2Proof

/-- Splitting by a test and putting the parts together keeps the members. -/
theorem filter_append_perm (test : QueuedFrame → Bool) (l : List QueuedFrame) :
    (l.filter test ++ l.filter (fun q => !test q)).Perm l := List.filter_append_perm test l

theorem enterQueue_perm (f : QueuedFrame) (l : List QueuedFrame) : (enterQueue f l).Perm (f :: l) := by
  unfold enterQueue
  split
  · exact List.perm_middle.trans ((filter_append_perm _ l).cons f)
  · exact List.perm_append_singleton f l

@[simp] theorem mem_enterQueue {f q : QueuedFrame} {l : List QueuedFrame} : q ∈ enterQueue f l ↔ q = f ∨ q ∈ l := by
  rw [(enterQueue_perm f l).mem_iff, List.mem_cons]

@[simp] theorem length_enterQueue (f : QueuedFrame) (l : List QueuedFrame) : (enterQueue f l).length = l.length + 1 :=
  (enterQueue_perm f l).length_eq

@[simp] theorem length_refreshDesk (c : TxContent) (l : List QueuedFrame) : (refreshDesk c l).length = l.length := by
  simp [refreshDesk]

/-- The newest frame with a test: nothing behind it passes the test. -/
theorem newestWhere_some {test : TxContent → Bool} {l : List QueuedFrame} {q : QueuedFrame} (h : newestWhere test l = some q) :
    ∃ front back, l = front ++ q :: back ∧ test q.content = true ∧ (∀ r ∈ back, test r.content = false) ∧
      removeNewest test l = front ++ back := by
  obtain ⟨ht, as, bs, hl, hn⟩ := List.find?_eq_some_iff_append.1 h
  refine ⟨bs.reverse, as.reverse, ?_, ht, fun r hr => by simpa using hn r (by simpa using hr), ?_⟩
  · have := congrArg List.reverse hl
    simpa using this
  · simp only [removeNewest, hl]
    rw [List.eraseP_append_right _ (fun b hb => by simpa using hn b hb)]
    simp [ht]

theorem newestWhere_none {test : TxContent → Bool} {l : List QueuedFrame} :
    newestWhere test l = none ↔ ∀ q ∈ l, test q.content = false := by
  simp [newestWhere]

/-- A frame that enters in place of another, or is dropped (R175). -/
theorem Lif.enterFor_cases (l : Lif) (f : QueuedFrame) (test : TxContent → Bool) :
    ((∀ q ∈ l.waiting, test q.content = false) ∧ l.enterFor f test = { lif := l, lost := some f.content }) ∨
    (∃ front q back, l.waiting = front ++ q :: back ∧ test q.content = true ∧ (∀ r ∈ back, test r.content = false) ∧
      l.enterFor f test = { lif := { l with waiting := enterQueue f (front ++ back) }, lost := some q.content }) := by
  cases h : newestWhere test l.waiting with
  | none => exact .inl ⟨newestWhere_none.1 h, by simp [Lif.enterFor, h]⟩
  | some q =>
    obtain ⟨front, back, hl, ht, hb, hr⟩ := newestWhere_some h
    exact .inr ⟨front, q, back, hl, ht, hb, by simp [Lif.enterFor, h, hr]⟩

/-- A frame handed changes the waiting frames and the DESK hold only. -/
theorem Lif.place_lif (l : Lif) (now : Time) (content : TxContent) :
    (l.place now content).lif =
      { l with waiting := (l.place now content).lif.waiting, hold := (l.place now content).lif.hold } := by
  have entering : ∀ f test, (l.enterFor f test).lif =
      { l with waiting := (l.enterFor f test).lif.waiting, hold := (l.enterFor f test).lif.hold } := by
    intro f test; unfold Lif.enterFor; split <;> rfl
  unfold Lif.place
  split <;> dsimp only <;> (repeat' split) <;> first | rfl | exact entering _ _

/-- What handing a frame does to the rest of the part: nothing while no frame is lost; else the SNU is told and the loss is
reported (R175, R176). -/
theorem State.handFrame_cases (s : State) (content : TxContent) :
    ((s.lif.place s.now content).lost = none ∧ s.handFrame content = { s with lif := (s.lif.place s.now content).lif }) ∨
    (∃ c, (s.lif.place s.now content).lost = some c ∧ s.handFrame content =
      ({ s with lif := (s.lif.place s.now content).lif, snu := s.snu.notice c } : State).queueLoss) := by
  cases h : (s.lif.place s.now content).lost with
  | none => exact .inl ⟨rfl, by simp [State.handFrame, h]⟩
  | some c => exact .inr ⟨c, rfl, by simp [State.handFrame, h]⟩

/-- A notice of a frame that is no snapshot frame changes nothing (R191). -/
@[simp] theorem Snu.notice_of_not_snap {u : Snu} {content : TxContent} (h : content.isSnap = false) : u.notice content = u := by
  unfold Snu.notice; split
  · rfl
  · simp [h]

/-- With room nothing is lost (R175). -/
theorem Lif.place_lost_of_room {l : Lif} (now : Time) (content : TxContent) (h : l.length < queueCapacity) :
    (l.place now content).lost = none := by
  unfold Lif.place
  split <;> dsimp only <;> (repeat' split) <;> first | rfl | simp_all

end Sys2Proof.Machine
end

