-- ==== Sys2Proof/Laws/Tones.lean ====
section
/-! SUPPORT. What the tone arbiter's operations can do (section 8.6). -/

namespace Sys2Proof.Machine

open Sys2Proof

@[simp] theorem mem_patternsByPriority (p : Pattern) : p ∈ patternsByPriority := by cases p <;> decide

theorem Pattern.priority_inj {p q : Pattern} (h : p.priority = q.priority) : p = q := by
  cases p <;> cases q <;> first | rfl | cases h

/-- The patterns stand in the order of their priorities (R157). -/
theorem patternsByPriority_ordered : patternsByPriority.Pairwise (fun p q => p.priority < q.priority) := by decide

/-- In a list ordered by priority, the first that passes a test is the one of the highest priority. -/
theorem find_highest {test : Pattern → Bool} {l : List Pattern} {p : Pattern}
    (ordered : l.Pairwise (fun p q => p.priority < q.priority)) (h : l.find? test = some p) :
    ∀ q ∈ l, test q = true → p.priority ≤ q.priority := by
  induction l with
  | nil => cases h
  | cons r rest ih =>
    obtain ⟨hr, ho⟩ := List.pairwise_cons.1 ordered
    intro q hq ht
    cases hrt : test r with
    | true =>
      rw [List.find?_cons_of_pos hrt] at h
      cases h
      cases List.mem_cons.1 hq with
      | inl e => exact e ▸ Nat.le_refl _
      | inr m => exact Nat.le_of_lt (hr q m)
    | false =>
      rw [List.find?_cons_of_neg (by simp [hrt])] at h
      cases List.mem_cons.1 hq with
      | inl e => rw [e] at ht; rw [hrt] at ht; cases ht
      | inr m => exact ih ho h q m ht

/-- The best member is eligible, in the set, and of the highest priority of those that are (R159). -/
theorem Arbiter.best_eq_some {ok : Pattern → Bool} {a : Arbiter} {p : Pattern} :
    a.best ok = some p ↔
      ok p = true ∧ a.member p = true ∧ ∀ q, ok q = true → a.member q = true → p.priority ≤ q.priority := by
  constructor
  · intro h
    have ht := List.find?_some h
    simp only [Bool.and_eq_true] at ht
    exact ⟨ht.1, ht.2, fun q hq hm =>
      find_highest patternsByPriority_ordered h q (mem_patternsByPriority q) (by simp [hq, hm])⟩
  · intro ⟨hp, hm, least⟩
    cases hb : a.best ok with
    | none =>
      have := (List.find?_eq_none.1 hb) p (mem_patternsByPriority p)
      simp [hp, hm] at this
    | some q =>
      have ht := List.find?_some hb
      simp only [Bool.and_eq_true] at ht
      have h1 := find_highest patternsByPriority_ordered hb p (mem_patternsByPriority p) (by simp [hp, hm])
      have h2 := least q ht.1 ht.2
      rw [Pattern.priority_inj (Nat.le_antisymm h1 h2)]

theorem Arbiter.best_eq_none {ok : Pattern → Bool} {a : Arbiter} :
    a.best ok = none ↔ ∀ q, ok q = true → a.member q = false := by
  constructor
  · intro h q hq
    have := (List.find?_eq_none.1 h) q (mem_patternsByPriority q)
    simpa [hq] using this
  · intro h
    refine List.find?_eq_none.2 fun q _ => ?_
    cases hq : ok q with
    | false => simp
    | true => simp [h q hq]

/-- Whether a pattern is asserted after a request (R157). -/
@[simp] theorem Arbiter.mem_hold {a : Arbiter} {p q : Pattern} {on : Bool} :
    q ∈ (a.hold p on).asserted ↔ if q = p then on = true else q ∈ a.asserted := by
  simp only [Arbiter.hold, List.mem_filter, mem_patternsByPriority, true_and]
  split <;> simp

@[simp] theorem Arbiter.hold_oneShot (a : Arbiter) (p : Pattern) (on : Bool) : (a.hold p on).oneShot = a.oneShot := rfl
@[simp] theorem Arbiter.hold_playing (a : Arbiter) (p : Pattern) (on : Bool) : (a.hold p on).playing = a.playing := rfl
@[simp] theorem Arbiter.rechoose_asserted (a : Arbiter) (ok : Pattern → Bool) (now : Time) :
    (a.rechoose ok now).asserted = a.asserted := rfl
@[simp] theorem Arbiter.endOneShot_asserted (a : Arbiter) : a.endOneShot.asserted = a.asserted := rfl

@[simp] theorem Arbiter.issue_asserted (a : Arbiter) (ok : Pattern → Bool) (now : Time) (p : Pattern) :
    (a.issue ok now p).asserted = a.asserted := by
  unfold Arbiter.issue; split <;> rfl

/-- After a choice the best of the members before it plays (R159). -/
@[simp] theorem Arbiter.rechoose_playing (a : Arbiter) (ok : Pattern → Bool) (now : Time) :
    (a.rechoose ok now).playing.map (·.pattern) = a.best ok := by
  simp only [Arbiter.rechoose]
  split
  · assumption
  · cases a.best ok <;> rfl

/-- After a choice a one-shot in the set is the playing member (R160). -/
theorem Arbiter.rechoose_oneShot {a : Arbiter} {ok : Pattern → Bool} {now : Time} {o : OneShot}
    (h : (a.rechoose ok now).oneShot = some o) : a.oneShot = some o ∧ a.best ok = some o.pattern := by
  simp only [Arbiter.rechoose] at h
  split at h
  · rename_i e; exact ⟨h, by rw [← e, h]; rfl⟩
  · cases h

/-- Dropping a one-shot that is not the best leaves the best as it is (R159, R160). -/
@[simp] theorem Arbiter.rechoose_best (a : Arbiter) (ok : Pattern → Bool) (now : Time) :
    (a.rechoose ok now).best ok = a.best ok := by
  have mono : ∀ q, (a.rechoose ok now).member q = true → a.member q = true := by
    intro q
    simp only [Arbiter.member, Arbiter.rechoose]
    split
    · exact id
    · intro h; simp at h; simp [h]
  cases hb : a.best ok with
  | none =>
    refine best_eq_none.2 fun q hq => Bool.eq_false_iff.2 fun hm => ?_
    have := mono q hm
    rw [best_eq_none.1 hb q hq] at this
    cases this
  | some p =>
    obtain ⟨hp, hm, least⟩ := best_eq_some.1 hb
    refine best_eq_some.2 ⟨hp, ?_, fun q hq hmq => least q hq (mono q hmq)⟩
    simp only [Arbiter.member, Arbiter.rechoose, hb] at hm ⊢
    split
    · exact hm
    · rename_i e
      cases ho : a.oneShot with
      | none => simpa [ho] using hm
      | some o => simp [ho] at hm e; simp; exact hm.resolve_right e

/-- What an issue can do (R160). -/
theorem Arbiter.issue_cases (a : Arbiter) (ok : Pattern → Bool) (now : Time) (p : Pattern) :
    ((ok p = false ∨ a.higherIn ok p = true) ∧ a.issue ok now p = a) ∨
    (ok p = true ∧ a.higherIn ok p = false ∧ a.issue ok now p =
      { a with oneShot := some { pattern := p, endsAt := now + ms p.oneShotMs }, playing := some { pattern := p, since := now } }) := by
  cases hp : ok p <;> cases hh : a.higherIn ok p <;> simp [Arbiter.issue, hp, hh]

end Sys2Proof.Machine
end

