-- ==== Sys2Proof/Tests/Slice0.lean ====
section
/-! SUPPORT. Tests: the check value of the generator and the worked cases of spec/ on small states, the refusals of WellFormed,
and, for each statement with hypotheses, states and operands that meet them. -/

namespace Sys2Proof.Tests

-- The tests are checked one after another: many waiting at once would each hold a thread.
set_option Elab.async false

open Sys2Proof Sys2Proof.Machine

/-! ## Small states -/

/-- The outcome's state; the state itself where there is none. -/
def after (c : Instr) (s : State) : State :=
  match exec c s with
  | .next u => u
  | _ => s

/-- Station 20, cab end A, 250 kbit/s, km/h. -/
def straps20 : Straps := { station := 20, cabEndB := false, rate250 := true, mph := false }

/-- Station 20 in RUNNING from moment 0 with the values of the fallback configuration (R186) as its own image. -/
def desk : State :=
  { State.reset with
    cfl := { start := .running, straps := some straps20, config := some (fallbackConfiguration 20), fallback := false,
             lampCheckAt := none, runningSince := some 0, busReleased := true }
    ssv := { Ssv.reset with graceAt := some 3000000 }
    cru := { Cru.reset with deskAt := some 100000 }
    idr := { Idr.reset with f1 := some { lit := true, endsAt := 500000 }, f2 := some { lit := true, endsAt := 250000 } }
    supokHigh := true }

/-- The same desk in ACTIVE. -/
def active : State :=
  { desk with
    cru := { desk.cru with role := .active, keyOn := true }
    diu := { desk.diu with key := { level := true, taken := true, endsAt := none } }
    idr := { desk.idr with lamps := { desk.idr.lamps with cab := .steady } } }

/-- A desk before RUNNING. -/
def starting (start : StartState) : State :=
  { State.reset with
    cfl := { Cfl.reset with start := start, straps := some straps20 }
    supokHigh := true }

/-- A desk in LAMP_CHECK that ends at 1 s. -/
def lampChecking (fallback key : Bool) : State :=
  { State.reset with
    cfl := { start := .lampCheck, straps := some straps20, config := some (fallbackConfiguration 20), fallback := fallback,
             lampCheckAt := some 1000000, runningSince := none, busReleased := true }
    diu := { Diu.reset with key := { level := key, taken := key, endsAt := none } }
    supokHigh := true }

/-- Entry `i` replaced. -/
def withEntry (i : Fin 24) (e : Entry) (s : State) : State :=
  { s with ssv := { s.ssv with entries := s.ssv.entries.set i e } }

/-- An entry heard. -/
def heard (state : EntryState) (seq : Seq) (at0 : Time) (violations progress : Nat) (late : Time) : Entry :=
  { state := state, lastSeq := some seq, lastAccepted := some at0, violations := violations, progress := progress,
    lossReported := false, lateAt := some late }

/-- A SPEED frame of station 3: 80.12 km/h, FORWARD, GOOD. -/
def speedFrame (seq : Seq) : Frame := { station := 3, kind := .speed, seq := seq, payload := [0x1F, 0x4C, 1, 0] }

/-- An ASPECT frame of station 5 with this instance and code and no limits. -/
def aspectFrame (inst : InstanceNo) (code : Byte) : Frame :=
  { station := 5, kind := .aspect, seq := 9, payload := [inst, code, 0, 0, 0, 0, 0, 0, 0] }

/-- A FAULT frame of station 7: 0x1A3F ACTION and 0x0204 NOTE. -/
def faultFrame : Frame := { station := 7, kind := .fault, seq := 0, payload := [2, 0x1A, 0x3F, 2, 0x02, 0x04, 4] }

/-- A DESK frame of station 21 (peer desk slot 1) with this role code and its key on. -/
def deskFrame (role : Byte) : Frame :=
  { station := 21, kind := .desk, seq := 4, payload := [role, 1, 0, 0, 0, 0, 255, 0, 0, 0, 0, 0, 0] }

/-- An ACKN frame of station 21. -/
def acknFrame (what station code1 code0 : Byte) : Frame :=
  { station := 21, kind := .ackn, seq := 1, payload := [what, station, code1, code0] }

/-- A SNAPREQ frame of station 30 to station 20. -/
def snapreqFrame (parts : Byte) : Frame := { station := 30, kind := .snapreq, seq := 2, payload := [20, parts] }

/-- A record of origin 7. -/
def record (code : FaultCode) (cls : FaultClass) (state : RecordState) (stamp : Nat) : FaultRecord :=
  { origin := 7, internal := false, code := code, cls := cls, state := state, stale := false, count := 1, stamp := stamp }

/-- A list of `n` NOTE records of origin 7. -/
def notes (n : Nat) : Flm :=
  { records := (List.range n).map (fun k => record (BitVec.ofNat 16 k) .note .raisedUnack k), counter := n, overflow := false,
    reminderAt := none }

/-- A full lawful list: 31 NOTE records and one ADVISORY, which goes first. -/
def fullList : Flm :=
  { records := record 100 .advisory .raisedAck 31 :: (notes 31).records, counter := 65534, overflow := true,
    reminderAt := none }

/-- A desk with this list. -/
def withList (f : Flm) (s : State) : State := { s with flm := f }

/-- A SNAPFAULTS content. -/
def snapContent : TxContent := .snapFaults { requester := 30, records := [] }

/-- A DESK content. -/
def deskContent : DeskContent :=
  { role := .idle, keyOn := false, cabEndB := false, displayed := none, speedState := .unknown, level := .notSupervised,
    code := none, pendingAck := none, top := none, count := 0, overflow := false, fallback := false }

/-- A waiting frame. -/
def queued (content : TxContent) : QueuedFrame := { content := content, entered := 0 }

/-- A line interface with these frames waiting. -/
def waitingLif (contents : List TxContent) : Lif := { Lif.reset with waiting := contents.map queued }

/-- A line interface whose head is on the line. -/
def sendingLif (content : TxContent) (attempts : Nat) (hold : Option DeskContent) : Lif :=
  { Lif.reset with
    head := some { content := content, entered := 0, seq := 3, attempts := attempts }
    drive := .head
    driven := txBytes 20 3 content
    drivenAt := some 0
    hold := hold
    idleSince := none }

/-- A pending record of the displayed aspect of station 5, instance 21. -/
def pending21 (overdue : Bool) : PendingAck :=
  { station := 5, inst := 21, rank := 8, overdue := overdue, openedAt := 5000000 }

/-- The record open. -/
def withPending (overdue : Bool) (s : State) : State :=
  { s with asu := { s.asu with
    pendingAck := some (pending21 overdue)
    ackAt := if overdue then none else some 9000000
    repeatAt := if overdue then some 10000000 else none } }

/-- A serial memory that acknowledges everything. -/
def allAcks : MemoryAcks := { writeAddress := true, wordHigh := true, wordLow := true, readAddress := true }

/-- A serial memory that acknowledges everything and gives these bytes. -/
def given (bytes : List Byte) : MemoryAnswer := { acks := allAcks, bytes := bytes }

/-- A press on its way. -/
def withRouted (route : PressRoute) (s : State) : State := { s with routed := some { route := route, at0 := s.now } }

/-- A contact whose interval ends at 41 ms. -/
def contact (level : Bool) : Contact := { level := level, taken := !level, endsAt := some 41000 }

/-! ## WellFormed: one ill-formed command for each check -/

theorem test_wf_refuses_load_of_short_memory : (Instr.loadEnd 0 allAcks [0, 100, 1, 0, 0]).wf = false := by decide +kernel
theorem test_wf_refuses_arrival_of_ackn : (Instr.arrival 0 (frameBytes (acknFrame 0 5 0 21))).wf = false := by decide +kernel
theorem test_wf_refuses_ackn_of_bad_check : (Instr.acknFrame 0 ((frameBytes (acknFrame 0 5 0 21)).set 8 0xFF)).wf = false := by
  decide +kernel
theorem test_wf_refuses_snapreq_of_speed : (Instr.snapreq 0 (frameBytes (speedFrame 5))).wf = false := by decide +kernel
theorem test_wf_refuses_clash_of_station_0 :
    (Instr.stationClash 0 (frameBytes { speedFrame 5 with station := 0 })).wf = false := by decide +kernel
theorem test_wf_refuses_discard_of_good_frame :
    (Instr.frameDiscard 0 (frameBytes (speedFrame 5)) .whole).wf = false := by decide +kernel
theorem test_wf_refuses_drop_of_nothing : (Instr.frameDropped 0 []).wf = false := by decide +kernel
theorem test_wf_accepts_arrival : (Instr.arrival 0 (frameBytes (speedFrame 5))).wf = true := by decide +kernel

/-! ## Words -/

/-- No word spells a command (log 21). -/
theorem test_no_word_spells_a_command : decodeTableWord 16 0 = none ∧ decodeTableWord 8 255 = none := by decide

/-! ## Worked values -/

/-- The published check value of the generator x^16 + x^12 + x^5 + 1 with all ones at the start (the ASCII digits 1 to 9). -/
theorem test_check_value : checkOf [0x31, 0x32, 0x33, 0x34, 0x35, 0x36, 0x37, 0x38, 0x39] = 0x29B1 := by decide +kernel

/-- R166: station, kind and sequence, length; the speed high byte first. -/
theorem test_frame_header : (frameBytes (speedFrame 5)).take 7 = [3, 0x15, 4, 0x1F, 0x4C, 1, 0] := by decide +kernel

/-- 2.10 step 1: four speeds give 8023, and 2.10 step 9: three give the middle one. -/
theorem test_fused_four_and_three :
    fuse 150 (ascending [8012, 8034, 8120, 7650]) = some 8023 ∧ fuse 150 (ascending [8025, 8040, 8215]) = some 8040 := by
  decide +kernel

/-- 2.10 step 3: within T the rounded mean; step 4: beyond T the higher value and the flag. -/
theorem test_fused_two :
    fuse 150 [8012, 8120] = some 8066 ∧ fuseDisagrees 150 [8012, 8120] = false ∧
    fuse 150 [8012, 8210] = some 8210 ∧ fuseDisagrees 150 [8012, 8210] = true := by decide +kernel

/-- 3.8: the nine hand-offs, from D = 80. -/
theorem test_displayed_speed_sequence :
    List.foldl (fun (acc : Option Nat × List (Option Nat)) f =>
      let d := displayedAfter false 30 20 acc.1 f
      (d, acc.2 ++ [d])) (some 80, [])
      [some 8023, some 8069, some 8075, some 8131, some 8040, some 8022, some 25, none, some 4012] =
    (some 40, [some 80, some 80, some 81, some 81, some 81, some 80, some 0, none, some 40]) := by decide +kernel

/-- 3.8, mph: 8023 is shown as 50 with 18 segments. -/
theorem test_displayed_speed_mph :
    displayedAfter true 30 20 none (some 8023) = some 50 ∧ litSegments 160 (some 50) = 18 ∧
    litSegments 160 (some 40) = 15 := by decide +kernel

/-- 3.9: the twelve evaluations. -/
theorem test_overspeed_sequence :
    List.foldl (fun (acc : OverspeedLevel × List OverspeedLevel) (fp : Nat × Nat) =>
      let l := levelAfter 3 2 acc.1 (some fp.1) (some fp.2)
      (l, acc.2 ++ [l])) (OverspeedLevel.normal, [])
      [(7990, 80), (8023, 80), (8310, 80), (8150, 80), (8090, 80), (7850, 80), (7790, 80), (7790, 60), (6200, 60), (6050, 60),
       (6400, 60), (6400, 80)] =
    (.normal, [.normal, .warn, .alarm, .alarm, .warn, .warn, .normal, .alarm, .alarm, .warn, .alarm, .normal]) := by
  decide +kernel

/-- 5.12: renumbering at the greatest stamp. -/
theorem test_renumbering :
    let three := [record 1 .note .raisedUnack 65501, record 2 .note .raisedUnack 65520, record 3 .note .raisedUnack 65534]
    let f : Flm := { Flm.reset with records := three, counter := 65535 }
    ((f.create (record 4 .note .raisedUnack 0)).records.map (·.stamp), (f.create (record 4 .note .raisedUnack 0)).counter) =
      ([0, 1, 2, 3], 4) := by decide +kernel

/-- 5.11 step 1: the oldest RAISED_ACK record of the least severe class gives way. -/
theorem test_eviction :
    let seven := [record 14 .note .raisedUnack 14, record 22 .note .raisedUnack 22, record 31 .note .raisedUnack 31,
      record 40 .note .raisedUnack 40, record 52 .note .raisedUnack 52, record 9 .note .raisedAck 9,
      record 18 .note .raisedAck 18]
    let f : Flm := { Flm.reset with records := seven ++ (List.range 25).map (fun k =>
      record (BitVec.ofNat 16 (100 + k)) .advisory .raisedAck (100 + k)) }
    f.victim .action = some (record 9 .note .raisedAck 9) ∧ f.victim .note = none := by decide +kernel

/-- 9.8 at 3200 and 3250: an OVERDUE frame evicts the newest normal frame, then a DESK frame the newest snapshot frame. -/
theorem test_full_queue_evicts :
    let od : TxContent := .overdue 5 21 0
    let state : TxContent := .snapState (desk.snapStateContent 30)
    let l := waitingLif ([od, od, od, od, od] ++ [state, snapContent, .desk deskContent])
    let m := waitingLif ([od, od, od, od, od, od] ++ [state, snapContent])
    (l.place 9 od).lost = some (.desk deskContent) ∧
    (l.place 9 od).lif.contents = [od, od, od, od, od, od, state, snapContent] ∧
    (m.place 9 (.desk deskContent)).lost = some snapContent ∧
    (m.place 9 (.desk deskContent)).lif.contents = [od, od, od, od, od, od, state, .desk deskContent] := by decide +kernel

/-- R186 and 10.9: the fallback's peers of station 20 are 19, 21 and 22. -/
theorem test_fallback_desks :
    ((fallbackConfiguration 20).entries.toList.filter (fun c => c.enabled && c.kind == .desk)).map (·.station) =
      [19, 21, 22] := by decide +kernel

/-- R185 and 10.9: an entry with the own station is disabled; the second entry of one slot is disabled. -/
theorem test_conflicting_entries :
    let l := [fallbackEntry 3 .speed 0, fallbackEntry 4 .speed 0, fallbackEntry 20 .speed 1, fallbackEntry 3 .fault 0] ++
      List.replicate 20 unusedSource
    (checkedEntries 20 l).toList.map (·.enabled) = [true, false, false, true] ++ List.replicate 20 false := by decide +kernel

/-- 8.9 at 150, 1300 and 3000: a one-shot of higher priority takes the place of another; one of lower priority is dropped at
its issue; a role that does not allow it drops it. -/
theorem test_tones :
    let all : Pattern → Bool := fun _ => true
    let a := (Arbiter.reset.issue all 0 .faultAction).issue all 150000 .overspeedWarn
    let b := (Arbiter.reset.hold .aspectRestrict true).rechoose all 1000000
    let c := ((Arbiter.reset.hold .faultStop true).rechoose all 0).issue all 2600000 .overspeedAlarm
    a.playing.map (·.pattern) = some .overspeedWarn ∧ a.oneShot = some { pattern := .overspeedWarn, endsAt := 450000 } ∧
    b.issue all 1300000 .reminder = b ∧
    (c.rechoose (roleAllows .mirror) 3000000) =
      { asserted := [.faultStop], oneShot := none, playing := some { pattern := .faultStop, since := 3000000 } } := by
  decide +kernel

/-- 6.10 and 6.11: the roles at 1000, 7000, 10110 and 4000. -/
theorem test_roles :
    let peer (code : Byte) (key : Bool) : PeerView := { state := .valid, held := some { roleCode := code, keyOn := key } }
    let cru (role : Role) (key : Bool) (v : PeerView) : Cru :=
      { Cru.reset with role := role, keyOn := key, peers := Cru.reset.peers.set 0 v }
    (cru .mirror true (peer 3 true)).nextRole false = .conflict ∧ (cru .idle true (peer 0 false)).nextRole false = .claiming ∧
    (cru .active true (peer 3 true)).nextRole false = .conflict ∧ (cru .conflict false (peer 3 true)).nextRole false = .mirror ∧
    (cru .claiming true (peer 0 false)).nextRole true = .active ∧ (cru .active true (peer 4 true)).nextRole false = .active := by
  decide +kernel

/-! ## One command on a small state -/

/-- 1.7 at 320 ms: sequence 8 after 6 is a gap violation; the frame is used. -/
theorem test_arrival_gap_is_used :
    let u := after (.arrival 320000 (frameBytes (speedFrame 8)))
      (withEntry 2 (heard .suspect 6 220000 1 2 470000) desk)
    u.ssv.entries.get 2 = heard .suspect 8 320000 2 2 570000 ∧
    u.sfu.slots.get 2 =
      { state := .suspect, report := some { speed := 8012, direction := .forward, quality := .good }, outliers := 0 } ∧
    u.sdm.displayed = some 80 ∧ u.idr.lamps.source = .steady := by decide +kernel

/-- 5.10 at 400 ms: the first summary creates two records, one FAULT_ACTION and the reminder. -/
theorem test_arrival_summary_creates :
    let u := after (.arrival 400000 (frameBytes faultFrame)) desk
    u.flm.records = [record 0x1A3F .action .raisedUnack 0, record 0x0204 .note .raisedUnack 1] ∧ u.flm.counter = 2 ∧
    u.flm.reminderAt = some 60400000 ∧ u.idr.lamps.action = .slow ∧ (u.ssv.entries.get 6).state = .valid := by
  decide +kernel

/-- 1.7 at 1170 ms: the third late expiry loses the entry and raises 0xF102 as an ACTION fault. -/
theorem test_late_expiry_loses :
    let u := after (.lateTimerExpiry 2) (withEntry 2 (heard .suspect 9 420000 2 2 1170000) desk)
    u.ssv.entries.get 2 = { Entry.reset with state := .lost, lossReported := true } ∧ (u.sfu.slots.get 2).state = .lost ∧
    u.flm.records.map (fun r => (r.origin, r.code, r.cls)) = [(20, 0xF102, .action)] ∧ u.now = 1170000 := by decide +kernel

/-- 1.7: had entry 2 not been heard by 3000 ms, the grace expiry would have lost it; 0xF041 is raised too (R72). -/
theorem test_grace_expiry :
    let u := after .startupGraceExpiry desk
    (u.ssv.entries.get 2).state = .lost ∧ (u.flm.find 20 0xF102).isSome = true ∧ u.asu.shown.code = some 15 ∧
    u.idr.lamps.stop = .fast ∧ u.ssv.entries.get 23 = Entry.reset := by decide +kernel

/-- 4.8 at 9000 ms: the record is overdue, an OVERDUE frame with time 0 is queued, the tone changes. -/
theorem test_acknowledgement_expiry :
    let u := after .acknowledgementTimerExpiry (withPending false active)
    u.asu.pendingAck = some (pending21 true) ∧ u.asu.repeatAt = some 10000000 ∧
    u.lif.waiting = [{ content := .overdue 5 21 0, entered := 9000000 }] ∧ u.tone = some .overdue := by decide +kernel

/-- 4.8 at 10000 ms: the first repeat carries 10. -/
theorem test_overdue_repeat :
    (after .overdueRepeatTimerExpiry (withPending true active)).lif.waiting =
      [{ content := .overdue 5 21 10, entered := 10000000 }] := by decide +kernel

/-- Press and peer ACKN, the ACKN between the routing and the taking (R83): the press finds no record and has no effect, although
a fault record is at the top. -/
theorem test_press_finds_no_record :
    let s := withList { notes 1 with reminderAt := none } { withPending true (withEntry 19 (heard .valid 2 0 0 2 350000) active)
      with diu := { active.diu with acknowledge := contact true } }
    let routed := after (.acknowledgePress .routing) s
    let acknowledged := after (.acknFrame 41000 (frameBytes (acknFrame 0 5 0 21))) routed
    routed.routed = some { route := .toAsu, at0 := 41000 } ∧ acknowledged.asu.pendingAck = none ∧
    after (.acknowledgePress .taking) acknowledged = { acknowledged with routed := none } := by decide +kernel

/-- Press and eviction, the eviction between the routing and the taking (R103, R138): nothing is acknowledged, nothing queued. -/
theorem test_press_finds_the_record_evicted :
    let routed := withRouted (.toFlm { origin := 7, code := 0 }) (withList fullList active)
    let evicted := routed.flmRaise 0xF050 .stop
    (fullList.find 7 0).isSome = true ∧ evicted.flm.find 7 0 = none ∧
    after (.acknowledgePress .taking) evicted = { evicted with routed := none } := by decide +kernel

/-- 4.8 at 12000 ms: the press closes the record and queues the ACKN. -/
theorem test_acknowledge_press :
    let u := after (.acknowledgePress .whole) { withPending true active with
      diu := { active.diu with acknowledge := contact true } }
    u.asu.pendingAck = none ∧ u.asu.repeatAt = none ∧ u.lif.waiting.map (·.content) = [.acknAspect 5 21] ∧
    u.now = 41000 := by decide +kernel

/-- 7.7: the press at 11 ms starts the interval to 41 ms; the release at 4 ms abandons the one before. -/
theorem test_level_changes :
    (after (.inputLevelChange 11000 (.back false)) desk).diu.acknowledge =
      { level := true, taken := false, endsAt := some 41000 } ∧
    (after (.inputLevelChange 4000 (.back true)) { desk with
      diu := { desk.diu with acknowledge := { level := true, taken := false, endsAt := some 30000 } } }).diu.acknowledge =
      { level := false, taken := false, endsAt := none } := by decide +kernel

/-- R132: DIM2 to low takes code 7 to 3, DIM0 then to 2; low at KEYON is key on. -/
theorem test_pins :
    let u := after (.inputLevelChange 5 (.dim2 false)) desk
    u.diu.dimmer = { level := 3, taken := 7, endsAt := some 100005 } ∧
    (after (.inputLevelChange 9 (.dim0 false)) u).diu.dimmer = { level := 2, taken := 7, endsAt := some 100009 } ∧
    (after (.inputLevelChange 5 (.keyon false)) desk).diu.key = { level := true, taken := false, endsAt := some 50005 } := by
  decide +kernel

/-- 7.8 at 2 s: the scroll moves from TOP to the second record, with the timer to 12 s. -/
theorem test_scroll_press :
    let u := after .scrollPress { withList (notes 3) desk with diu := { desk.diu with scroll := contact true }, now := 2000000 }
    u.diu.window = some { origin := 7, code := 1 } ∧ u.diu.scrollAt = some 12000000 := by decide +kernel

/-- 6.10 at 7000 and 7300 ms: the key claims; the window's end makes the desk ACTIVE. -/
theorem test_key_and_claim :
    let u := after .keyChange { desk with diu := { desk.diu with key := { level := true, taken := false, endsAt := some 7000000 } } }
    u.cru.role = .claiming ∧ u.cru.claimAt = some 7300000 ∧ u.idr.lamps.cab = .slow ∧
    (after .claimWindowExpiry u).cru.role = .active ∧ (after .claimWindowExpiry u).idr.lamps.cab = .steady := by
  decide +kernel

/-- R124: the key change and the expiry of the DESK period together at 100 ms. Taken second, the expiry hands a frame with the new
role at that moment, and the timer runs a full period from there. -/
theorem test_role_change_and_period_expiry :
    let u := after .keyChange { desk with diu := { desk.diu with key := { level := true, taken := false, endsAt := some 100000 } } }
    let v := after .deskPeriodExpiry u
    u.cru.role = .claiming ∧ u.cru.deskAt = some 200000 ∧ u.cru.deskDue = some 100000 ∧
    v.now = 100000 ∧ v.cru.deskAt = some 200000 ∧ v.cru.deskDue = none ∧ v.freeIndex = u.freeIndex + 1 ∧
    v.lif.contents = [.desk (u.deskContent u.flm.view)] ∧ (u.deskContent u.flm.view).role = .claiming := by decide +kernel

/-- 8.8 at 250 and 500 ms: F2 goes off, F1 goes off. -/
theorem test_flash_phases :
    (after (.flashPhaseEnd .f2) desk).idr.f2 = some { lit := false, endsAt := 500000 } ∧
    (after (.flashPhaseEnd .f1) desk).idr.f1 = some { lit := false, endsAt := 1000000 } ∧
    (after (.flashPhaseEnd .f2) desk).lampLit .source = false := by decide +kernel

/-- 8.9 at 450 ms: the end of the one-shot leaves silence. -/
theorem test_one_shot_end :
    let u := after .oneShotEnd (({ desk with cru := active.cru, now := 150000 } : State).toneIssue .overspeedWarn)
    u.now = 450000 ∧ u.idr.arbiter = Arbiter.reset := by decide +kernel

/-- 9.8 at 6500 ms: after 32 bit times of idle line, 128 us at 250 kbit/s, the urgent frame goes on the line. -/
theorem test_attempt_start :
    let s : State := { desk with lif := { waitingLif [.overdue 5 21 0] with idleSince := some 6500000 } }
    (after (.attemptStart 6500127) s).lif = s.lif ∧ (after (.attemptStart 6500128) s).ltxen = true ∧
    (after (.attemptStart 6500128) s).lif.driven.take 5 = [20, 0x60, 3, 5, 21] := by decide +kernel

/-- R165: the byte 20 in ten bits: the start bit at the non-idle level, the data bits with the least significant first, the stop
bit at the idle level. -/
theorem test_byte_on_the_line :
    byteLevels 20 = [.nonIdle, dataLevel false, dataLevel false, dataLevel true, dataLevel false, dataLevel true,
      dataLevel false, dataLevel false, dataLevel false, .idle] := rfl

/-- R165: a frame that begins with the byte 20, at 4 us a bit; LTXEN is active to the end of the last stop bit. -/
theorem test_frame_on_the_line :
    let s (now : Time) : State := { desk with lif := sendingLif (.desk deskContent) 0 none, now := now }
    ((s 0).ltxd = .nonIdle ∧ (s 12).ltxd = dataLevel true ∧ (s 36).ltxd = .idle ∧ (s 40).ltxd = .nonIdle ∧
     (s 720).ltxd = .idle) ∧
    (s 719).ltxen = true ∧ (s 720).ltxen = false :=
  ⟨⟨rfl, rfl, rfl, rfl, rfl⟩, by decide +kernel, by decide +kernel⟩

/-- R174: the DESK hold enters when the head has left, 18 bytes of ten bits of 4 us after the start; before that nothing has
succeeded; the 16th failure discards the head and raises 0xF070. -/
theorem test_attempt_ends :
    (after (.attemptSuccess 720) { desk with lif := sendingLif (.desk deskContent) 0 (some deskContent) }).lif.waiting =
      [{ content := .desk deskContent, entered := 720 }] ∧
    (after (.attemptSuccess 719) { desk with lif := sendingLif (.desk deskContent) 0 none }).lif =
      sendingLif (.desk deskContent) 0 none ∧
    (after (.attemptFailure 50) { desk with lif := sendingLif snapContent 15 none }).flm.records.map
      (fun r => (r.code, r.cls)) = [(0xF070, .action)] := by decide +kernel

/-- R169: after a start bit the receiver is ready 10 and then 11 bit times later, not before. -/
theorem test_receiver_ready :
    let u := after (.startBitHeard 100) { desk with lif := { desk.lif with ignoring := true } }
    (after (.receiverReady 183) u).lif.ignoring = true ∧ (after (.receiverReady 184) u).lif.ignoring = false ∧
    (after (.receiverReady 184) u).lif.idleSince = some 140 := by decide +kernel

/-- R24 and 5.10, the mirror desk: an ACKN from a desk that is VALID acknowledges the record; before that it is dropped. -/
theorem test_ackn_frame :
    let s := withList { notes 2 with records := [record 0x1A3F .action .raisedUnack 0] } desk
    (after (.acknFrame 9 (frameBytes (acknFrame 1 7 0x1A 0x3F))) (withEntry 19 (heard .valid 2 0 0 2 350000) s)).flm.records =
      [record 0x1A3F .action .raisedAck 0] ∧
    (after (.acknFrame 9 (frameBytes (acknFrame 1 7 0x1A 0x3F))) s).flm = s.flm := by decide +kernel

/-- R189 and R190: both parts are latched, SNAPSTATE first. -/
theorem test_snapreq :
    let u := after (.snapreq 5000 (frameBytes (snapreqFrame 3))) desk
    u.lif.waiting.map (·.content.kind) = [.snapstate, .snapfaults] ∧
    u.snu.latch.map (fun l => (l.requester, l.outstanding)) = some (30, { state := true, faults := true }) := by
  decide +kernel

/-- R171: a clash raises 0xF071 with its timer at 10 s; its expiry clears it. -/
theorem test_station_clash :
    let u := after (.stationClash 7 (frameBytes { speedFrame 5 with station := 20 })) desk
    u.lif.clashAt = some 10000007 ∧ u.flm.records.map (fun r => (r.code, r.cls)) = [(0xF071, .stop)] ∧
    (after .stationClashTimerExpiry u).flm.records.map (·.state) = [.clearedUnack] := by decide +kernel

/-- R179: the straps are sampled; station 0 leads to STRAP_FAULT, which shows E01. -/
theorem test_reset_release :
    (after (.resetRelease 3 straps20) State.reset).cfl.start = .loading ∧
    (after (.resetRelease 3 { straps20 with station := 0 }) State.reset).cfl.start = .strapFault ∧
    (after (.resetRelease 3 { straps20 with station := 0 }) State.reset).speedReadout = ['E', '0', '1'] := by decide +kernel

/-- An image of length 64, format 1, every other byte 0. -/
def image64 : List Byte := [0, 64, 1, 0, 0] ++ List.replicate 59 0

/-- R181 and 10.9: a whole image with a correct sum is taken; with format 2, or where the memory does not acknowledge a word
address byte, the fallback is loaded and its flag set. -/
theorem test_load_end :
    (after (.loadEnd 9 allAcks image64) (starting .loading)).cfl.fallback = false ∧
    (after (.loadEnd 9 allAcks image64) (starting .loading)).cfg.graceMs = 500 ∧
    (after (.loadEnd 9 allAcks (image64.set 2 2)) (starting .loading)).cfl.fallback = true ∧
    (after (.loadEnd 9 allAcks (image64.set 2 2)) (starting .loading)).tone = some .startChirp ∧
    (after (.loadEnd 9 { allAcks with wordLow := false } image64) (starting .loading)).cfl.fallback = true := by decide +kernel

/-- R181 and 10.9: an image of 234 bytes takes 2151 pulses of 10 us, about 21.5 ms, and one of 1024 bytes 92.6 ms. -/
theorem test_load_pulses :
    (given [0, 234]).pulses = 2151 ∧ (given [4, 0]).pulses = 9261 ∧ 1000000 / msclHz = 10 := by decide +kernel

/-! ## States that meet the invariants -/

/-- The fallback configuration of station 20 is in range. -/
theorem test_fallback_inRange : (fallbackConfiguration 20).InRange 20 := by
  constructor
  case flash => constructor <;> (unfold FlashConfig.inRange; decide +kernel)
  case entries => intro i; unfold SourceConfig.inRange; revert i; decide +kernel
  case apart =>
    have h : ∀ i j : Fin 24, i ≠ j → ((fallbackConfiguration 20).entries.get i).enabled = true →
        ((fallbackConfiguration 20).entries.get j).enabled = true →
        (((fallbackConfiguration 20).entries.get i).station, ((fallbackConfiguration 20).entries.get i).kind) ≠
          (((fallbackConfiguration 20).entries.get j).station, ((fallbackConfiguration 20).entries.get j).kind) ∧
        (((fallbackConfiguration 20).entries.get i).kind = .fault ∨
          (((fallbackConfiguration 20).entries.get i).kind, ((fallbackConfiguration 20).entries.get i).roleIndex) ≠
          (((fallbackConfiguration 20).entries.get j).kind, ((fallbackConfiguration 20).entries.get j).roleIndex)) := by
      decide +kernel
    refine ⟨by decide +kernel, fun i j hij hi hj => ⟨fun e => (h i j hij hi hj).1 (by rw [e.1, e.2]), fun e => ?_⟩⟩
    cases (h i j hij hi hj).2 with
    | inl f => exact e.1 f
    | inr f => exact f (by rw [e.2.1, e.2.2])
  case catalogue =>
    intro k
    have h : ((fallbackConfiguration 20).catalogue.get k).rank ≤ 15 ∧ ((fallbackConfiguration 20).catalogue.get k).defaultSpeed = none := by
      revert k; decide +kernel
    exact ⟨h.1, by simp [h.2]⟩
  all_goals decide +kernel

/-- The desk with its startup grace about to expire. -/
def deskWaiting : State := { desk with pending := [.startupGraceExpiry] }

/-- A desk in RUNNING meets the invariants. -/
theorem test_desk_meets_invariants : deskWaiting.Inv := by
  constructor
  case quiet => exact ⟨fun h => absurd rfl h, fun h => absurd rfl h⟩
  case start =>
    constructor
    case station => rintro p ⟨⟩; decide +kernel
    all_goals decide +kernel
  case configured => rintro c ⟨⟩; exact test_fallback_inRange
  case sources =>
    intro i
    have h : deskWaiting.ssv.entries.get i = Entry.reset := by revert i; decide +kernel
    rw [h]; exact ⟨fun _ => rfl, rfl⟩
  case consumers =>
    have h : ∀ i : Fin 24, deskWaiting.ssv.entries.get i = Entry.reset := by decide +kernel
    intro i hi
    cases hk : (deskWaiting.source i).kind
    all_goals simp only [h]
    case speed => generalize Fin.ofNat 4 (deskWaiting.source i).roleIndex = k; revert k; decide +kernel
    case desk => generalize Fin.ofNat 3 (deskWaiting.source i).roleIndex = k; revert k; decide +kernel
    case aspect => split <;> rfl
  case fusion => constructor <;> decide +kernel
  case ranges =>
    constructor
    case slots =>
      intro k
      have h : deskWaiting.sfu.slots.get k = Slot.reset := by revert k; decide +kernel
      rw [h]; exact ⟨by decide, by rintro r ⟨⟩⟩
    case fused => rintro r ⟨⟩
    case copied => rintro r ⟨⟩
    case displayed => rintro r ⟨⟩
    all_goals decide +kernel
  case display => constructor <;> decide +kernel
  case aspect => constructor <;> decide +kernel
  case faults => constructor <;> decide +kernel
  case window => exact rfl
  case role => constructor <;> decide +kernel
  case inputs => constructor <;> (first | decide +kernel | (unfold Contact.Lawful; decide +kernel))
  case indications => constructor <;> decide +kernel
  case tone => exact ⟨by decide +kernel, by rintro o ⟨⟩⟩
  case line =>
    constructor
    case ordered => exact List.Pairwise.nil
    case attempts => rintro h ⟨⟩
    all_goals decide +kernel
  case urgent => exact fun _ => by decide +kernel
  case latch => exact ⟨by decide +kernel, by decide +kernel⟩

/-- The desk in ACTIVE at 80.12 km/h (slot 2) under code 0 from PRIMARY, permitted 80, target 100 in 201 m: the level is WARN and
its one-shot plays. -/
def guided : State :=
  let heardBoth := withEntry 2 (heard .valid 4 0 0 2 350000) (withEntry 4 (heard .valid 8 0 0 2 600000) active)
  let shown := (heardBoth.sfuPublished 2 .valid (some [0x1F, 0x4C, 1, 0])).asuPublished false 5 .valid
    (some [1, 0, 7, 0, 80, 0, 100, 0, 201])
  { shown with pending := [.flashPhaseEnd .f1] }

/-- A desk that runs under aspects meets the invariants. -/
theorem test_guided_meets_invariants : guided.Inv := by
  have entries : ∀ i : Fin 24, guided.ssv.entries.get i = Entry.reset ∨ i = 2 ∨ i = 4 := by decide +kernel
  constructor
  case quiet => exact ⟨fun h => absurd rfl h, fun h => absurd rfl h⟩
  case start =>
    constructor
    case station => rintro p ⟨⟩; decide +kernel
    all_goals decide +kernel
  case configured => rintro c ⟨⟩; exact test_fallback_inRange
  case sources =>
    intro i
    obtain h | rfl | rfl := entries i
    · rw [h]; exact ⟨fun _ => rfl, rfl⟩
    · have h : guided.ssv.entries.get 2 = heard .valid 4 0 0 2 350000 := by decide +kernel
      rw [h]; exact ⟨fun hc => absurd hc (by decide +kernel), rfl, rfl, rfl, rfl, rfl⟩
    · have h : guided.ssv.entries.get 4 = heard .valid 8 0 0 2 600000 := by decide +kernel
      rw [h]; exact ⟨fun hc => absurd hc (by decide +kernel), rfl, rfl, rfl, rfl, rfl⟩
  case consumers =>
    intro i hi
    have speed : ∀ i : Fin 24, (guided.source i).enabled = true → (guided.source i).kind = .speed →
        (guided.sfu.slots.get (Fin.ofNat 4 (guided.source i).roleIndex)).state = (guided.ssv.entries.get i).state := by
      decide +kernel
    have aspect : ∀ i : Fin 24, (guided.source i).enabled = true → (guided.source i).kind = .aspect →
        (if (guided.source i).roleIndex ≠ 0 then guided.asu.secondary.state else guided.asu.primary.state) =
          (guided.ssv.entries.get i).state := by decide +kernel
    have peer : ∀ i : Fin 24, (guided.source i).enabled = true → (guided.source i).kind = .desk →
        (guided.cru.peers.get (Fin.ofNat 3 (guided.source i).roleIndex)).state = (guided.ssv.entries.get i).state := by
      decide +kernel
    cases hk : (guided.source i).kind
    case speed => exact speed i hi hk
    case aspect => exact aspect i hi hk
    case desk => exact peer i hi hk
    case fault => trivial
  case fusion => constructor <;> decide +kernel
  case ranges => constructor <;> decide +kernel
  case display => constructor <;> decide +kernel
  case aspect => constructor <;> decide +kernel
  case faults => constructor <;> decide +kernel
  case window => exact rfl
  case role => constructor <;> decide +kernel
  case inputs => constructor <;> (first | decide +kernel | (unfold Contact.Lawful; decide +kernel))
  case indications => constructor <;> decide +kernel
  case tone => exact ⟨by decide +kernel, by decide +kernel⟩
  case line =>
    constructor
    case ordered => exact List.Pairwise.nil
    all_goals decide +kernel
  case urgent => exact fun _ => by decide +kernel
  case latch => exact ⟨by decide +kernel, by decide +kernel⟩

/-- A desk in LAMP_CHECK meets the invariants, with the fallback or an image, with the key on or off. -/
theorem test_lamp_check_meets_invariants (fallback key : Bool) : (lampChecking fallback key).Inv := by
  constructor
  case quiet =>
    refine ⟨fun _ => ?_, fun _ h => absurd rfl h⟩
    constructor <;> (cases fallback <;> cases key <;> decide +kernel)
  case start =>
    constructor
    case station => rintro p ⟨⟩; cases fallback <;> cases key <;> decide +kernel
    all_goals (cases fallback <;> cases key <;> decide +kernel)
  case configured => rintro c ⟨⟩; exact test_fallback_inRange
  case sources =>
    intro i
    have h : (lampChecking fallback key).ssv.entries.get i = Entry.reset := by
      revert i; cases fallback <;> cases key <;> decide +kernel
    rw [h]; exact ⟨fun _ => rfl, rfl⟩
  case consumers =>
    have h : ∀ i : Fin 24, (lampChecking fallback key).ssv.entries.get i = Entry.reset := by
      cases fallback <;> cases key <;> decide +kernel
    intro i hi
    cases hk : ((lampChecking fallback key).source i).kind
    all_goals simp only [h]
    case speed =>
      generalize Fin.ofNat 4 ((lampChecking fallback key).source i).roleIndex = k
      revert k; cases fallback <;> cases key <;> decide +kernel
    case desk =>
      generalize Fin.ofNat 3 ((lampChecking fallback key).source i).roleIndex = k
      revert k; cases fallback <;> cases key <;> decide +kernel
    case aspect => split <;> rfl
  case fusion => constructor <;> (cases fallback <;> cases key <;> decide +kernel)
  case ranges =>
    constructor
    case slots =>
      intro k
      have h : (lampChecking fallback key).sfu.slots.get k = Slot.reset := by
        revert k; cases fallback <;> cases key <;> decide +kernel
      rw [h]; exact ⟨by decide, by rintro r ⟨⟩⟩
    case fused => rintro r ⟨⟩
    case copied => rintro r ⟨⟩
    case displayed => rintro r ⟨⟩
    all_goals (cases fallback <;> cases key <;> decide +kernel)
  case display => constructor <;> (cases fallback <;> cases key <;> decide +kernel)
  case aspect => constructor <;> (cases fallback <;> cases key <;> decide +kernel)
  case faults => constructor <;> (cases fallback <;> cases key <;> decide +kernel)
  case window => exact rfl
  case role => constructor <;> (cases fallback <;> cases key <;> decide +kernel)
  case inputs =>
    constructor <;>
      (cases fallback <;> cases key <;> (first | decide +kernel | (unfold Contact.Lawful; decide +kernel)))
  case indications => constructor <;> (cases fallback <;> cases key <;> decide +kernel)
  case tone => exact ⟨by cases fallback <;> cases key <;> decide +kernel, by rintro o ⟨⟩⟩
  case line =>
    constructor
    case ordered => exact List.Pairwise.nil
    case attempts => rintro h ⟨⟩
    all_goals (cases fallback <;> cases key <;> decide +kernel)
  case urgent => exact fun _ => by cases fallback <;> cases key <;> decide +kernel
  case latch => exact ⟨by cases fallback <;> cases key <;> decide +kernel, by cases fallback <;> cases key <;> decide +kernel⟩

/-! ## States and operands that meet the hypotheses of the statements -/

theorem hears_of {s : State} {bytes : List Byte} {f : Frame}
    (h : (s.running && s.lif.drive == .released && !s.lif.ignoring && parseFrame bytes == some f && f.station != s.own) = true) :
    s.Hears bytes f := by
  simp only [Bool.and_eq_true, beq_iff_eq, Bool.not_eq_true', bne_iff_ne, State.running] at h
  exact ⟨h.1.1.1.1, h.1.1.1.2, h.1.1.2, h.1.2, h.2⟩

theorem arrives_of {s : State} {bytes : List Byte} {f : Frame} {i : Fin 24} (kind : SourceKind)
    (h : (s.running && s.lif.drive == .released && !s.lif.ignoring && parseFrame bytes == some f && f.station != s.own) = true)
    (k : f.kind.supervised = some kind ∧ s.entryFor f.station kind = some i) : s.Arrives bytes f i :=
  ⟨hears_of h, kind, k⟩

theorem test_witness_StepRunsTheFrontCommand :
    deskWaiting.pending = .startupGraceExpiry :: [] ∧ desk.pending = [] := ⟨rfl, rfl⟩

theorem test_witness_CommandsChangeOnlyTheirBlocks :
    (mayChange .testPress .flm = false ∧ exec .testPress desk = .next (after .testPress desk)) ∧
    (let u := after (.arrival 100000 (frameBytes (deskFrame 3))) (withEntry 19 (heard .valid 3 0 0 2 350000) desk)
     u.cru ≠ desk.cru) ∧
    (let u := after (.arrival 100000 (frameBytes (speedFrame 5))) (withEntry 2 (heard .valid 4 0 0 2 350000) desk)
     u.sfu ≠ desk.sfu ∧ u.sdm ≠ desk.sdm) ∧
    (let u := after (.arrival 100000 (frameBytes (aspectFrame 21 15))) (withEntry 4 (heard .valid 8 0 0 2 600000) desk)
     u.asu ≠ desk.asu) := ⟨⟨rfl, rfl⟩, by decide +kernel, by decide +kernel, by decide +kernel⟩

theorem test_witness_arrivals :
    (withEntry 19 (heard .valid 3 0 0 2 350000) desk).Arrives (frameBytes (deskFrame 3)) (deskFrame 3) 19 ∧
    (withEntry 2 (heard .valid 4 0 0 2 350000) desk).Arrives (frameBytes (speedFrame 5)) (speedFrame 5) 2 ∧
    (withEntry 4 (heard .valid 8 0 0 2 600000) desk).Arrives (frameBytes (aspectFrame 21 15)) (aspectFrame 21 15) 4 :=
  ⟨arrives_of .desk (by decide +kernel) (by decide +kernel), arrives_of .speed (by decide +kernel) (by decide +kernel),
   arrives_of .aspect (by decide +kernel) (by decide +kernel)⟩

theorem test_witness_RunningIsLeftByResetOnly :
    desk.cfl.start = .running ∧ (starting .strapFault).cfl.start = .strapFault ∧
    (∀ t source, Instr.deskPeriodExpiry ≠ .reset t source) ∧
    exec .deskPeriodExpiry desk = .next (after .deskPeriodExpiry desk) ∧
    exec .deskPeriodExpiry (starting .strapFault) = .next (after .deskPeriodExpiry (starting .strapFault)) :=
  ⟨rfl, rfl, fun _ _ => by simp, rfl, rfl⟩

theorem test_witness_ReleaseSamplesTheStraps : State.reset.cfl.start = .sampling := rfl

theorem test_witness_LoadEndEntersLampCheck :
    (starting .loading).cfl.start = .loading ∧
    (starting .loading).idr.arbiter = { asserted := [], oneShot := none, playing := none } ∧
    (given image64).imageTaken = true ∧ (given (image64.set 1 63)).imageTaken = false ∧
    (given (image64.set 2 2)).failure = some .wrongFormat ∧ (given (image64.set 4 1)).failure = some .wrongSum ∧
    ({ given image64 with acks := { allAcks with readAddress := false } } : MemoryAnswer).failure = some .noAnswer := by
  decide +kernel

theorem test_witness_LampCheckExpiryStartsRunning :
    ((lampChecking true true).Inv ∧ (lampChecking true true).cfl.lampCheckAt = some 1000000) ∧
    ((lampChecking false false).Inv ∧ (lampChecking false false).cfl.lampCheckAt = some 1000000) :=
  ⟨⟨test_lamp_check_meets_invariants true true, rfl⟩, ⟨test_lamp_check_meets_invariants false false, rfl⟩⟩

theorem test_witness_ConflictingEntriesAreDisabled :
    (List.replicate 24 (fallbackEntry 3 .speed 0)).length = 24 ∧
    (checkedEntries 20 (List.replicate 24 (fallbackEntry 3 .speed 0))).toList.map (·.enabled) =
      true :: List.replicate 23 false := by decide +kernel

theorem test_witness_SentFramesAreGood :
    (1 ≤ 1 ∧ 31 ≤ 31) ∧
    ∀ c, TxContent.snapFaults { requester := 31, records := (notes 6).records } = .snapFaults c → c.records.length ≤ 6 :=
  ⟨by decide, by rintro c ⟨⟩; decide⟩

/-- An urgent frame at exactly 32 bit times of 4 us, a normal one at exactly 64, a head that failed before. -/
theorem test_witness_AttemptStartSendsTheFirstFrame :
    (let s : State := { desk with lif := waitingLif [.overdue 5 21 0] }
     s.cfl.start = .running ∧ s.lif.drive = .released ∧ s.lif.idleSince = some 0 ∧ s.lif.head = none ∧
     s.lif.waiting = queued (.overdue 5 21 0) :: [] ∧ (queued (.overdue 5 21 0)).content.urgent = true ∧
     0 + (12 + s.own) * s.bitTime = max s.now 128) ∧
    (let s : State := { desk with lif := waitingLif [.desk deskContent] }
     s.lif.idleSince = some 0 ∧ s.lif.head = none ∧ s.lif.waiting = queued (.desk deskContent) :: [] ∧
     (queued (.desk deskContent)).content.urgent = false ∧ 0 + (44 + s.own) * s.bitTime = max s.now 256) ∧
    (let s : State := { desk with lif := { sendingLif (.desk deskContent) 15 none with drive := .released, idleSince := some 0 } }
     s.lif.drive = .released ∧ s.lif.idleSince = some 0 ∧
     s.lif.head = some { content := .desk deskContent, entered := 0, seq := 3, attempts := 15 } ∧
     0 + (44 + s.own) * s.bitTime ≤ max s.now 256) ∧
    (let s : State := { desk with lif := sendingLif (.desk deskContent) 0 none, now := 719 }
     s.lif.drive ≠ .released ∧ s.lif.drivenAt = some 0 ∧ 17 < s.lif.driven.length ∧ 0 + (10 * 17 + 9) * s.bitTime ≤ s.now ∧
     s.now < 0 + (10 * 17 + 9 + 1) * s.bitTime ∧ 0 + 10 * s.lif.driven.length * s.bitTime = 720) := by decide +kernel

theorem test_witness_AttemptSuccessSendsTheHead :
    (let s : State := { desk with lif := sendingLif (.desk deskContent) 0 (some deskContent) }
     s.lif.drive = .head ∧ s.lif.head.isSome = true ∧ s.lif.drivenAt = some 0 ∧
     max s.now 719 < 0 + 10 * s.lif.driven.length * s.bitTime ∧ 0 + 10 * s.lif.driven.length * s.bitTime ≤ max s.now 720 ∧
     s.lif.hold = some deskContent ∧ s.lif.waiting.length < 8 ∧
     ∀ q ∈ s.lif.waiting, q.content.isDesk = false) ∧
    (let s : State := { desk with lif := { sendingLif (.overdue 5 21 0) 0 none with failedSendRaised := true } }
     s.lif.drive = .head ∧ s.lif.head.isSome = true ∧ s.lif.hold = none ∧ s.lif.failedSendRaised = true) ∧
    (let s : State := { desk with lif := sendingLif (.overdue 5 21 0) 0 none }
     s.lif.drive = .head ∧ s.lif.hold = none ∧ (TxContent.overdue 5 21 0).isSnap = false ∧
     s.lif.failedSendRaised = false ∧ s.lif.queueLossRaised = false) ∧
    (let l (k : Nat) : Lif := { sendingLif snapContent 0 none with
       waiting := (waitingLif (List.replicate k (.overdue 5 21 0))).waiting, queueLossRaised := true }
     (l 4).drive = .head ∧ (l 4).hold = none ∧ (l 4).queueLossRaised = true ∧ (l 4).waiting.length ≤ 4 ∧
     4 < (l 5).waiting.length) := by decide +kernel

/-- The 15th failure, and the 16th with 0xF070 not raised and raised. -/
theorem test_witness_AttemptFailureCountsOrDiscards :
    (let s : State := { desk with lif := sendingLif snapContent 14 none }
     s.lif.drive = .head ∧ s.lif.drivenAt = some 0 ∧ s.lif.head.map (·.attempts) = some 14) ∧
    (let s : State := { desk with lif := sendingLif snapContent 15 none }
     s.lif.drive = .head ∧ s.lif.head.map (·.attempts) = some 15 ∧ s.lif.failedSendRaised = false) ∧
    (let s : State := { desk with lif := { sendingLif snapContent 15 none with failedSendRaised := true } }
     s.lif.drive = .head ∧ s.lif.head.map (·.attempts) = some 15 ∧ s.lif.failedSendRaised = true ∧ s.lif.hold = none ∧
     s.lif.queueLossRaised = false) := by decide +kernel

theorem test_witness_LineEventsChangeOnlyTheLine :
    desk.lif.drive = .released ∧ parseFrame (frameBytes (speedFrame 5)) = some (speedFrame 5) ∧
    isDiscarded [3, 0x15] .cutShort = true ∧
    (let s : State := { desk with lif := { desk.lif with ignoring := true } }
     s.lif.drive = .released ∧ s.lif.ignoring = true ∧ s.lif.idleSince = some 0 ∧ 0 + 11 * s.bitTime = max s.now 44) ∧
    (let s : State := { desk with lif := { desk.lif with ignoring := true, idleSince := none, busyUntil := 40 } }
     s.lif.drive = .released ∧ s.lif.ignoring = true ∧ s.lif.idleSince = none ∧ s.lif.busyUntil + 11 * s.bitTime = 84 ∧
     max s.now 83 < s.lif.idleSince.getD s.lif.busyUntil + 11 * s.bitTime ∧
     s.lif.idleSince.getD s.lif.busyUntil + 11 * s.bitTime ≤ max s.now 84) ∧
    (let s : State := { desk with lif := { sendingLif snapContent 0 none with head := none, drive := .pruned } }
     s.lif.drive = .pruned ∧ s.lif.drivenAt = some 0 ∧ 0 + 10 * s.lif.driven.length * s.bitTime = 280) := by decide +kernel

theorem test_witness_StationClashRaisesAndClears :
    (desk.cfl.start = .running ∧ desk.lif.drive = .released ∧ desk.lif.ignoring = false ∧
     parseFrame (frameBytes { speedFrame 5 with station := 20 }) = some { speedFrame 5 with station := 20 } ∧
     ({ speedFrame 5 with station := 20 } : Frame).station = desk.own ∧ desk.lif.clashRaised = false) ∧
    ({ desk with lif := sendingLif snapContent 0 none } : State).lif.drive ≠ .released ∧
    ({ desk with lif := { desk.lif with clashAt := some 10000007, clashRaised := true } } : State).lif.clashAt =
      some 10000007 := by decide +kernel

/-- A queue of 7 and of 8 frames, with and without a frame that gives way, a queued DESK frame, and a DESK head. -/
theorem test_witness_HandedFramesArePlaced :
    let od : TxContent := .overdue 5 21 0
    (let l := sendingLif (.desk deskContent) 0 none
     l.length ≤ 8 ∧ l.headIsDesk = true) ∧
    (let l := waitingLif [od, .desk deskContent]
     l.length ≤ 8 ∧ l.headIsDesk = false ∧ ∃ q ∈ l.waiting, q.content.isDesk = true) ∧
    (let l := waitingLif (List.replicate 7 od)
     l.length = 7 ∧ l.headIsDesk = false ∧ ∀ q ∈ l.waiting, q.content.isDesk = false) ∧
    (let l := waitingLif (List.replicate 8 od)
     l.length = 8 ∧ od.isDesk = false ∧ ∀ q ∈ l.waiting, (!q.content.urgent) = false) ∧
    (let l := waitingLif (List.replicate 7 od ++ [snapContent])
     l.length = 8 ∧ l.waiting = List.replicate 7 (queued od) ++ queued snapContent :: [] ∧
     (!(queued snapContent).content.urgent) = true) ∧
    (let full : State := { desk with lif := waitingLif (List.replicate 8 od) }
     (desk.lif.place desk.now od).lost = none ∧ (full.lif.place full.now od).lost = some od ∧ full.lif.queueLossRaised = false) ∧
    (let s (k : Nat) : State := { active with lif := { waitingLif (List.replicate k od) with queueLossRaised := true } }
     (s 4).lif.queueLossRaised = true ∧ (s 4).lif.length ≤ 4 ∧ 4 < (s 5).lif.length ∧ (s 4).lif.hold = none ∧
     (s 5).pruneQueue.lif.length < (s 5).lif.length ∧ (s 5).pruneQueue.lif.length ≤ 4) ∧
    (sendingLif od 0 none).head.isSome = true := by decide +kernel

theorem test_witness_DuplicateArrivalIsDiscarded :
    (withEntry 2 (heard .valid 5 0 0 2 350000) desk).Arrives (frameBytes (speedFrame 5)) (speedFrame 5) 2 ∧
    ((withEntry 2 (heard .valid 5 0 0 2 350000) desk).ssv.entries.get 2).lastSeq = some (speedFrame 5).seq ∧
    Entry.reset.lastSeq = none :=
  ⟨arrives_of .speed (by decide +kernel) (by decide +kernel), by decide +kernel, rfl⟩

/-- One microsecond less than the lower bound of 20 ms: in QUALIFYING, in VALID, and in SUSPECT one below the loss limit. -/
theorem test_witness_EarlyArrivalIsAViolation :
    (withEntry 2 (heard .qualifying 4 0 0 1 250000) desk).Arrives (frameBytes (speedFrame 5)) (speedFrame 5) 2 ∧
    (withEntry 2 (heard .valid 4 0 0 2 250000) desk).Arrives (frameBytes (speedFrame 5)) (speedFrame 5) 2 ∧
    (withEntry 2 (heard .suspect 4 0 2 2 250000) desk).Arrives (frameBytes (speedFrame 5)) (speedFrame 5) 2 ∧
    (heard .valid 4 0 0 2 250000).lastSeq ≠ some (speedFrame 5).seq ∧ (heard .valid 4 0 0 2 250000).lastAccepted = some 0 ∧
    0 < (desk.source 2).lowerMs ∧ (desk.source 2).lowerMs < (desk.source 2).upperMs ∧
    max desk.now 19999 - 0 < ms (desk.source 2).lowerMs ∧ ¬(max desk.now 20000 - 0 < ms (desk.source 2).lowerMs) ∧
    (desk.source 2).lossLimit = 3 :=
  ⟨arrives_of .speed (by decide +kernel) (by decide +kernel), arrives_of .speed (by decide +kernel) (by decide +kernel),
   arrives_of .speed (by decide +kernel) (by decide +kernel), by decide +kernel⟩

/-- Exactly the lower bound after the last one; the five states, and a gap with sequence 3 before 5. -/
theorem test_witness_AcceptedArrivalMovesTheEntry :
    desk.Arrives (frameBytes (speedFrame 5)) (speedFrame 5) 2 ∧
    (∀ e ∈ [Entry.reset, { Entry.reset with state := .lost, lossReported := true }, heard .qualifying 4 0 0 1 250000,
        heard .qualifying 3 0 0 0 250000, heard .valid 4 0 0 2 250000, heard .valid 3 0 0 2 250000,
        heard .suspect 4 0 2 2 250000, heard .suspect 3 0 2 2 250000],
      e.lastSeq ≠ some (speedFrame 5).seq ∧ e.early (desk.source 2) (max desk.now 20000) = false) ∧
    (desk.source 2).qualCount = 2 ∧ (desk.source 6).qualCount = 1 :=
  ⟨arrives_of .speed (by decide +kernel) (by decide +kernel), by decide +kernel⟩

/-- A used and an unused arrival of each kind; a loss; a qualification with the loss reported. -/
theorem test_witness_ArrivalReachesItsConsumer :
    ((withEntry 19 (heard .valid 3 0 0 2 350000) desk).Arrives (frameBytes (deskFrame 3)) (deskFrame 3) 19 ∧
     (withEntry 4 (heard .valid 8 0 0 2 600000) desk).Arrives (frameBytes (aspectFrame 21 15)) (aspectFrame 21 15) 4 ∧
     desk.Arrives (frameBytes faultFrame) faultFrame 6 ∧ desk.Arrives (frameBytes (speedFrame 5)) (speedFrame 5) 2) ∧
    (∀ e ∈ [heard .valid 4 0 0 2 250000, heard .suspect 4 0 2 2 250000],
      e.lastSeq ≠ some (speedFrame 5).seq ∧ e.early (desk.source 2) (max desk.now 20000) = false ∧
      ((after (.arrival 20000 (frameBytes (speedFrame 5))) (withEntry 2 e desk)).ssv.entries.get 2).state = .valid) ∧
    ((after (.arrival 20000 (frameBytes (speedFrame 5))) desk).ssv.entries.get 2).state = .qualifying ∧
    ((after (.arrival 20000 (frameBytes (speedFrame 6))) (withEntry 2 (heard .suspect 4 0 2 2 250000) desk)).ssv.entries.get
      2).state = .lost ∧
    (let e : Entry := { heard .qualifying 4 0 0 1 250000 with lossReported := true }
     e.state = .qualifying ∧ e.lossReported = true ∧ (desk.source 2).report ≠ .silent ∧
     ((after (.arrival 20000 (frameBytes (speedFrame 5))) (withEntry 2 e desk)).ssv.entries.get 2).state = .valid) :=
  ⟨⟨arrives_of .desk (by decide +kernel) (by decide +kernel), arrives_of .aspect (by decide +kernel) (by decide +kernel),
    arrives_of .fault (by decide +kernel) (by decide +kernel), arrives_of .speed (by decide +kernel) (by decide +kernel)⟩,
   by decide +kernel, by decide +kernel, by decide +kernel, by decide +kernel⟩

theorem test_witness_LateExpiryMovesTheEntry :
    ∀ e ∈ [heard .qualifying 4 0 0 1 250000, heard .valid 4 0 0 2 250000, heard .suspect 4 0 2 2 250000],
      ((withEntry 2 e desk).ssv.entries.get 2).lateAt = some 250000 ∧
      (((withEntry 2 e desk).ssv.entries.get 2).state = .qualifying ∨ ((withEntry 2 e desk).ssv.entries.get 2).state = .valid ∨
        ((withEntry 2 e desk).ssv.entries.get 2).state = .suspect) ∧
      (desk.source 2).report = .fault ∧ (desk.source 6).report = .warning := by decide +kernel

theorem test_witness_GraceExpiryLosesTheAbsent :
    desk.ssv.graceAt = some 3000000 ∧ (desk.source 2).enabled = true ∧ (desk.ssv.entries.get 2).state = .absent ∧
    (desk.source 23).enabled = false := by decide +kernel

/-- An ACKN of a desk that is not VALID, one of what ASPECT that matches, and one of what FAULT. -/
theorem test_witness_AcknFrameIsTakenFromPresentDesks :
    desk.Hears (frameBytes (acknFrame 0 5 0 21)) (acknFrame 0 5 0 21) ∧ (acknFrame 0 5 0 21).kind = .ackn ∧
    desk.deskPresent 21 = false ∧
    (let s := withPending false (withEntry 19 (heard .valid 2 0 0 2 350000) desk)
     s.deskPresent 21 = true ∧ byteAt (acknFrame 0 5 0 21).payload 0 = 0 ∧ s.asu.pendingAck = some (pending21 false) ∧
     (pending21 false).station = (byteAt (acknFrame 0 5 0 21).payload 1).toNat ∧
     (pending21 false).inst = byteAt (acknFrame 0 5 0 21).payload 3) ∧
    (let f := acknFrame 1 7 0x1A 0x3F
     byteAt f.payload 0 ≠ 0 ∧ (record 0x1A3F .action .raisedUnack 0).origin = (byteAt f.payload 1).toNat ∧
     (record 0x1A3F .action .raisedUnack 0).code = wordAt f.payload 2) :=
  ⟨hears_of (by decide +kernel), by decide +kernel⟩

/-- A slot that is usable with this speed. -/
def slotAt (speed : Nat) : Slot :=
  { state := .valid, report := some { speed := speed, direction := .forward, quality := .good }, outliers := 0 }

/-- None to four usable slots, and two exactly T and T + 1 apart. -/
theorem test_witness_FusedSpeedIsTheTable :
    let v (u : Sfu) : List Nat := ascending (u.reports.map (·.speed))
    v { Sfu.reset with slots := #v[slotAt 8012, slotAt 8034, slotAt 8120, slotAt 7650] } = [7650, 8012, 8034, 8120] ∧
    v { Sfu.reset with slots := #v[slotAt 8012, slotAt 8034, slotAt 8120, Slot.reset] } = [8012, 8034, 8120] ∧
    v { Sfu.reset with slots := #v[slotAt 8150, Slot.reset, slotAt 8000, Slot.reset] } = [8000, 8150] ∧
    v { Sfu.reset with slots := #v[slotAt 8151, Slot.reset, slotAt 8000, Slot.reset] } = [8000, 8151] ∧
    8150 - 8000 ≤ desk.cfg.tolerance ∧ desk.cfg.tolerance < 8151 - 8000 ∧
    v { Sfu.reset with slots := #v[slotAt 40000, Slot.reset, Slot.reset, Slot.reset] } = [40000] ∧ v Sfu.reset = [] := by
  decide +kernel

/-- The bounds of the counts and of the speed state: 4 to 5, 5 to 0, and UNKNOWN left and entered with the grace expired. -/
theorem test_witness_FusedSpeedIsTheTable_requests :
    let c := desk.cfg
    let far : Vector Slot 4 := #v[slotAt 8012, slotAt 8034, { slotAt 8200 with outliers := 4 }, { slotAt 8034 with outliers := 5 }]
    let u : Sfu := { Sfu.reset with slots := far, graceExpired := true, noSpeedRaised := true }
    let two : Sfu := { Sfu.reset with
      slots := #v[slotAt 8000, slotAt 8151, Slot.reset, Slot.reset], disagreements := 4 }
    let none0 : Sfu := { Sfu.reset with disagreements := 5, speedState := .good, graceExpired := true }
    ((u.computed c).slots.get 2).outliers = 5 ∧ ((u.computed c).slots.get 3).outliers = 0 ∧
    u.speedState = .unknown ∧ (u.computed c).speedState = .good ∧ (u.computed c).fused = some 8034 ∧
    (two.computed c).disagreements = 5 ∧ (none0.computed c).disagreements = 0 ∧ (none0.computed c).speedState = .unknown := by
  decide +kernel

/-- Each case of R46 at the bounds of 3.8: the standstill threshold, 69 and 70 hundredths from D. -/
theorem test_witness_DisplayedSpeedHasHysteresis :
    displayedAfter false 30 20 (some 80) (some 29) = some 0 ∧ displayedAfter false 30 20 none (some 30) = some 0 ∧
    displayedAfter false 30 20 (some 80) (some 8069) = some 80 ∧ displayedAfter false 30 20 (some 80) (some 8070) = some 81 ∧
    displayedAfter false 30 20 none (some 40000) = some 400 ∧ displayedAfter true 30 20 none (some 40000) = some 249 := by
  decide +kernel

/-- Each case of R55 at its threshold for P = 80, W = 3, R = 2; R as great as W; nothing to compare. -/
theorem test_witness_OverspeedLevelHasHysteresis :
    levelAfter 3 2 .normal (some 8300) (some 80) = .warn ∧ levelAfter 3 2 .normal (some 8301) (some 80) = .alarm ∧
    levelAfter 3 2 .alarm (some 8100) (some 80) = .alarm ∧ levelAfter 3 2 .alarm (some 8099) (some 80) = .warn ∧
    levelAfter 3 2 .normal (some 8000) (some 80) = .normal ∧ levelAfter 3 2 .warn (some 7800) (some 80) = .warn ∧
    levelAfter 3 2 .warn (some 7799) (some 80) = .normal ∧ levelAfter 5 5 .alarm (some 8000) (some 80) = .alarm ∧
    levelAfter 3 2 .alarm none (some 80) = .notSupervised := by decide +kernel

theorem test_witness_OverspeedTransitionsIssueTheirTones :
    desk.cfg.reporting = .entryAndReturn ∧ desk.sdm.rearm = true ∧ desk.sdm.level = .notSupervised ∧
    desk.evaluateOverspeed.sdm.level = .notSupervised ∧
    (let p80 : Limits := { Limits.absent with permitted := some 80 }
     let s : State := { desk with sdm := { desk.sdm with level := .alarm, fused := some 6400, limits := p80 } }
     s.evaluateOverspeed.sdm.level = .normal ∧
     s.evaluateOverspeed.idr.arbiter.oneShot.map (·.pattern) = none) ∧
    overspeedIssue .entryAndReturn false .alarm .normal = some .overspeedClear := by decide +kernel

/-- Each row of the table of roles has a view that meets it: no claim, a CLAIMING, an ACTIVE and a CONFLICT peer. -/
theorem test_witness_RoleFollowsTheTable :
    let cru (code : Byte) (key : Bool) : Cru :=
      { Cru.reset with peers := Cru.reset.peers.set 0 { state := .valid, held := some { roleCode := code, keyOn := key } } }
    (∀ v ∈ Cru.reset.peers.toList, v.counted = .idle ∨ v.counted = .mirror) ∧
    (∃ v ∈ (cru 2 true).peers.toList, v.counted = .claiming) ∧ (∃ v ∈ (cru 3 true).peers.toList, v.counted = .active) ∧
    (∃ v ∈ (cru 4 true).peers.toList, v.counted = .conflict ∧ ∃ h ∈ v.held, h.keyOn = true) ∧
    (∀ v ∈ (cru 4 false).peers.toList, PeerView.claims v = false) := by decide +kernel

/-- A view of station 5 that holds a report of this code with this permitted speed. -/
def viewAt (state : EntryState) (code : Option (Fin 16)) (permitted : Option Nat) : SourceView :=
  { state := state
    report := some { station := 5, inst := 21, code := code,
                     limits := { permitted := permitted, target := some 40, distance := none } } }

/-- Usable with its own speed and without one; not usable: code out of range, code not used, LOST, no report. -/
theorem test_witness_SelectionTakesTheFirstCase :
    (((viewAt .valid (some 0) (some 80)).usable desk.cfg.catalogue).isSome = true ∧
     ((viewAt .suspect (some 15) none).usable desk.cfg.catalogue).isSome = true ∧
     (viewAt .valid none none).usable desk.cfg.catalogue = none ∧
     (viewAt .valid (some 1) none).usable desk.cfg.catalogue = none ∧
     (viewAt .qualifying (some 0) none).usable desk.cfg.catalogue = none ∧
     ({ state := .valid, report := none } : SourceView).usable desk.cfg.catalogue = none) ∧
    (ShownAspect.nothing.rank < (lossAspect 20 desk.cfg).rank) ∧ (ShownAspect.nothing.rank ≤ ShownAspect.nothing.rank) := by
  decide +kernel

/-- The desk with these two aspect inputs, and the disagreement timer and the two flags as given. -/
def withInputs (primary secondary : SourceView) (timer : Option Time) (disagreed lost : Bool) : State :=
  { desk with asu := { desk.asu with
    primary := primary, secondary := secondary, graceExpired := true, disagreeAt := timer, disagreeRaised := disagreed
    lossRaised := lost } }

/-- A reselection that opens a record (the loss aspect after the grace), and one that changes nothing; two inputs that differ
with the timer stopped, running and expired; and the flags set where the disagreement ends and where an input is usable. -/
theorem test_witness_RestrictiveChangeOpensTheRecord :
    (let s : State := { desk with asu := { desk.asu with graceExpired := true } }
     s.reselect.asu.shown.code ≠ s.asu.shown.code ∧ s.asu.pendingAck = none ∧
     s.asu.shown.rank < s.reselect.asu.shown.rank) ∧
    desk.reselect.asu.shown.code = desk.asu.shown.code ∧
    (let stop := viewAt .valid (some 15) none
     let go := viewAt .valid (some 0) none
     let none0 := SourceView.reset
     codesDiffer (go.usable desk.cfg.catalogue) (stop.usable desk.cfg.catalogue) = true ∧
     (withInputs go stop none false false).reselect.asu.disagreeAt = some 2000000 ∧
     (withInputs go stop (some 5) false false).reselect.asu.disagreeAt = some 5 ∧
     (withInputs go stop none true false).reselect.asu.disagreeAt = none ∧
     (withInputs go go none true true).reselect.asu.disagreeRaised = false ∧
     (withInputs go go none true true).reselect.asu.lossRaised = false ∧
     (withInputs none0 none0 none false false).reselect.flm.records.map (fun r => (r.origin, r.code, r.cls)) =
       [(20, 0xF041, .stop)] ∧
     (withInputs none0 none0 none false true).reselect.flm = desk.flm) := by decide +kernel

theorem test_witness_AspectTimersExpire :
    ((withPending false desk).asu.ackAt = some 9000000 ∧ (withPending false desk).asu.pendingAck = some (pending21 false) ∧
     (withPending false desk).cru.role ≠ .active) ∧
    ((withPending false active).cru.role = .active ∧ (withPending false active).lif.length < 8) ∧
    ((withPending true active).asu.repeatAt = some 10000000 ∧ (withPending true active).asu.pendingAck = some (pending21 true) ∧
     (pending21 true).overdue = true) ∧
    ({ desk with asu := { desk.asu with disagreeAt := some 7000000 } } : State).asu.disagreeAt = some 7000000 := by
  decide +kernel

/-- A lawful list with one record of each unacknowledged state. -/
def twoStates : Flm :=
  { records := [record 1 .note .raisedUnack 0, record 2 .note .clearedUnack 1], counter := 2, overflow := false,
    reminderAt := none }

theorem twoStates_lawful : twoStates.Lawful := by constructor <;> decide +kernel

/-- A press outside ACTIVE, one with a record open, and presses on a RAISED_UNACK and a CLEARED_UNACK record. -/
theorem test_witness_AcknowledgePressActsByRoute :
    (let s : State := { desk with diu := { desk.diu with acknowledge := contact true } }
     s.cfl.start = .running ∧ s.diu.acknowledge = { level := true, taken := false, endsAt := some 41000 } ∧
     s.routed = none ∧ s.cru.role ≠ .active) ∧
    (let s := withRouted .toAsu (withPending true active)
     s.routed = some { route := .toAsu, at0 := 0 } ∧ s.cru.role = .active ∧ s.asu.pendingAck = some (pending21 true)) ∧
    (let s := withRouted (.toFlm { origin := 7, code := 2 }) (withList twoStates active)
     s.routed = some { route := .toFlm { origin := 7, code := 2 }, at0 := 0 } ∧ s.cru.role = .active ∧
     s.flm.find 7 2 = some (record 2 .note .clearedUnack 1) ∧ s.flm.find 7 3 = none ∧ s.lif.length < 8) ∧
    ((withPending true active).cru.role = .active ∧ (withPending true active).asu.pendingAck = some (pending21 true) ∧
     (withPending true active).lif.length < 8) ∧
    (active.asu.pendingAck = none ∧ shownRecord twoStates none = some (record 1 .note .raisedUnack 0) ∧
     shownRecord twoStates (some { origin := 7, code := 2 }) = some (record 2 .note .clearedUnack 1)) ∧
    twoStates.Lawful :=
  ⟨by decide +kernel, by decide +kernel, by decide +kernel, by decide +kernel, by decide +kernel, twoStates_lawful⟩

theorem notes31_lawful : (notes 31).Lawful := by constructor <;> decide +kernel

theorem fullList_lawful : fullList.Lawful := by constructor <;> decide +kernel

/-- The desk's own records, one in each state. -/
def ownRecords : Flm :=
  { records := [{ record 1 .note .raisedUnack 0 with origin := 20, internal := true },
      { record 2 .note .clearedUnack 1 with origin := 20, internal := true },
      { record 3 .note .raisedAck 2 with origin := 20, internal := true }]
    counter := 3
    overflow := false
    reminderAt := none }

theorem ownRecords_lawful : ownRecords.Lawful := by constructor <;> decide +kernel

theorem test_witness_RaiseAndClearRequests :
    ((notes 31).Lawful ∧ (notes 31).find 20 0xF072 = none ∧ (notes 31).records.length < 32 ∧ (notes 31).counter < 65535) ∧
    (fullList.Lawful ∧ fullList.find 20 0xF072 = none ∧ fullList.records.length = 32 ∧
     (∀ q ∈ fullList.records, q.cls.num ≤ FaultClass.note.num)) ∧
    (ownRecords.Lawful ∧ (withList ownRecords desk).own = 20 ∧
     (let last : Flm := { notes 31 with counter := 65535 }
      last.find 20 0xF072 = none ∧ last.records.length < 32 ∧ last.counter = 65535 ∧ (∀ r ∈ last.records, r.stamp < last.counter)) ∧
     ((ownRecords.find 20 1).map (·.state) = some .raisedUnack ∧ (ownRecords.find 20 2).map (·.state) = some .clearedUnack ∧
      (ownRecords.find 20 3).map (·.state) = some .raisedAck)) ∧
    -- An ACTION record created and re-raised, none issued at a refresh; the reminder started, left running and stopped.
    ((active.flmRaise 1 .action).idr.arbiter.playing = some { pattern := .faultAction, since := 0 } ∧
     (active.flmRaise 1 .action).flm.reminderAt = some 60000000 ∧
     ((withList ownRecords active).flmRaise 2 .action).idr.arbiter.oneShot = some { pattern := .faultAction, endsAt := 400000 } ∧
     ((withList ownRecords active).flmRaise 1 .action).idr.arbiter = active.idr.arbiter ∧
     (({ active.flmRaise 1 .action with now := 7 } : State).flmRaise 2 .action).flm.reminderAt = some 60000000 ∧
     ((active.flmRaise 1 .action).flmClear 1).flm.reminderAt = none) :=
  ⟨⟨notes31_lawful, by decide +kernel⟩, ⟨fullList_lawful, by decide +kernel⟩, ⟨ownRecords_lawful, by decide +kernel⟩, by decide +kernel⟩

theorem test_witness_EvictionTakesTheLeastSevere :
    fullList.Lawful ∧ fullList.records.length = 32 ∧
    (∀ q ∈ fullList.records, q.cls.num ≤ (record 200 .note .raisedUnack 0).cls.num) ∧
    (∃ q ∈ fullList.records, (record 200 .action .raisedUnack 0).cls.num < q.cls.num) ∧ fullList.counter < 65535 ∧
    ({ fullList with counter := 65535 } : Flm).Lawful ∧ ({ fullList with counter := 65535 } : Flm).counter = 65535 :=
  ⟨fullList_lawful, by decide +kernel, by decide +kernel, by decide +kernel, by decide +kernel,
   by constructor <;> decide +kernel, rfl⟩

/-- A summary of one new and one known code, to a list of 30 records that fills it, with room for the stamps and without. -/
theorem test_witness_ReconciliationMergesTheSummary :
    let listed : List ListedFault := [{ code := 1, cls := .stop }, { code := 900, cls := .note }]
    (notes 30).Lawful ∧ (listed.map (·.code)).Nodup ∧ (notes 30).records.length + listed.length = 32 ∧
    (notes 30).counter + listed.length < 65535 ∧ (∀ q ∈ (notes 30).records, q.origin = 7 → q.internal = false) ∧
    (notes 30).find 7 900 = none ∧ (notes 30).find 7 1 = some (record 1 .note .raisedUnack 1) ∧
    ({ notes 30 with counter := 65535 } : Flm).Lawful ∧
    (({ notes 30 with counter := 65535 } : Flm).reconcile 7 listed).flm.counter = 31 :=
  ⟨by constructor <;> decide +kernel, by decide +kernel, by decide +kernel, by decide +kernel, by decide +kernel,
   by decide +kernel, by decide +kernel, by constructor <;> decide +kernel, by decide +kernel⟩

theorem test_witness_ReminderSoundsAndRestarts :
    let s (role : Role) : State := { active with
      flm := { records := [record 1 .action .raisedUnack 0], counter := 1, overflow := false, reminderAt := some 60000000 }
      cru := { active.cru with role := role } }
    (s .active).flm.reminderAt = some 60000000 ∧ (s .active).eligible .reminder = true ∧
    (∀ p ∈ patternsByPriority, p.priority < 9 → (s .active).eligible p = true → (s .active).idr.arbiter.member p = false) ∧
    (s .mirror).eligible .reminder = false ∧
    -- Under an eligible FAULT_STOP; and OVERSPEED_WARN issued while it plays.
    ((active.toneHold .faultStop true).eligible .faultStop = true ∧
     .faultStop ∈ (active.toneHold .faultStop true).idr.arbiter.asserted) ∧
    guided.ToneLawful ∧ guided.idr.arbiter.oneShot = some { pattern := .overspeedWarn, endsAt := 300000 } :=
  ⟨by decide +kernel, by decide +kernel, by decide +kernel, by decide +kernel, by decide +kernel,
   test_guided_meets_invariants.tone, by decide +kernel⟩

theorem test_witness_KeyAndClaimWindowDecideTheRole :
    (let s (start : StartState) : State := { desk with
       diu := { desk.diu with key := { level := true, taken := false, endsAt := some 50000 } }
       cfl := { desk.cfl with start := start } }
     (s .running).diu.key.endsAt = some 50000 ∧ (s .running).cfl.start = .running ∧ (s .lampCheck).cfl.start ≠ .running ∧
     ({ (s .running).cru with keyOn := true } : Cru).nextRole false ≠ (s .running).cru.role) ∧
    (let s (v : PeerView) : State := { desk with
       cru := { desk.cru with role := .claiming, keyOn := true, claimAt := some 300000, peers := desk.cru.peers.set 0 v } }
     (s PeerView.reset).cru.claimAt = some 300000 ∧ (s PeerView.reset).cru.role = .claiming ∧
     (s PeerView.reset).cru.keyOn = true ∧
     (∀ v ∈ (s PeerView.reset).cru.peers.toList, v.counted ≠ .claiming ∧ v.counted ≠ .active) ∧
     (∃ v ∈ (s { state := .valid, held := some { roleCode := 2, keyOn := true } }).cru.peers.toList, v.counted = .claiming ∨
       v.counted = .active)) ∧
    (let s : State := withPending true { desk with cru := { desk.cru with role := .claiming, keyOn := true, claimAt := some 10000000 } }
     (after .claimWindowExpiry s).cru.role = .active ∧ s.asu.pendingAck = some (pending21 true) ∧ (pending21 true).overdue = true ∧
     s.lif.length < 7) ∧
    (let s : State := { withPending true active with
       diu := { active.diu with key := { level := false, taken := true, endsAt := some 50000 } } }
     s.cru.role = .active ∧ (after .keyChange s).cru.role ≠ s.cru.role ∧ s.asu.repeatAt = some 10000000) ∧
    desk.flm.Lawful :=
  ⟨by decide +kernel, by decide +kernel, by decide +kernel, by decide +kernel, by constructor <;> decide +kernel⟩

/-- A DESK head, a queued DESK frame, and neither with room for one. -/
theorem test_witness_DeskPeriodHandsADeskFrame :
    desk.cru.deskAt = some 100000 ∧ desk.cru.deskDue = none ∧
    ({ desk with lif := sendingLif (.desk deskContent) 0 none } : State).lif.headIsDesk = true ∧
    (let s : State := { desk with cru := { desk.cru with deskAt := some 200000, deskDue := some 100000 }, now := 100000 }
     s.cru.deskDue = some 100000 ∧ s.lif.headIsDesk = false ∧ s.lif.length < 8) ∧
    (let s : State := { desk with diu := { desk.diu with key := { level := true, taken := false, endsAt := some 100000 } } }
     s.diu.key.endsAt = some 100000 ∧ s.cfl.start = .running ∧ s.cru.deskDue = none ∧ s.cru.deskAt = some (max s.now 100000) ∧
     ({ s.cru with keyOn := s.diu.key.level } : Cru).nextRole false ≠ s.cru.role) ∧
    (let l := waitingLif [.overdue 5 21 0, .desk deskContent]
     l.headIsDesk = false ∧ ∃ q ∈ l.waiting, q.content.isDesk = true) ∧
    (let l := waitingLif (List.replicate 7 snapContent)
     l.headIsDesk = false ∧ (∀ q ∈ l.waiting, q.content.isDesk = false) ∧ l.length < 8) := by decide +kernel

theorem test_witness_LevelChangeStartsTheInterval :
    desk.cfl.start ≠ .sampling ∧ desk.diu.acknowledge.level ≠ true ∧ desk.diu.scroll.level = false ∧
    desk.diu.test.level = false ∧ desk.diu.key.level = false ∧ active.diu.key.level = true ∧ desk.diu.dimmer.level = 7 ∧
    (∀ line < 3, desk.diu.dimmer.level.getLsbD line = true) ∧
    (after (.inputLevelChange 5 (.dim1 false)) desk).diu.dimmer.level.getLsbD 1 = false := by decide +kernel

theorem test_witness_TestReleaseAndDimmerAreTaken :
    desk.cfl.start ≠ .strapFault ∧ contact true = { level := true, taken := false, endsAt := some 41000 } ∧
    contact false = { level := false, taken := true, endsAt := some 41000 } ∧
    ({ desk with diu := { desk.diu with dimmer := { level := 0, taken := 7, endsAt := some 100000 } } } : State).diu.dimmer.endsAt =
      some 100000 := by decide +kernel

/-- An empty list, one record, a window on a record in the middle and on the last one. -/
theorem test_witness_ScrollMovesTheWindow :
    let r (k : Nat) : FaultRecord := record (BitVec.ofNat 16 k) .note .raisedUnack k
    desk.cfl.start = .running ∧ contact true = { level := true, taken := false, endsAt := some 41000 } ∧
    desk.flm.records = [] ∧ (notes 1).records = [r 0] ∧ (notes 2).records = r 0 :: r 1 :: [] ∧
    ((notes 3).records = [r 0] ++ r 1 :: r 2 :: [] ∧ (∀ q ∈ [r 0], q.is 7 1 = false) ∧ (r 1).is 7 1 = true) ∧
    ((notes 3).records = [r 0, r 1] ++ [r 2] ∧ (∀ q ∈ [r 0, r 1], q.is 7 2 = false) ∧ (r 2).is 7 2 = true) ∧
    ({ desk with diu := { desk.diu with scrollAt := some 12000000 } } : State).diu.scrollAt = some 12000000 := by
  decide +kernel

theorem test_witness_PhasesAndOneShotsEnd :
    desk.idr.f1.isSome = true ∧ desk.idr.f2.isSome = true ∧
    (let a : Arbiter := { asserted := [.faultStop], oneShot := some { pattern := .overspeedAlarm, endsAt := 1500000 },
                          playing := some { pattern := .overspeedAlarm, since := 0 } }
     a.oneShot.isSome = true ∧ .faultStop ∈ a.asserted ∧ desk.eligible .faultStop = true ∧
     ∀ q ∈ a.asserted, desk.eligible q = true → Pattern.faultStop.priority ≤ q.priority) ∧
    (let s := desk.toneIssue .faultAction
     (active.toneIssue .faultAction).idr.arbiter.oneShot.isSome = true ∧ ∀ q ∈ s.idr.arbiter.asserted, s.eligible q = false) := by
  decide +kernel

theorem test_witness_OutputsFollowStartStateAndRole :
    (starting .sampling).cfl.start = .sampling ∧ (starting .strapFault).cfl.start = .strapFault ∧
    (lampChecking true false).cfl.start = .lampCheck ∧
    (let s : State := { desk with diu := { desk.diu with testHeld := true } }
     s.cfl.start = .running ∧ s.diu.testHeld = true) ∧
    (desk.cfl.start = .running ∧ desk.diu.testHeld = false ∧ desk.cru.role = .idle ∧ active.cru.role ≠ .idle ∧
     desk.sdm.displayed = none ∧ desk.lampDrive .source = .fast) := by decide +kernel

/-- A free latch with 6 frames in the queue, both parts asked for; and a held one. -/
theorem test_witness_SnapshotRequestIsLatched :
    let s : State := { desk with lif := waitingLif (List.replicate 6 (.overdue 5 21 0)) }
    s.Hears (frameBytes (snapreqFrame 3)) (snapreqFrame 3) ∧ (snapreqFrame 3).kind = .snapreq ∧
    (byteAt (snapreqFrame 3).payload 0).toNat = s.own ∧ s.snu.latch = none ∧ s.lif.length = 6 ∧
    (after (.snapreq 5 (frameBytes (snapreqFrame 3))) desk).snu.latch.isSome = true :=
  ⟨hears_of (by decide +kernel), by decide +kernel⟩

/-- The values of the desk after a step (R49 to R53; R84 and R85; R158). -/
theorem test_step_values :
    (let u := after (.flashPhaseEnd .f1) guided
     u.sdm.displayed = some 80 ∧ u.sdm.lit = 30 ∧ u.sdm.permittedMarker = some 30 ∧ u.sdm.targetMarker = some 37 ∧
     u.sdm.markerDrive 30 = .fast ∧ u.sdm.markerDrive 37 = .steady ∧ u.sdm.targetReadout = some 100 ∧ u.sdm.bar = 2 ∧
     u.idr.lamps.overspeed = .steady ∧ u.idr.arbiter.playing = some { pattern := .overspeedWarn, since := 0 }) ∧
    (let u := after .startupGraceExpiry desk
     u.asu.shown.code = some 15 ∧ u.asu.pendingAck.isSome = true ∧ .aspectRestrict ∈ u.idr.arbiter.asserted ∧
     .faultStop ∈ u.idr.arbiter.asserted ∧ u.eligible .aspectRestrict = false ∧ u.eligible .faultStop = true ∧
     u.idr.lamps.stop = .fast ∧ u.idr.lamps.action = .slow ∧ u.idr.lamps.source = .fast) := by decide +kernel

/-- The invariant statements: states that meet them all, with commands that step them. -/
theorem test_witness_invariant_steps :
    deskWaiting.Inv ∧ step deskWaiting = .next (after .startupGraceExpiry desk) ∧ deskWaiting.flm.Lawful ∧
    guided.Inv ∧ step guided = .next (after (.flashPhaseEnd .f1) { guided with pending := [] }) :=
  ⟨test_desk_meets_invariants, rfl, test_desk_meets_invariants.faults, test_guided_meets_invariants, rfl⟩

end Sys2Proof.Tests
end

section
/-! PROOFS. A duplicate arrival (R7): what hearing a good frame of another station does by itself, what an event that leaves
its entry as it is does, and the duplicate test. -/

namespace Sys2Proof.Machine

open Sys2Proof

/-! ### A good frame of another station is heard (R169, R170) -/

theorem State.hearFrame_reach_of_hears {s : State} {bytes : List Byte} {f : Frame} (h : s.Hears bytes f) (t : Time) :
    (s.reach t).hearFrame bytes = s.heardAt t := by
  obtain ⟨-, released, ready, good, -⟩ := h
  simp [State.hearFrame, State.heardAt, State.reach, released, ready, good]

theorem State.fromPeer_reach_of_hears {s : State} {bytes : List Byte} {f : Frame} (h : s.Hears bytes f) (t : Time) :
    (s.reach t).fromPeer bytes = some f := by
  obtain ⟨running, released, ready, good, peer⟩ := h
  have own : (s.reach t).own = s.own := State.own_of_cfl rfl
  have assembled : (s.reach t).assembled bytes = some f := by simp [State.assembled, released, ready, good]
  simp [State.fromPeer, assembled, State.running, running, own, peer]

/-- A heard frame reaches its receiver in the state where its idle period has begun. -/
theorem State.onFrame_of_hears {s : State} {bytes : List Byte} {f : Frame} (h : s.Hears bytes f) (t : Time)
    (act : Frame → State → State) : s.onFrame t bytes act = act f (s.heardAt t) := by
  simp only [State.onFrame, State.fromPeer_reach_of_hears h t, State.hearFrame_reach_of_hears h t]

/-! ### An arrival is an event at its entry (R6) -/

theorem State.ssvArrival_of_entryFor {s : State} {f : Frame} {i : Fin 24} {kind : SourceKind}
    (supervised : f.kind.supervised = some kind) (found : s.entryFor f.station kind = some i) :
    s.ssvArrival f = s.entryEvent i ((s.ssv.entries.get i).arrive (s.source i) s.now f.seq) f.payload := by
  simp only [State.ssvArrival, supervised, found]

/-- Hearing a frame touches neither the configuration nor the Source Table, so the arrival meets the entry as it stood. -/
theorem exec_arrival_of_arrives {s : State} {bytes : List Byte} {f : Frame} {i : Fin 24} (h : s.Arrives bytes f i) (t : Time) :
    exec (.arrival t bytes) s = .next ((s.heardAt t).entryEvent i
      ((s.ssv.entries.get i).arrive (s.source i) (max s.now t) f.seq) f.payload) := by
  obtain ⟨heard, kind, supervised, found⟩ := h
  have found_heard : (s.heardAt t).entryFor f.station kind = some i := found
  calc exec (.arrival t bytes) s
      = .next (s.onFrame t bytes State.ssvArrival) := rfl
    _ = .next ((s.heardAt t).ssvArrival f) := by rw [State.onFrame_of_hears heard]
    _ = .next ((s.heardAt t).entryEvent i
          ((s.ssv.entries.get i).arrive (s.source i) (max s.now t) f.seq) f.payload) := by
      rw [State.ssvArrival_of_entryFor supervised found_heard]
      rfl

/-! ### An event that leaves its entry as it is -/

@[simp] theorem State.requests_nil (s : State) : s.requests [] = s := rfl

@[simp] theorem Entry.requests_only (e : Entry) (i : Fin 24) (mode : ReportMode) : (Entry.only e).requests i mode = [] := rfl

/-- Nothing is written, published or reported where an entry's event gives the entry itself and nothing else (R23). -/
theorem State.entryEvent_only_self (s : State) (i : Fin 24) (payload : List Byte) :
    s.entryEvent i (Entry.only (s.ssv.entries.get i)) payload = s := by
  have table : s.ssv.entries.set i (s.ssv.entries.get i) = s.ssv.entries := Vector.set_getElem_self i.isLt
  simp only [State.entryEvent, Entry.requests_only, State.requests_nil]
  simp [Entry.only, table]

/-! ### The duplicate test (R7) -/

theorem Entry.duplicate_iff (e : Entry) (seq : Seq) : e.duplicate seq = true ↔ e.lastSeq = some seq := by
  simp [Entry.duplicate]

theorem Entry.arrive_of_lastSeq {e : Entry} {seq : Seq} (h : e.lastSeq = some seq) (c : SourceConfig) (now : Time) :
    e.arrive c now seq = Entry.only e := by
  simp only [Entry.arrive, (e.duplicate_iff seq).mpr h, if_true]

theorem Entry.not_duplicate_of_lastSeq_none {e : Entry} (h : e.lastSeq = none) (seq : Seq) : e.duplicate seq = false := by
  simp [Entry.duplicate, h]

/-- Settles O21: the duplicate's result is the entry itself, and an event with that result changes nothing after the hearing. -/
theorem duplicateArrivalIsDiscarded : Obligations.DuplicateArrivalIsDiscarded := by
  refine ⟨fun t bytes f i s arrives last => ?_, fun _ seq fresh => Entry.not_duplicate_of_lastSeq_none fresh seq⟩
  rw [exec_arrival_of_arrives arrives, Entry.arrive_of_lastSeq last]
  exact congrArg Host.Outcome.next ((s.heardAt t).entryEvent_only_self i f.payload)

end Sys2Proof.Machine
end

section
/-! PROOFS. The Speed Display and Overspeed Monitor (R46, R54, R55, R58 to R61): the displayed speed after a hand-off, the
overspeed level after an evaluation, the tones of its transitions, and what an evaluation and a hand-off do at the SDM. -/

namespace Sys2Proof.Machine

open Sys2Proof

/-! ### The displayed speed (R46) -/

section
variable {mph : Bool} {standstill hysteresis f d x : Nat} {before fused : Option Nat}

theorem le_distance_iff {n a b : Nat} : n ≤ distance a b ↔ b + n ≤ a ∨ a + n ≤ b := by
  unfold distance; omega

@[simp] theorem displayedAfter_unknown : displayedAfter mph standstill hysteresis before none = none := rfl

theorem displayedAfter_of_below (h : f < standstill) :
    displayedAfter mph standstill hysteresis before (some f) = some 0 := if_pos h

theorem displayedAfter_first (h : standstill ≤ f) :
    displayedAfter mph standstill hysteresis none (some f) = some (candidate (inDisplayUnit mph f)) :=
  if_neg (Nat.not_lt.2 h)

theorem displayedAfter_shown (h : standstill ≤ f) :
    displayedAfter mph standstill hysteresis (some d) (some f) =
      if candidate (inDisplayUnit mph f) ≠ d ∧ 50 + hysteresis ≤ distance (inDisplayUnit mph f) (100 * d)
      then some (candidate (inDisplayUnit mph f)) else some d :=
  if_neg (Nat.not_lt.2 h)

/-- What a hand-off of a known speed can do: show 0, show the candidate, or hold a D that is it or not far enough away. -/
theorem displayedAfter_known_cases (mph : Bool) (standstill hysteresis f : Nat) (before : Option Nat) :
    (f < standstill ∧ displayedAfter mph standstill hysteresis before (some f) = some 0) ∨
    (standstill ≤ f ∧
      displayedAfter mph standstill hysteresis before (some f) = some (candidate (inDisplayUnit mph f))) ∨
    (standstill ≤ f ∧ ∃ d, before = some d ∧ displayedAfter mph standstill hysteresis before (some f) = some d ∧
      ¬(candidate (inDisplayUnit mph f) ≠ d ∧ 50 + hysteresis ≤ distance (inDisplayUnit mph f) (100 * d))) := by
  rcases Nat.lt_or_ge f standstill with below | moving
  · exact .inl ⟨below, displayedAfter_of_below below⟩
  · cases before with
    | none => exact .inr (.inl ⟨moving, displayedAfter_first moving⟩)
    | some d =>
      rw [displayedAfter_shown moving]
      split
      next => exact .inr (.inl ⟨moving, rfl⟩)
      next held => exact .inr (.inr ⟨moving, d, rfl, rfl, held⟩)

/-- A D that shows the candidate is kept. -/
theorem displayedAfter_candidate (h : standstill ≤ f) :
    displayedAfter mph standstill hysteresis (some (candidate (inDisplayUnit mph f))) (some f) =
      some (candidate (inDisplayUnit mph f)) := by
  rw [displayedAfter_shown h, if_neg fun far => far.1 rfl]

theorem displayedAfter_again :
    displayedAfter mph standstill hysteresis (displayedAfter mph standstill hysteresis before fused) fused =
      displayedAfter mph standstill hysteresis before fused := by
  cases fused with
  | none => rfl
  | some f =>
    obtain ⟨below, zero⟩ | ⟨moving, moved⟩ | ⟨moving, d, -, held, near⟩ :=
      displayedAfter_known_cases mph standstill hysteresis f before
    · rw [zero, displayedAfter_of_below below]
    · rw [moved, displayedAfter_candidate moving]
    · rw [held, displayedAfter_shown moving, if_neg near]

theorem displayedAfter_eq_none_iff : displayedAfter mph standstill hysteresis before fused = none ↔ fused = none := by
  cases fused with
  | none => simp
  | some f =>
    obtain ⟨-, shown⟩ | ⟨-, shown⟩ | ⟨-, d, -, shown, -⟩ :=
      displayedAfter_known_cases mph standstill hysteresis f before <;>
    simp [shown]

/-- Less than 100 hundredths from the source value is within one unit of the rounded value. -/
theorem near_candidate {g : Nat} (h : ¬ 100 ≤ distance g (100 * d)) : d ≤ candidate g + 1 ∧ candidate g ≤ d + 1 := by
  rw [le_distance_iff] at h
  unfold candidate
  omega

theorem displayedAfter_near_candidate (moving : standstill ≤ f) (narrow : hysteresis ≤ 50)
    (h : displayedAfter mph standstill hysteresis before (some f) = some x) :
    x ≤ candidate (inDisplayUnit mph f) + 1 ∧ candidate (inDisplayUnit mph f) ≤ x + 1 := by
  obtain ⟨below, -⟩ | ⟨-, moved⟩ | ⟨-, d, -, held, near⟩ :=
    displayedAfter_known_cases mph standstill hysteresis f before
  · omega
  · obtain rfl : candidate (inDisplayUnit mph f) = x := Option.some.inj (moved ▸ h)
    omega
  · obtain rfl : d = x := Option.some.inj (held ▸ h)
    by_cases same : candidate (inDisplayUnit mph f) = d
    · omega
    · exact near_candidate fun far => near ⟨same, by omega⟩

/-- The largest speed a report can carry, 400 km/h, is displayed as 400 km/h or 249 mph. -/
theorem candidate_inDisplayUnit_le (h : f ≤ 40000) :
    candidate (inDisplayUnit mph f) ≤ if mph then 249 else 400 := by
  cases mph <;> simp [candidate, inDisplayUnit, toMph] <;> omega

theorem displayedAfter_le (inRange : f ≤ 40000) (shown : ∀ d, before = some d → d ≤ if mph then 249 else 400)
    (h : displayedAfter mph standstill hysteresis before (some f) = some x) : x ≤ if mph then 249 else 400 := by
  obtain ⟨-, zero⟩ | ⟨-, moved⟩ | ⟨-, d, was, held, -⟩ :=
    displayedAfter_known_cases mph standstill hysteresis f before
  · obtain rfl : 0 = x := Option.some.inj (zero ▸ h)
    exact Nat.zero_le _
  · obtain rfl : candidate (inDisplayUnit mph f) = x := Option.some.inj (moved ▸ h)
    exact candidate_inDisplayUnit_le inRange
  · obtain rfl : d = x := Option.some.inj (held ▸ h)
    exact shown d was

end

/-! ### The thresholds and the overspeed level (R54, R55) -/

section
variable {w r f p : Nat} {before : OverspeedLevel} {fused permitted : Option Nat}

theorem alarmOff_add (h : r ≤ w) : alarmOff p w r + 100 * r = alarmOn p w := by
  unfold alarmOff alarmOn; omega

/-- No ALARM is held at or below the permitted speed (R54). -/
theorem warnOn_le_alarmOff (h : r ≤ w) : warnOn p ≤ alarmOff p w r := by
  unfold warnOn alarmOff alarmOn; omega

theorem alarmOff_le_alarmOn : alarmOff p w r ≤ alarmOn p w := Nat.sub_le ..

theorem warnOff_le_warnOn : warnOff p r ≤ warnOn p := Nat.sub_le ..

theorem warnOn_le_alarmOn : warnOn p ≤ alarmOn p w := by
  unfold warnOn alarmOn; omega

theorem supervisedLevel_of_above_alarmOn (h : alarmOn p w < f) : supervisedLevel w r before f p = .alarm := if_pos h

theorem supervisedLevel_of_alarm_held (h : alarmOff p w r ≤ f) : supervisedLevel w r .alarm f p = .alarm := by
  unfold supervisedLevel
  split
  · rfl
  · exact if_pos ⟨rfl, h⟩

theorem supervisedLevel_of_above_warnOn (noAlarm : f ≤ alarmOn p w) (notHeld : ¬(before = .alarm ∧ alarmOff p w r ≤ f))
    (h : warnOn p < f) : supervisedLevel w r before f p = .warn := by
  rw [supervisedLevel, if_neg (Nat.not_lt.2 noAlarm), if_neg notHeld, if_pos h]

theorem supervisedLevel_of_warn_held (noWarn : f ≤ warnOn p) (notHeld : ¬(before = .alarm ∧ alarmOff p w r ≤ f))
    (up : before = .warn ∨ before = .alarm) (h : warnOff p r ≤ f) : supervisedLevel w r before f p = .warn := by
  rw [supervisedLevel, if_neg (Nat.not_lt.2 (Nat.le_trans noWarn warnOn_le_alarmOn)), if_neg notHeld,
    if_neg (Nat.not_lt.2 noWarn), if_pos ⟨up, h⟩]

/-- R at most W puts alarm_off above warn_off, so that where no WARN is held no ALARM is held either. -/
theorem supervisedLevel_of_none_held (narrow : r ≤ w) (noWarn : f ≤ warnOn p)
    (notHeld : ¬((before = .warn ∨ before = .alarm) ∧ warnOff p r ≤ f)) : supervisedLevel w r before f p = .normal := by
  have noAlarmHeld : ¬(before = .alarm ∧ alarmOff p w r ≤ f) := fun ⟨up, h⟩ =>
    notHeld ⟨.inr up, Nat.le_trans warnOff_le_warnOn (Nat.le_trans (warnOn_le_alarmOff narrow) h)⟩
  rw [supervisedLevel, if_neg (Nat.not_lt.2 (Nat.le_trans noWarn warnOn_le_alarmOn)), if_neg noAlarmHeld,
    if_neg (Nat.not_lt.2 noWarn), if_neg notHeld]

/-- What an evaluation can do, each level with the band of f that it stays in. -/
theorem supervisedLevel_cases (narrow : r ≤ w) (before : OverspeedLevel) (f p : Nat) :
    (supervisedLevel w r before f p = .alarm ∧ alarmOff p w r ≤ f) ∨
    (supervisedLevel w r before f p = .warn ∧ f ≤ alarmOn p w ∧ warnOff p r ≤ f) ∨
    (supervisedLevel w r before f p = .normal ∧ f ≤ warnOn p) := by
  rcases Nat.lt_or_ge (alarmOn p w) f with above | noAlarm
  · exact .inl ⟨supervisedLevel_of_above_alarmOn above, Nat.le_trans alarmOff_le_alarmOn (Nat.le_of_lt above)⟩
  by_cases alarmHeld : before = .alarm ∧ alarmOff p w r ≤ f
  · obtain ⟨rfl, h⟩ := alarmHeld
    exact .inl ⟨supervisedLevel_of_alarm_held h, h⟩
  rcases Nat.lt_or_ge (warnOn p) f with above | noWarn
  · exact .inr (.inl ⟨supervisedLevel_of_above_warnOn noAlarm alarmHeld above, noAlarm,
      Nat.le_trans warnOff_le_warnOn (Nat.le_of_lt above)⟩)
  by_cases warnHeld : (before = .warn ∨ before = .alarm) ∧ warnOff p r ≤ f
  · exact .inr (.inl ⟨supervisedLevel_of_warn_held noWarn alarmHeld warnHeld.1 warnHeld.2, noAlarm, warnHeld.2⟩)
  · exact .inr (.inr ⟨supervisedLevel_of_none_held narrow noWarn warnHeld, noWarn⟩)

/-- WARN stays WARN from warn_off up to alarm_on. -/
theorem supervisedLevel_warn (noAlarm : f ≤ alarmOn p w) (h : warnOff p r ≤ f) : supervisedLevel w r .warn f p = .warn := by
  have notHeld : ¬(OverspeedLevel.warn = .alarm ∧ alarmOff p w r ≤ f) := by simp
  rcases Nat.lt_or_ge (warnOn p) f with above | noWarn
  · exact supervisedLevel_of_above_warnOn noAlarm notHeld above
  · exact supervisedLevel_of_warn_held noWarn notHeld (.inl rfl) h

theorem supervisedLevel_again (narrow : r ≤ w) (before : OverspeedLevel) (f p : Nat) :
    supervisedLevel w r (supervisedLevel w r before f p) f p = supervisedLevel w r before f p := by
  obtain ⟨alarm, h⟩ | ⟨warn, noAlarm, h⟩ | ⟨normal, h⟩ := supervisedLevel_cases narrow before f p
  · rw [alarm, supervisedLevel_of_alarm_held h]
  · rw [warn, supervisedLevel_warn noAlarm h]
  · rw [normal, supervisedLevel_of_none_held narrow h (by simp)]

@[simp] theorem levelAfter_known : levelAfter w r before (some f) (some p) = supervisedLevel w r before f p := rfl

theorem levelAfter_eq_notSupervised_iff (narrow : r ≤ w) :
    levelAfter w r before fused permitted = .notSupervised ↔ fused = none ∨ permitted = none := by
  match fused, permitted with
  | none, _ => simp [levelAfter]
  | some f, none => simp [levelAfter]
  | some f, some p =>
    obtain ⟨level, -⟩ | ⟨level, -⟩ | ⟨level, -⟩ := supervisedLevel_cases narrow before f p <;> simp [level]

theorem levelAfter_again (narrow : r ≤ w) :
    levelAfter w r (levelAfter w r before fused permitted) fused permitted = levelAfter w r before fused permitted := by
  match fused, permitted with
  | none, _ => rfl
  | some f, none => rfl
  | some f, some p => exact supervisedLevel_again narrow before f p

end

/-! ### The one-shot of a transition, by the level it moves to (R58, R60, R61) -/

section
variable (mode : ReportingMode) (rearm : Bool) (before after : OverspeedLevel)

@[simp] theorem overspeedIssue_notSupervised : overspeedIssue mode rearm before .notSupervised = none := by
  cases before <;> rfl

@[simp] theorem overspeedIssue_normal : overspeedIssue mode rearm before .normal =
    if before = .alarm ∧ mode = .entryAndReturn then some .overspeedClear else none := by
  cases before <;> simp [overspeedIssue]

@[simp] theorem overspeedIssue_warn : overspeedIssue mode rearm before .warn =
    if before = .normal ∨ before = .notSupervised then some .overspeedWarn
    else if before = .alarm ∧ mode = .entryAndReturn then some .overspeedClear else none := by
  cases before <;> simp [overspeedIssue]

@[simp] theorem overspeedIssue_alarm : overspeedIssue mode rearm before .alarm =
    if before ≠ .alarm ∧ (mode = .entryAndReturn ∨ (mode = .entryOnly ∧ rearm = true)) then some .overspeedAlarm
    else none := by
  cases before <;> cases mode <;> simp [overspeedIssue]

theorem overspeedIssue_eq_warn_iff : overspeedIssue mode rearm before after = some .overspeedWarn ↔
    after = .warn ∧ (before = .normal ∨ before = .notSupervised) := by
  cases after with
  | notSupervised | normal | alarm => simp
  | warn => cases before <;> simp

theorem overspeedIssue_eq_alarm_iff : overspeedIssue mode rearm before after = some .overspeedAlarm ↔
    after = .alarm ∧ before ≠ .alarm ∧ (mode = .entryAndReturn ∨ (mode = .entryOnly ∧ rearm = true)) := by
  cases after with
  | notSupervised | normal => simp
  | warn => cases before <;> simp
  | alarm => rw [overspeedIssue_alarm, Option.ite_none_right_eq_some]; simp

theorem overspeedIssue_eq_clear_iff : overspeedIssue mode rearm before after = some .overspeedClear ↔
    mode = .entryAndReturn ∧ before = .alarm ∧ (after = .warn ∨ after = .normal) := by
  cases after with
  | notSupervised | alarm => simp
  | normal => simp [and_comm]
  | warn => cases before <;> simp

end

/-! ### The re-arm flag (R61) -/

section
variable {before after : OverspeedLevel} {rearm : Bool}

theorem rearmAfter_of_entry (h : after = .alarm) (entered : before ≠ .alarm) : rearmAfter before after rearm = false := by
  subst h; exact if_neg entered

theorem rearmAfter_of_return (h : after = .normal ∨ after = .notSupervised) : rearmAfter before after rearm = true := by
  obtain rfl | rfl := h <;> rfl

theorem rearmAfter_of_kept (h : after = .warn ∨ (after = .alarm ∧ before = .alarm)) :
    rearmAfter before after rearm = rearm := by
  obtain rfl | ⟨rfl, rfl⟩ := h <;> rfl

end

/-! ### An evaluation and a hand-off at the SDM -/

@[simp] theorem State.evaluateOverspeed_level (s : State) : s.evaluateOverspeed.sdm.level =
    levelAfter s.cfg.warnBand s.cfg.returnHyst s.sdm.level s.sdm.fused s.sdm.limits.permitted := by
  simp [State.evaluateOverspeed]

theorem State.evaluateOverspeed_rearm (s : State) : s.evaluateOverspeed.sdm.rearm =
    rearmAfter s.sdm.level s.evaluateOverspeed.sdm.level s.sdm.rearm := by
  simp [State.evaluateOverspeed]

@[simp] theorem State.evaluateOverspeed_displayed (s : State) :
    s.evaluateOverspeed.sdm.displayed = s.sdm.displayed := by
  simp [State.evaluateOverspeed]

@[simp] theorem State.sdmHandOff_displayed (s : State) (fused : Option Nat) : (s.sdmHandOff fused).sdm.displayed =
    displayedAfter s.mph s.cfg.standstill s.cfg.hysteresis s.sdm.displayed fused := by
  simp [State.sdmHandOff]

/-- The arbiter with the continuous request as the evaluation of `s` hands it (R59), before the one-shot. -/
def State.overspeedHeld (s : State) : Arbiter :=
  (s.idr.arbiter.hold .overspeedAlarm
    (s.cfg.reporting == .continuous && s.evaluateOverspeed.sdm.level == .alarm)).rechoose s.eligible s.now

theorem State.toneIssueOpt_arbiter (s : State) (p : Option Pattern) :
    (s.toneIssueOpt p).idr.arbiter = p.elim s.idr.arbiter (s.idr.arbiter.issue s.eligible s.now) := by
  cases p <;> rfl

/-- The evaluation touches nothing that eligibility depends on, so the request and the one-shot meet the same arbiter rules. -/
theorem State.evaluateOverspeed_arbiter (s : State) : s.evaluateOverspeed.idr.arbiter =
    (overspeedIssue s.cfg.reporting s.sdm.rearm s.sdm.level s.evaluateOverspeed.sdm.level).elim
      s.overspeedHeld (s.overspeedHeld.issue s.eligible s.now) := by
  rw [State.overspeedHeld, State.evaluateOverspeed_level, State.evaluateOverspeed, State.toneIssueOpt_arbiter]
  rfl

theorem State.evaluateOverspeed_asserts_alarm_iff (s : State) :
    .overspeedAlarm ∈ s.evaluateOverspeed.idr.arbiter.asserted ↔
      s.cfg.reporting = .continuous ∧ s.evaluateOverspeed.sdm.level = .alarm := by
  have held : .overspeedAlarm ∈ s.overspeedHeld.asserted ↔
      s.cfg.reporting = .continuous ∧ s.evaluateOverspeed.sdm.level = .alarm := by
    simp [State.overspeedHeld]
  rw [State.evaluateOverspeed_arbiter, ← held]
  cases overspeedIssue s.cfg.reporting s.sdm.rearm s.sdm.level s.evaluateOverspeed.sdm.level <;> simp

/-! ### The obligations -/

/-- Settles O29: each case of R46 by its equation, and the rest from what a hand-off of a known speed can do. -/
theorem displayedSpeedHasHysteresis : Obligations.DisplayedSpeedHasHysteresis := by
  intro mph standstill hysteresis before fused after source nearest
  have far_iff (f d : Nat) : 100 * d + 50 + hysteresis ≤ source f ∨ source f + 50 + hysteresis ≤ 100 * d ↔
      50 + hysteresis ≤ distance (inDisplayUnit mph f) (100 * d) := by
    rw [le_distance_iff, Nat.add_assoc, Nat.add_assoc]; rfl
  refine ⟨?unknown, ?standstill, ?first, ?shown, displayedAfter_again, ?near, displayedAfter_eq_none_iff, ?range, ?sdm⟩
  case unknown => rintro rfl; rfl
  case standstill => rintro f rfl below; exact displayedAfter_of_below below
  case first => rintro f rfl moving rfl; exact displayedAfter_first moving
  case shown =>
    rintro f d rfl moving rfl
    rw [far_iff]
    exact ⟨fun far => (displayedAfter_shown moving).trans (if_pos far),
      fun near => (displayedAfter_shown moving).trans (if_neg near)⟩
  case near => rintro f x rfl moving narrow shown; exact displayedAfter_near_candidate moving narrow shown
  case range => rintro f x rfl inRange shown after_eq; exact displayedAfter_le inRange shown after_eq
  case sdm => rintro s rfl rfl rfl rfl; exact s.sdmHandOff_displayed fused

/-- Settles O30: each case of R55 by its equation, and stability from the band of f that each level stays in. -/
theorem overspeedLevelHasHysteresis : Obligations.OverspeedLevelHasHysteresis := by
  intro w r before fused permitted narrow
  refine ⟨fun p => ⟨rfl, rfl, alarmOff_add narrow, (Nat.zero_max _).symm, warnOn_le_alarmOff narrow⟩,
    levelAfter_eq_notSupervised_iff narrow, ?cases, levelAfter_again narrow, ?sdm⟩
  case cases =>
    rintro f p rfl rfl
    refine ⟨supervisedLevel_of_above_alarmOn, ?_, supervisedLevel_of_above_warnOn, supervisedLevel_of_warn_held,
      supervisedLevel_of_none_held narrow⟩
    rintro - rfl held
    exact supervisedLevel_of_alarm_held held
  case sdm => rintro s rfl rfl rfl rfl rfl; exact s.evaluateOverspeed_level

/-- Settles O31: the one-shots by the level moved to, the flag by its three cases, and the arbiter after an evaluation. -/
theorem overspeedTransitionsIssueTheirTones : Obligations.OverspeedTransitionsIssueTheirTones := by
  intro mode rearm before after
  refine ⟨overspeedIssue_eq_warn_iff .., overspeedIssue_eq_alarm_iff .., overspeedIssue_eq_clear_iff ..,
    rearmAfter_of_entry, rearmAfter_of_return, rearmAfter_of_kept, ⟨rfl, rfl, rfl⟩, ?_⟩
  rintro s rfl rfl rfl rfl
  refine ⟨s.evaluateOverspeed_rearm, s.evaluateOverspeed_asserts_alarm_iff, ?silent, ?sounded⟩
  case silent => intro none_issued; rw [s.evaluateOverspeed_arbiter, none_issued]; rfl
  case sounded => intro p issued; rw [s.evaluateOverspeed_arbiter, issued]; rfl

end Sys2Proof.Machine
end

section
/-! PROOFS. The station clash (R171): what an internal raise and an internal clear request leave in the Fault List (R98, R99),
and what the two clash commands do. -/

namespace Sys2Proof.Machine

open Sys2Proof

/-! ### What a raise request leaves in the list (R98, R104, R106) -/

theorem exists_stamp_mem_renumber {r : FaultRecord} {l : List FaultRecord} (h : r ∈ l) :
    ∃ n, { r with stamp := n } ∈ renumber l :=
  ⟨_, List.mem_map_of_mem h⟩

/-- A record added stands in the list as it came, but for its stamp. -/
theorem Flm.exists_stamp_mem_add (f : Flm) (r : FaultRecord) : ∃ n, { r with stamp := n } ∈ (f.add r).records := by
  obtain ⟨-, added⟩ | ⟨-, added⟩ := f.add_cases r
  · exact ⟨f.counter, by simp [added]⟩
  · obtain ⟨n, mem⟩ := exists_stamp_mem_renumber (List.mem_cons_self (a := { r with stamp := f.counter }) (l := f.records))
    exact ⟨n, by simpa [added] using mem⟩

/-- A record needed is created, with or without an eviction, or refused by a full list (R104, R106). -/
theorem Flm.create_mem_or_refused (f : Flm) (r : FaultRecord) :
    (∃ n, { r with stamp := n } ∈ (f.create r).records) ∨
    (capacity ≤ f.records.length ∧ f.create r = { f with overflow := true }) := by
  obtain ⟨-, created⟩ | ⟨full, -, refused⟩ | ⟨_, -, -, created⟩ := f.create_cases r
  · exact .inl (created ▸ f.exists_stamp_mem_add r)
  · exact .inr ⟨full, refused⟩
  · exact .inl (created ▸ Flm.exists_stamp_mem_add _ r)

@[simp] theorem relist_is (cls : FaultClass) (r : FaultRecord) (origin : Nat) (code : FaultCode) :
    (relist cls r).is origin code = r.is origin code := by
  unfold relist; split <;> rfl

@[simp] theorem relist_cls (cls : FaultClass) (r : FaultRecord) : (relist cls r).cls = cls := by
  unfold relist; split <;> rfl

theorem relist_state_ne_clearedUnack (cls : FaultClass) (r : FaultRecord) : (relist cls r).state ≠ .clearedUnack := by
  unfold relist; split
  · simp
  · assumption

theorem Flm.relist_mem {f : Flm} {origin : Nat} {code : FaultCode} {r : FaultRecord} (mem : r ∈ f.records)
    (named : r.is origin code = true) (cls : FaultClass) : Machine.relist cls r ∈ (f.relist origin code cls).records := by
  rw [Flm.relist, mem_inDisplayOrder]
  exact List.mem_map.2 ⟨r, mem, if_pos named⟩

/-- The end of an event keeps the overflow flag that a refusal sets: a full list is above the clearing level (R106). -/
theorem State.flmRaise_raised (s : State) (code : FaultCode) (cls : FaultClass) :
    (s.flmRaise code cls).flm.Raised s.own code cls := by
  cases found : s.flm.find s.own code with
  | some r =>
    obtain ⟨mem, origin_eq, code_eq⟩ := Flm.find_some found
    have named : r.is s.own code = true := by simp [FaultRecord.is, origin_eq, code_eq]
    have records : (s.flmRaise code cls).flm.records = (s.flm.relist s.own code cls).records := by
      simp [State.flmRaise, Flm.raiseCode, found]
    exact .inl ⟨relist cls r, records ▸ Flm.relist_mem mem named cls, by simp [named], relist_cls cls r,
      relist_state_ne_clearedUnack cls r⟩
  | none =>
    have raised : s.flmRaise code cls = s.flmEvent
        { flm := s.flm.create (newRecord s.own true code cls), action := s.flm.admits cls && cls == .action } := by
      simp only [State.flmRaise, Flm.raiseCode, found]
    rw [raised]
    obtain ⟨n, mem⟩ | ⟨full, refused⟩ := s.flm.create_mem_or_refused (newRecord s.own true code cls)
    · exact .inl ⟨_, mem, by simp [newRecord, FaultRecord.is], rfl, by simp [newRecord]⟩
    · have above : overflowClearLevel < s.flm.records.length := Nat.lt_of_lt_of_le (by decide) full
      refine .inr ⟨?_, by simp [refused, above]⟩
      rw [Flm.find_none] at found ⊢
      simpa [refused] using found

/-! ### What a clear request leaves in the list (R99) -/

theorem settleAbsent_state {r q : FaultRecord} (h : settleAbsent r = some q) : q.state = .clearedUnack := by
  unfold settleAbsent at h
  split at h
  next => cases h; rfl
  next => cases h
  next cleared => cases h; exact cleared

theorem State.flmClear_notRaised (s : State) (code : FaultCode) : (s.flmClear code).flm.NotRaised s.own code := by
  intro q mem named
  have settled : q ∈ (s.flm.settle (FaultRecord.is s.own code) settleAbsent).records := mem
  simp only [Flm.settle, Flm.withRemaining, mem_inDisplayOrder, List.mem_filterMap] at settled
  obtain ⟨r, -, settled⟩ := settled
  split at settled
  next => exact settleAbsent_state settled
  next unnamed => cases settled; exact absurd named unnamed

/-! ### The clash and its end (R171) -/

@[simp] theorem State.clash_lif (s : State) :
    s.clash.lif = { s.lif with clashAt := some (s.now + 10000000), clashRaised := true } := by
  unfold State.clash; dsimp only
  split
  next raised => rw [← raised]; rfl
  next => rfl

theorem State.clash_flm_of_raised {s : State} (raised : s.lif.clashRaised = true) : s.clash.flm = s.flm := by
  simp [State.clash, raised]

theorem State.clash_raised_of_unraised {s : State} (unraised : s.lif.clashRaised = false) :
    s.clash.flm.Raised s.own 0xF071 .stop := by
  have raise : s.clash = ({ s with lif := { s.lif with clashAt := s.inMs clashMs, clashRaised := true } } : State).flmRaise
      0xF071 .stop := by simp [State.clash, unraised]
  exact raise ▸ State.flmRaise_raised _ _ _

@[simp] theorem State.clashOver_lif (s : State) :
    s.clashOver.lif = { s.lif with clashAt := none, clashRaised := false } := rfl

theorem State.clashOver_notRaised (s : State) : s.clashOver.flm.NotRaised s.own 0xF071 :=
  State.flmClear_notRaised { s with lif := { s.lif with clashAt := none, clashRaised := false } } 0xF071

/-! ### The two commands -/

/-- A good frame that the ready receiver has assembled is heard as such: it begins an idle period and is not discarded. -/
theorem State.hearFrame_reach_of_good {s : State} {bytes : List Byte} {f : Frame} (released : s.lif.drive = .released)
    (ready : s.lif.ignoring = false) (good : parseFrame bytes = some f) (t : Time) :
    (s.reach t).hearFrame bytes = s.heardAt t := by
  simp [State.hearFrame, State.heardAt, State.reach, released, ready, good]

theorem exec_stationClash_of_own {s : State} {bytes : List Byte} {f : Frame} (running : s.cfl.start = .running)
    (released : s.lif.drive = .released) (ready : s.lif.ignoring = false) (good : parseFrame bytes = some f)
    (own : f.station = s.own) (t : Time) : exec (.stationClash t bytes) s = .next (s.heardAt t).clash := by
  have assembled : (s.reach t).assembled bytes = some f := by simp [State.assembled, State.reach, released, ready, good]
  have clashes : ((s.reach t).running && f.station == (s.reach t).own) = true := by
    show (s.running && f.station == s.own) = true
    simp [State.running, running, own]
  show execStationClash t bytes s = _
  simp only [execStationClash, assembled, clashes, if_true, State.hearFrame_reach_of_good released ready good t]

/-- While it drives the line the part hears its own frame only. -/
theorem exec_stationClash_of_driving {s : State} (driving : s.lif.drive ≠ .released) (t : Time) (bytes : List Byte) :
    exec (.stationClash t bytes) s = .next (s.reach t) := by
  have assembled : (s.reach t).assembled bytes = none := by simp [State.assembled, State.reach, driving]
  have heard : (s.reach t).hearFrame bytes = s.reach t := by simp [State.hearFrame, State.reach, driving]
  show execStationClash t bytes s = _
  simp only [execStationClash, assembled, heard]

theorem exec_stationClashTimerExpiry_of_clashAt {s : State} {t : Time} (timer : s.lif.clashAt = some t) :
    exec .stationClashTimerExpiry s = .next (s.reach t).clashOver := by
  show Host.Outcome.next (s.onExpiry s.lif.clashAt State.clashOver) = _
  simp only [State.onExpiry, timer]

/-- Settles O19: each command by its equation, the clash's record by what a raise request leaves, the expiry's by what a clear
request leaves. -/
theorem stationClashRaisesAndClears : Obligations.StationClashRaisesAndClears := by
  refine ⟨?clash, fun t bytes s driving => exec_stationClash_of_driving driving t bytes, ?expiry⟩
  case clash =>
    intro t bytes f s running released ready good own
    exact ⟨_, exec_stationClash_of_own running released ready good own t, State.clash_lif _, State.clash_ssv _,
      fun raised => State.clash_flm_of_raised (s := s.heardAt t) raised,
      fun unraised => State.clash_raised_of_unraised (s := s.heardAt t) unraised⟩
  case expiry =>
    intro t s timer
    exact ⟨_, exec_stationClashTimerExpiry_of_clashAt timer, State.clashOver_lif _, (s.reach t).clashOver_notRaised⟩

end Sys2Proof.Machine
end

section
/-! PROOFS. A command as an event at a moment: the moment at which it takes place, what the event does, and what it leaves as it
is: the waiting commands, the clock's direction, and the blocks that it cannot reach. -/

namespace Sys2Proof.Machine

open Sys2Proof

/-! ### Every command is an event at a moment (log 1, log 2) -/

/-- The moment at which a command's event takes place: the operand of an event from outside, the end to which a timer runs; none
where the event cannot take place. -/
def State.moment (s : State) : Instr → Option Time
  | .reset t _ => some t
  | .resetRelease t _ => some t
  | .loadEnd t _ _ => some t
  | .lampCheckTimerExpiry => s.cfl.lampCheckAt
  | .arrival t _ => some t
  | .acknFrame t _ => some t
  | .snapreq t _ => some t
  | .stationClash t _ => some t
  | .lateTimerExpiry entry => (s.ssv.entries.get entry).lateAt
  | .startupGraceExpiry => s.ssv.graceAt
  | .acknowledgementTimerExpiry => s.asu.ackAt
  | .overdueRepeatTimerExpiry => s.asu.repeatAt
  | .disagreementTimerExpiry => s.asu.disagreeAt
  | .reminderTimerExpiry => s.flm.reminderAt
  | .claimWindowExpiry => s.cru.claimAt
  | .deskPeriodExpiry => s.cru.periodEnd
  | .scrollReturnExpiry => s.diu.scrollAt
  | .stationClashTimerExpiry => s.lif.clashAt
  | .flashPhaseEnd generator => (s.flash generator).map (·.endsAt)
  | .oneShotEnd => s.idr.arbiter.oneShot.map (·.endsAt)
  | .inputLevelChange t _ => some t
  | .acknowledgePress .whole => s.diu.acknowledge.due true
  | .acknowledgePress .routing => s.diu.acknowledge.due true
  | .acknowledgePress .taking => some s.now
  | .scrollPress => s.diu.scroll.due true
  | .buttonRelease .acknowledge => s.diu.acknowledge.due false
  | .buttonRelease .scroll => s.diu.scroll.due false
  | .testPress => s.diu.test.due true
  | .testRelease => s.diu.test.due false
  | .keyChange => s.diu.key.endsAt
  | .dimmerChange => s.diu.dimmer.endsAt
  | .attemptStart t => some t
  | .attemptSuccess t => some t
  | .attemptFailure t => some t
  | .prunedHeadEnd t => some t
  | .startBitHeard t => some t
  | .frameDiscard t _ _ => some t
  | .receiverReady t => some t
  | .frameDropped t _ => some t

/-- A frame heard, and what a good frame of another station does in RUNNING (R170). -/
def State.hearPeer (frame : List Byte) (act : Frame → State → State) (s : State) : State :=
  match s.fromPeer frame with
  | some f => act f (s.hearFrame frame)
  | none => s.hearFrame frame

/-- An ACKN frame goes to the SSV (R24). -/
def State.takeAcknFrame (f : Frame) (s : State) : State := if f.kind = .ackn then s.ssvAckn f else s

/-- A SNAPREQ for the own station goes to the SNU (R170). -/
def State.takeSnapreq (f : Frame) (s : State) : State :=
  if f.kind = .snapreq ∧ (byteAt f.payload 0).toNat = s.own then s.snuRequest f else s

/-- A good frame with the own station number clashes in RUNNING (R171). -/
def State.hearClash (frame : List Byte) (s : State) : State :=
  match s.assembled frame with
  | some f => if s.running && f.station == s.own then (s.hearFrame frame).clash else s.hearFrame frame
  | none => s.hearFrame frame

/-- The release of a button taken (R133). -/
def State.takeRelease (button : PressButton) (s : State) : State :=
  match button with
  | .acknowledge => { s with diu := { s.diu with acknowledge := s.diu.acknowledge.take } }
  | .scroll => { s with diu := { s.diu with scroll := s.diu.scroll.take } }

/-- What a command's event does at its moment. -/
def State.event (c : Instr) (s : State) : State :=
  match c with
  | .reset _ source => s.holdReset source
  | .resetRelease _ straps => s.release straps
  | .loadEnd _ acks memory => s.endLoad { acks := acks, bytes := memory }
  | .lampCheckTimerExpiry => s.run
  | .arrival _ frame => s.hearPeer frame State.ssvArrival
  | .acknFrame _ frame => s.hearPeer frame State.takeAcknFrame
  | .snapreq _ frame => s.hearPeer frame State.takeSnapreq
  | .stationClash _ frame => s.hearClash frame
  | .lateTimerExpiry entry => s.lateExpiry entry
  | .startupGraceExpiry => s.graceExpiry
  | .acknowledgementTimerExpiry => s.acknowledgementExpiry
  | .overdueRepeatTimerExpiry => s.repeatExpiry
  | .disagreementTimerExpiry => s.disagreementExpiry
  | .reminderTimerExpiry => s.reminderExpiry
  | .claimWindowExpiry => s.claimExpiry
  | .deskPeriodExpiry => s.deskPeriod
  | .scrollReturnExpiry => s.scrollReturns
  | .stationClashTimerExpiry => s.clashOver
  | .flashPhaseEnd generator => s.turnFlash generator
  | .oneShotEnd => s.toneEnd
  | .inputLevelChange _ level => s.inputChange level
  | .acknowledgePress .whole => s.takeAckPress
  | .acknowledgePress .routing => s.routeAckPress
  | .acknowledgePress .taking => s.takeRoutedPress
  | .scrollPress => s.takeScrollPress
  | .buttonRelease button => s.takeRelease button
  | .testPress => s.takeTest
  | .testRelease => s.takeTest
  | .keyChange => s.takeKey
  | .dimmerChange => s.takeDimmer
  | .attemptStart _ => s.startAttempt
  | .attemptSuccess _ => s.attemptSucceeds
  | .attemptFailure _ => s.attemptFails
  | .prunedHeadEnd _ => s.prunedFrameEnds
  | .startBitHeard _ => s.hearStartBit
  | .frameDiscard _ frame ending => s.discardFrame frame ending
  | .receiverReady _ => s.becomeReady
  | .frameDropped _ frame => s.hearFrame frame

theorem State.reach_now (s : State) : s.reach s.now = s := by simp [State.reach]

/-- A command with a moment is its event there; one without does nothing. -/
theorem exec_eq_event (c : Instr) (s : State) : exec c s = .next (s.onExpiry (s.moment c) (State.event c)) := by
  cases c with
  | acknowledgePress part =>
    cases part with
    | taking => exact congrArg (fun r => Host.Outcome.next r.takeRoutedPress) s.reach_now.symm
    | _ => rfl
  | buttonRelease button => cases button <;> rfl
  | stationClash t frame =>
    show execStationClash t frame s = .next ((s.reach t).hearClash frame)
    unfold execStationClash State.hearClash
    dsimp only
    cases (s.reach t).assembled frame <;> rfl
  | _ => rfl

/-- What a command can do: nothing, or its event at its moment. -/
theorem exec_next_cases {c : Instr} {s u : State} (h : exec c s = .next u) :
    (s.moment c = none ∧ u = s) ∨ (∃ t, s.moment c = some t ∧ u = (s.reach t).event c) := by
  rw [exec_eq_event] at h
  obtain rfl := Host.Outcome.next.inj h
  exact s.onExpiry_cases (s.moment c) (State.event c)

theorem exec_of_moment {c : Instr} {s : State} {t : Time} (h : s.moment c = some t) :
    exec c s = .next ((s.reach t).event c) := by
  rw [exec_eq_event, h]; rfl

/-- Settles O1: each case of `step`, by the queue it matches on. -/
theorem stepRunsTheFrontCommand : Obligations.StepRunsTheFrontCommand := by
  refine ⟨fun s c rest front => ?_, fun s empty => ?_⟩
  · simp only [step, front]
  · simp only [step, empty]

/-! ### What hearing a frame, and a list of events, keep -/

section
variable {α : Type} {g : State → α}

/-- A field that the line's hearing and the action leave alone is left alone by a frame of another station. -/
theorem State.hearPeer_keeps {bytes : List Byte} {act : Frame → State → State} {s : State}
    (heard : g (s.hearFrame bytes) = g s) (acted : ∀ f r, g (act f r) = g r) : g (s.hearPeer bytes act) = g s := by
  unfold State.hearPeer
  split
  · rw [acted, heard]
  · exact heard

theorem State.foldl_keeps {β : Type} {act : State → β → State} (acted : ∀ r b, g (act r b) = g r) (l : List β) (s : State) :
    g (l.foldl act s) = g s := by
  induction l generalizing s with
  | nil => rfl
  | cons b rest ih => rw [List.foldl_cons, ih, acted]

end

/-! ### What the compound events leave as it is -/

/-! #### graceExpiry -/
@[simp] theorem State.graceExpiry_cfl (s : State) : (s.graceExpiry).cfl = s.cfl := by
  simp only [State.graceExpiry, State.asuGrace_cfl, State.sfuGrace_cfl]
  exact State.foldl_keeps (fun r i => State.graceEntry_cfl r i) _ _
@[simp] theorem State.graceExpiry_routed (s : State) : (s.graceExpiry).routed = s.routed := by
  simp only [State.graceExpiry, State.asuGrace_routed, State.sfuGrace_routed]
  exact State.foldl_keeps (fun r i => State.graceEntry_routed r i) _ _
@[simp] theorem State.graceExpiry_now (s : State) : (s.graceExpiry).now = s.now := by
  simp only [State.graceExpiry, State.asuGrace_now, State.sfuGrace_now]
  exact State.foldl_keeps (fun r i => State.graceEntry_now r i) _ _
@[simp] theorem State.graceExpiry_pending (s : State) : (s.graceExpiry).pending = s.pending := by
  simp only [State.graceExpiry, State.asuGrace_pending, State.sfuGrace_pending]
  exact State.foldl_keeps (fun r i => State.graceEntry_pending r i) _ _

/-! #### takeAcknFrame -/
@[simp] theorem State.takeAcknFrame_lif (s : State) (f : Frame) : (s.takeAcknFrame f).lif = s.lif := by
  unfold State.takeAcknFrame; split <;> simp
@[simp] theorem State.takeAcknFrame_ssv (s : State) (f : Frame) : (s.takeAcknFrame f).ssv = s.ssv := by
  unfold State.takeAcknFrame; split <;> simp
@[simp] theorem State.takeAcknFrame_sfu (s : State) (f : Frame) : (s.takeAcknFrame f).sfu = s.sfu := by
  unfold State.takeAcknFrame; split <;> simp
@[simp] theorem State.takeAcknFrame_sdm (s : State) (f : Frame) : (s.takeAcknFrame f).sdm = s.sdm := by
  unfold State.takeAcknFrame; split <;> simp
@[simp] theorem State.takeAcknFrame_cru (s : State) (f : Frame) : (s.takeAcknFrame f).cru = s.cru := by
  unfold State.takeAcknFrame; split <;> simp
@[simp] theorem State.takeAcknFrame_cfl (s : State) (f : Frame) : (s.takeAcknFrame f).cfl = s.cfl := by
  unfold State.takeAcknFrame; split <;> simp
@[simp] theorem State.takeAcknFrame_snu (s : State) (f : Frame) : (s.takeAcknFrame f).snu = s.snu := by
  unfold State.takeAcknFrame; split <;> simp
@[simp] theorem State.takeAcknFrame_routed (s : State) (f : Frame) : (s.takeAcknFrame f).routed = s.routed := by
  unfold State.takeAcknFrame; split <;> simp
@[simp] theorem State.takeAcknFrame_now (s : State) (f : Frame) : (s.takeAcknFrame f).now = s.now := by
  unfold State.takeAcknFrame; split <;> simp
@[simp] theorem State.takeAcknFrame_pending (s : State) (f : Frame) : (s.takeAcknFrame f).pending = s.pending := by
  unfold State.takeAcknFrame; split <;> simp

/-! #### takeSnapreq -/
@[simp] theorem State.takeSnapreq_ssv (s : State) (f : Frame) : (s.takeSnapreq f).ssv = s.ssv := by
  unfold State.takeSnapreq; split <;> simp
@[simp] theorem State.takeSnapreq_sfu (s : State) (f : Frame) : (s.takeSnapreq f).sfu = s.sfu := by
  unfold State.takeSnapreq; split <;> simp
@[simp] theorem State.takeSnapreq_sdm (s : State) (f : Frame) : (s.takeSnapreq f).sdm = s.sdm := by
  unfold State.takeSnapreq; split <;> simp
@[simp] theorem State.takeSnapreq_asu (s : State) (f : Frame) : (s.takeSnapreq f).asu = s.asu := by
  unfold State.takeSnapreq; split <;> simp
@[simp] theorem State.takeSnapreq_cru (s : State) (f : Frame) : (s.takeSnapreq f).cru = s.cru := by
  unfold State.takeSnapreq; split <;> simp
@[simp] theorem State.takeSnapreq_cfl (s : State) (f : Frame) : (s.takeSnapreq f).cfl = s.cfl := by
  unfold State.takeSnapreq; split <;> simp
@[simp] theorem State.takeSnapreq_routed (s : State) (f : Frame) : (s.takeSnapreq f).routed = s.routed := by
  unfold State.takeSnapreq; split <;> simp
@[simp] theorem State.takeSnapreq_now (s : State) (f : Frame) : (s.takeSnapreq f).now = s.now := by
  unfold State.takeSnapreq; split <;> simp
@[simp] theorem State.takeSnapreq_pending (s : State) (f : Frame) : (s.takeSnapreq f).pending = s.pending := by
  unfold State.takeSnapreq; split <;> simp

/-! #### hearClash -/
@[simp] theorem State.hearClash_ssv (s : State) (frame : List Byte) : (s.hearClash frame).ssv = s.ssv := by
  unfold State.hearClash; (repeat' split) <;> simp
@[simp] theorem State.hearClash_sfu (s : State) (frame : List Byte) : (s.hearClash frame).sfu = s.sfu := by
  unfold State.hearClash; (repeat' split) <;> simp
@[simp] theorem State.hearClash_sdm (s : State) (frame : List Byte) : (s.hearClash frame).sdm = s.sdm := by
  unfold State.hearClash; (repeat' split) <;> simp
@[simp] theorem State.hearClash_asu (s : State) (frame : List Byte) : (s.hearClash frame).asu = s.asu := by
  unfold State.hearClash; (repeat' split) <;> simp
@[simp] theorem State.hearClash_cru (s : State) (frame : List Byte) : (s.hearClash frame).cru = s.cru := by
  unfold State.hearClash; (repeat' split) <;> simp
@[simp] theorem State.hearClash_cfl (s : State) (frame : List Byte) : (s.hearClash frame).cfl = s.cfl := by
  unfold State.hearClash; (repeat' split) <;> simp
@[simp] theorem State.hearClash_snu (s : State) (frame : List Byte) : (s.hearClash frame).snu = s.snu := by
  unfold State.hearClash; (repeat' split) <;> simp
@[simp] theorem State.hearClash_routed (s : State) (frame : List Byte) : (s.hearClash frame).routed = s.routed := by
  unfold State.hearClash; (repeat' split) <;> simp
@[simp] theorem State.hearClash_now (s : State) (frame : List Byte) : (s.hearClash frame).now = s.now := by
  unfold State.hearClash; (repeat' split) <;> simp
@[simp] theorem State.hearClash_pending (s : State) (frame : List Byte) : (s.hearClash frame).pending = s.pending := by
  unfold State.hearClash; (repeat' split) <;> simp

/-! #### takeRelease -/
@[simp] theorem State.takeRelease_lif (s : State) (button : PressButton) : (s.takeRelease button).lif = s.lif := by
  cases button <;> rfl
@[simp] theorem State.takeRelease_ssv (s : State) (button : PressButton) : (s.takeRelease button).ssv = s.ssv := by
  cases button <;> rfl
@[simp] theorem State.takeRelease_sfu (s : State) (button : PressButton) : (s.takeRelease button).sfu = s.sfu := by
  cases button <;> rfl
@[simp] theorem State.takeRelease_sdm (s : State) (button : PressButton) : (s.takeRelease button).sdm = s.sdm := by
  cases button <;> rfl
@[simp] theorem State.takeRelease_asu (s : State) (button : PressButton) : (s.takeRelease button).asu = s.asu := by
  cases button <;> rfl
@[simp] theorem State.takeRelease_flm (s : State) (button : PressButton) : (s.takeRelease button).flm = s.flm := by
  cases button <;> rfl
@[simp] theorem State.takeRelease_cru (s : State) (button : PressButton) : (s.takeRelease button).cru = s.cru := by
  cases button <;> rfl
@[simp] theorem State.takeRelease_idr (s : State) (button : PressButton) : (s.takeRelease button).idr = s.idr := by
  cases button <;> rfl
@[simp] theorem State.takeRelease_cfl (s : State) (button : PressButton) : (s.takeRelease button).cfl = s.cfl := by
  cases button <;> rfl
@[simp] theorem State.takeRelease_snu (s : State) (button : PressButton) : (s.takeRelease button).snu = s.snu := by
  cases button <;> rfl
@[simp] theorem State.takeRelease_routed (s : State) (button : PressButton) : (s.takeRelease button).routed = s.routed := by
  cases button <;> rfl
@[simp] theorem State.takeRelease_now (s : State) (button : PressButton) : (s.takeRelease button).now = s.now := by
  cases button <;> rfl
@[simp] theorem State.takeRelease_pending (s : State) (button : PressButton) : (s.takeRelease button).pending = s.pending := by
  cases button <;> rfl

/-! #### holdReset -/
@[simp] theorem State.holdReset_now (s : State) (source : ResetSource) : (s.holdReset source).now = s.now := by
  cases source <;> rfl
@[simp] theorem State.holdReset_pending (s : State) (source : ResetSource) : (s.holdReset source).pending = s.pending := by
  cases source <;> rfl

/-! #### release -/
@[simp] theorem State.release_lif (s : State) (straps : Straps) : (s.release straps).lif = s.lif := by
  unfold State.release; split <;> rfl
@[simp] theorem State.release_ssv (s : State) (straps : Straps) : (s.release straps).ssv = s.ssv := by
  unfold State.release; split <;> rfl
@[simp] theorem State.release_sfu (s : State) (straps : Straps) : (s.release straps).sfu = s.sfu := by
  unfold State.release; split <;> rfl
@[simp] theorem State.release_sdm (s : State) (straps : Straps) : (s.release straps).sdm = s.sdm := by
  unfold State.release; split <;> rfl
@[simp] theorem State.release_asu (s : State) (straps : Straps) : (s.release straps).asu = s.asu := by
  unfold State.release; split <;> rfl
@[simp] theorem State.release_flm (s : State) (straps : Straps) : (s.release straps).flm = s.flm := by
  unfold State.release; split <;> rfl
@[simp] theorem State.release_cru (s : State) (straps : Straps) : (s.release straps).cru = s.cru := by
  unfold State.release; split <;> rfl
@[simp] theorem State.release_idr (s : State) (straps : Straps) : (s.release straps).idr = s.idr := by
  unfold State.release; split <;> rfl
@[simp] theorem State.release_snu (s : State) (straps : Straps) : (s.release straps).snu = s.snu := by
  unfold State.release; split <;> rfl
@[simp] theorem State.release_routed (s : State) (straps : Straps) : (s.release straps).routed = s.routed := by
  unfold State.release; split <;> rfl
@[simp] theorem State.release_now (s : State) (straps : Straps) : (s.release straps).now = s.now := by
  unfold State.release; split <;> rfl
@[simp] theorem State.release_pending (s : State) (straps : Straps) : (s.release straps).pending = s.pending := by
  unfold State.release; split <;> rfl

/-! #### endLoad -/
@[simp] theorem State.endLoad_lif (s : State) (memory : MemoryAnswer) : (s.endLoad memory).lif = s.lif := by
  unfold State.endLoad; split <;> rfl
@[simp] theorem State.endLoad_ssv (s : State) (memory : MemoryAnswer) : (s.endLoad memory).ssv = s.ssv := by
  unfold State.endLoad; split <;> rfl
@[simp] theorem State.endLoad_sfu (s : State) (memory : MemoryAnswer) : (s.endLoad memory).sfu = s.sfu := by
  unfold State.endLoad; split <;> rfl
@[simp] theorem State.endLoad_sdm (s : State) (memory : MemoryAnswer) : (s.endLoad memory).sdm = s.sdm := by
  unfold State.endLoad; split <;> rfl
@[simp] theorem State.endLoad_asu (s : State) (memory : MemoryAnswer) : (s.endLoad memory).asu = s.asu := by
  unfold State.endLoad; split <;> rfl
@[simp] theorem State.endLoad_flm (s : State) (memory : MemoryAnswer) : (s.endLoad memory).flm = s.flm := by
  unfold State.endLoad; split <;> rfl
@[simp] theorem State.endLoad_cru (s : State) (memory : MemoryAnswer) : (s.endLoad memory).cru = s.cru := by
  unfold State.endLoad; split <;> rfl
@[simp] theorem State.endLoad_diu (s : State) (memory : MemoryAnswer) : (s.endLoad memory).diu = s.diu := by
  unfold State.endLoad; split <;> rfl
@[simp] theorem State.endLoad_snu (s : State) (memory : MemoryAnswer) : (s.endLoad memory).snu = s.snu := by
  unfold State.endLoad; split <;> rfl
@[simp] theorem State.endLoad_routed (s : State) (memory : MemoryAnswer) : (s.endLoad memory).routed = s.routed := by
  unfold State.endLoad; split <;> rfl
@[simp] theorem State.endLoad_now (s : State) (memory : MemoryAnswer) : (s.endLoad memory).now = s.now := by
  unfold State.endLoad; split <;> rfl
@[simp] theorem State.endLoad_pending (s : State) (memory : MemoryAnswer) : (s.endLoad memory).pending = s.pending := by
  unfold State.endLoad; split <;> rfl

/-! #### run -/
@[simp] theorem State.run_sfu (s : State) : (s.run).sfu = s.sfu := by
  unfold State.run; split <;> simp
@[simp] theorem State.run_sdm (s : State) : (s.run).sdm = s.sdm := by
  unfold State.run; split <;> simp
@[simp] theorem State.run_routed (s : State) : (s.run).routed = s.routed := by
  unfold State.run; split <;> simp
@[simp] theorem State.run_now (s : State) : (s.run).now = s.now := by
  unfold State.run; split <;> simp
@[simp] theorem State.run_pending (s : State) : (s.run).pending = s.pending := by
  unfold State.run; split <;> simp

/-! ### Every event keeps the waiting commands, and the clock it is given -/

theorem State.event_pending (c : Instr) (s : State) : (s.event c).pending = s.pending := by
  cases c with
  | arrival _ _ | acknFrame _ _ | snapreq _ _ => exact State.hearPeer_keeps (by simp) (by simp)
  | acknowledgePress part => cases part <;> simp [State.event]
  | _ => simp [State.event]

theorem State.event_now (c : Instr) (s : State) : (s.event c).now = s.now := by
  cases c with
  | arrival _ _ | acknFrame _ _ | snapreq _ _ => exact State.hearPeer_keeps (by simp) (by simp)
  | acknowledgePress part => cases part <;> simp [State.event]
  | _ => simp [State.event]

/-- Settles O2: a command is nothing, or an event at a moment that is reached, and no event touches the queue or the clock. -/
theorem everyCommandAnswersNext : Obligations.EveryCommandAnswersNext := by
  intro c s
  refine ⟨_, exec_eq_event c s, ?_⟩
  obtain ⟨-, same⟩ | ⟨t, -, acts⟩ := s.onExpiry_cases (s.moment c) (State.event c)
  · rw [same]; exact ⟨rfl, Nat.le_refl _⟩
  · rw [acts, State.event_pending, State.event_now]
    exact ⟨rfl, Nat.le_max_left ..⟩

/-! ### The blocks that an event cannot reach -/

theorem State.event_ssv {c : Instr} (h : mayChange c .ssv = false) (s : State) : (s.event c).ssv = s.ssv := by
  cases c with
  | acknFrame _ _ | snapreq _ _ => exact State.hearPeer_keeps (by simp) (by simp)
  | acknowledgePress part => cases part <;> simp [State.event]
  | _ => simp_all [mayChange, State.event]

theorem State.event_sfu {c : Instr} (h : mayChange c .sfu = false) (s : State) : (s.event c).sfu = s.sfu := by
  cases c with
  | acknFrame _ _ | snapreq _ _ => exact State.hearPeer_keeps (by simp) (by simp)
  | acknowledgePress part => cases part <;> simp [State.event]
  | _ => simp_all [mayChange, State.event]

theorem State.event_sdm {c : Instr} (h : mayChange c .sdm = false) (s : State) : (s.event c).sdm = s.sdm := by
  cases c with
  | acknFrame _ _ | snapreq _ _ => exact State.hearPeer_keeps (by simp) (by simp)
  | acknowledgePress part => cases part <;> simp [State.event]
  | _ => simp_all [mayChange, State.event]

theorem State.event_asu {c : Instr} (h : mayChange c .asu = false) (s : State) : (s.event c).asu = s.asu := by
  cases c with
  | snapreq _ _ => exact State.hearPeer_keeps (by simp) (by simp)
  | _ => simp_all [mayChange, State.event]

theorem State.event_flm {c : Instr} (h : mayChange c .flm = false) (s : State) : (s.event c).flm = s.flm := by
  cases c with
  | _ => simp_all [mayChange, State.event]

theorem State.event_cru {c : Instr} (h : mayChange c .cru = false) (s : State) : (s.event c).cru = s.cru := by
  cases c with
  | acknFrame _ _ | snapreq _ _ => exact State.hearPeer_keeps (by simp) (by simp)
  | acknowledgePress part => cases part <;> simp [State.event]
  | _ => simp_all [mayChange, State.event]

theorem State.event_snu {c : Instr} (h : mayChange c .snu = false) (s : State) : (s.event c).snu = s.snu := by
  cases c with
  | acknFrame _ _ => exact State.hearPeer_keeps (by simp) (by simp)
  | _ => simp_all [mayChange, State.event]

theorem State.event_lif {c : Instr} (h : mayChange c .lif = false) (s : State) : (s.event c).lif = s.lif := by
  cases c with
  | _ => simp_all [mayChange, State.event]

theorem State.event_diu {c : Instr} (h : mayChange c .diu = false) (s : State) : (s.event c).diu = s.diu := by
  cases c with
  | _ => simp_all [mayChange, State.event]

theorem State.event_idr {c : Instr} (h : mayChange c .idr = false) (s : State) : (s.event c).idr = s.idr := by
  cases c with
  | _ => simp_all [mayChange, State.event]

theorem State.event_cfl {c : Instr} (h : mayChange c .cfl = false) (s : State) : (s.event c).cfl = s.cfl := by
  cases c with
  | arrival _ _ | acknFrame _ _ | snapreq _ _ => exact State.hearPeer_keeps (by simp) (by simp)
  | acknowledgePress part => cases part <;> simp [State.event]
  | _ => simp_all [mayChange, State.event]

theorem State.event_routed {c : Instr} (h : mayChange c .diu = false) (s : State) : (s.event c).routed = s.routed := by
  cases c with
  | _ => simp_all [mayChange, State.event]

/-- An event leaves alone every block that it cannot reach. -/
theorem State.event_same {c : Instr} {b : Block} (h : mayChange c b = false) (s : State) : b.same s (s.event c) := by
  cases b with
  | lif => exact State.event_lif h s
  | ssv => exact State.event_ssv h s
  | sfu => exact State.event_sfu h s
  | sdm => exact State.event_sdm h s
  | asu => exact State.event_asu h s
  | flm => exact State.event_flm h s
  | cru => exact State.event_cru h s
  | diu => exact ⟨State.event_diu h s, State.event_routed h s⟩
  | idr => exact State.event_idr h s
  | cfl => exact State.event_cfl h s
  | snu => exact State.event_snu h s

theorem Block.same_reach (b : Block) (s : State) (t : Time) : b.same s (s.reach t) := by cases b <;> simp [Block.same]

theorem Block.same_refl (b : Block) (s : State) : b.same s s := by cases b <;> simp [Block.same]

theorem Block.same_trans {b : Block} {s t u : State} (h : b.same s t) (k : b.same t u) : b.same s u := by
  cases b <;> simp_all [Block.same]

theorem same_of_exec {c : Instr} {b : Block} {s u : State} (h : mayChange c b = false) (next : exec c s = .next u) :
    b.same s u := by
  obtain ⟨-, rfl⟩ | ⟨t, -, rfl⟩ := exec_next_cases next
  · exact b.same_refl u
  · exact Block.same_trans (b.same_reach s t) (State.event_same h _)

/-! ### What an event at an entry reaches, by the kind of the entry (R23) -/

section
variable {c : SourceConfig} {after : EntryState} {payload : Option (List Byte)}

theorem State.publish_cru (s : State) (h : c.kind ≠ .desk) : (s.publish c after payload).cru = s.cru := by
  unfold State.publish; split <;> simp_all

theorem State.publish_lif (s : State) (h : c.kind ≠ .desk) : (s.publish c after payload).lif = s.lif := by
  unfold State.publish; split <;> simp_all

theorem State.publish_snu (s : State) (h : c.kind ≠ .desk) : (s.publish c after payload).snu = s.snu := by
  unfold State.publish; split <;> simp_all

theorem State.publish_sfu (s : State) (h : c.kind ≠ .speed) : (s.publish c after payload).sfu = s.sfu := by
  unfold State.publish; split <;> simp_all

theorem State.publish_sdm (s : State) (h : c.kind ≠ .speed) (k : c.kind ≠ .aspect) :
    (s.publish c after payload).sdm = s.sdm := by
  unfold State.publish; split <;> simp_all

theorem State.publish_asu (s : State) (h : c.kind ≠ .aspect) (k : c.kind ≠ .desk) :
    (s.publish c after payload).asu = s.asu := by
  unfold State.publish; split <;> simp_all

end

section
variable {s : State} {i : Fin 24} {r : EntryResult} {payload : List Byte}

/-- An event at an entry ends with requests to the FLM, after a publication or none. -/
theorem State.entryEvent_cases (s : State) (i : Fin 24) (r : EntryResult) (payload : List Byte) :
    s.entryEvent i r payload =
      (if r.used || r.entry.state != (s.ssv.entries.get i).state then
        ({ s with ssv := { s.ssv with entries := s.ssv.entries.set i r.entry } } : State).publish (s.source i) r.entry.state
          (if r.used then some payload else none)
      else { s with ssv := { s.ssv with entries := s.ssv.entries.set i r.entry } }).requests
        (r.requests i (s.source i).report) := rfl

theorem State.entryEvent_cru (h : (s.source i).kind ≠ .desk) : (s.entryEvent i r payload).cru = s.cru := by
  rw [State.entryEvent_cases]; split <;> simp [State.publish_cru, h]

theorem State.entryEvent_lif (h : (s.source i).kind ≠ .desk) : (s.entryEvent i r payload).lif = s.lif := by
  rw [State.entryEvent_cases]; split <;> simp [State.publish_lif, h]

theorem State.entryEvent_snu (h : (s.source i).kind ≠ .desk) : (s.entryEvent i r payload).snu = s.snu := by
  rw [State.entryEvent_cases]; split <;> simp [State.publish_snu, h]

theorem State.entryEvent_sfu (h : (s.source i).kind ≠ .speed) : (s.entryEvent i r payload).sfu = s.sfu := by
  rw [State.entryEvent_cases]; split <;> simp [State.publish_sfu, h]

theorem State.entryEvent_sdm (h : (s.source i).kind ≠ .speed) (k : (s.source i).kind ≠ .aspect) :
    (s.entryEvent i r payload).sdm = s.sdm := by
  rw [State.entryEvent_cases]; split <;> simp [State.publish_sdm, h, k]

theorem State.entryEvent_asu (h : (s.source i).kind ≠ .aspect) (k : (s.source i).kind ≠ .desk) :
    (s.entryEvent i r payload).asu = s.asu := by
  rw [State.entryEvent_cases]; split <;> simp [State.publish_asu, h, k]

end

theorem State.heardAt_source (s : State) (t : Time) (i : Fin 24) : (s.heardAt t).source i = s.source i := rfl

theorem eq_entryEvent_of_arrival {t : Time} {bytes : List Byte} {f : Frame} {i : Fin 24} {s u : State}
    (arrives : s.Arrives bytes f i) (next : exec (.arrival t bytes) s = .next u) :
    u = (s.heardAt t).entryEvent i ((s.ssv.entries.get i).arrive (s.source i) (max s.now t) f.seq) f.payload := by
  rw [exec_arrival_of_arrives arrives t] at next
  exact (Host.Outcome.next.inj next).symm

/-- Settles O3: the table by the event that a command is; an arrival by the kind of the entry it is an event at. -/
theorem commandsChangeOnlyTheirBlocks : Obligations.CommandsChangeOnlyTheirBlocks := by
  refine ⟨fun c b s u h next => same_of_exec h next, ?desk, ?speed, ?display, ?aspect⟩ <;>
    intro t bytes f i s u arrives next changed <;> obtain rfl := eq_entryEvent_of_arrival arrives next <;>
    refine Decidable.byContradiction fun other => ?_
  case desk =>
    have kind : ((s.heardAt t).source i).kind ≠ .desk := other
    rw [State.entryEvent_snu kind, State.entryEvent_cru kind, State.entryEvent_lif kind] at changed
    simp [State.heardAt] at changed
  case speed => exact changed (State.entryEvent_sfu (s := s.heardAt t) other)
  case display =>
    obtain ⟨speed, aspect⟩ := not_or.1 other
    exact changed (State.entryEvent_sdm (s := s.heardAt t) speed aspect)
  case aspect =>
    obtain ⟨aspect, desk⟩ := not_or.1 other
    exact changed (State.entryEvent_asu (s := s.heardAt t) aspect desk)

/-! ### The start state is left by its own commands only -/

/-- Settles O4: an event that can reach the CFL acts in its own start state only, but for a reset. -/
theorem runningIsLeftByResetOnly : Obligations.RunningIsLeftByResetOnly := by
  intro c s u settled unreset next
  obtain ⟨-, rfl⟩ | ⟨t, -, rfl⟩ := exec_next_cases next
  · rfl
  rw [← State.reach_cfl s t] at settled ⊢
  generalize s.reach t = r at settled ⊢
  have noSampling : r.cfl.start ≠ .sampling := by rcases settled with h | h <;> simp [h]
  have noLoading : r.cfl.start ≠ .loading := by rcases settled with h | h <;> simp [h]
  have noCheck : r.cfl.start ≠ .lampCheck := by rcases settled with h | h <;> simp [h]
  cases c with
  | reset t source => exact absurd rfl (unreset t source)
  | resetRelease => simp [State.event, State.release, noSampling]
  | loadEnd => simp [State.event, State.endLoad, noLoading]
  | lampCheckTimerExpiry => simp [State.event, State.run, noCheck]
  | _ => exact State.event_cfl (by simp [mayChange]) r

end Sys2Proof.Machine
end

section
/-! PROOFS. The Fault List stays lawful through each of its operations (R87 to R91, R94 to R99, R101 to R106). -/

namespace Sys2Proof.Machine

open Sys2Proof

-- One proof after another: the many small proofs below, each on a thread of its own, would reserve more stacks than the check allows.
set_option Elab.async false

/-! ### What the operations on the list keep: all of a lawful list but what the end of the event restores -/

/-- A lawful list as it stands within an event: its overflow flag and its reminder timer are set at the end of the event. -/
structure Flm.Sound (f : Flm) : Prop where
  room    : f.records.length ≤ capacity
  named   : (f.records.map (fun r => (r.origin, r.code))).Nodup
  ordered : f.records.Pairwise (fun a b => displayLe a b = true)
  stamps  : (f.records.map (·.stamp)).Nodup
  below   : ∀ r ∈ f.records, r.stamp < f.counter
  counter : f.counter ≤ 65535
  counts  : ∀ r ∈ f.records, 1 ≤ r.count ∧ r.count ≤ 15
  empty   : f.records = [] → f.counter = 0

theorem Flm.Lawful.sound {f : Flm} (h : f.Lawful) : f.Sound where
  room := h.room
  named := h.named
  ordered := h.ordered
  stamps := h.stamps
  below := h.below
  counter := h.counter
  counts := h.counts
  empty := h.empty

@[simp] theorem Flm.settleOverflow_reminds (f : Flm) : f.settleOverflow.reminds = f.reminds := rfl

/-- The end of an event makes a sound list lawful (R106, R111). -/
theorem State.flmEvent_lawful {s : State} {r : FlmResult} (h : r.flm.Sound) : (s.flmEvent r).flm.Lawful where
  room := h.room
  named := h.named
  ordered := h.ordered
  stamps := h.stamps
  below := h.below
  counter := h.counter
  counts := h.counts
  empty := h.empty
  overflow := by simp
  reminder := by
    have same : (s.flmEvent r).flm.reminds = r.flm.reminds := rfl
    rw [State.flmEvent_reminderAt, same]
    cases r.flm.reminds <;> simp

/-! ### Distinct names and stamps, of which the list orders and renumbers the records -/

theorem inDisplayOrder_map_nodup {α : Type} (g : FaultRecord → α) {l : List FaultRecord} (h : (l.map g).Nodup) :
    ((inDisplayOrder l).map g).Nodup := ((inDisplayOrder_perm l).map g).nodup_iff.2 h

theorem inDisplayOrder_eq_nil {l : List FaultRecord} : inDisplayOrder l = [] ↔ l = [] := by
  rw [← List.length_eq_zero_iff, length_inDisplayOrder, List.length_eq_zero_iff]

/-- A change of records that keeps a field keeps the field's distinctness in whatever is left. -/
theorem filterMap_map_nodup {α : Type} {g : FaultRecord → α} {change : FaultRecord → Option FaultRecord}
    (keeps : ∀ r q, change r = some q → g q = g r) {l : List FaultRecord} (h : (l.map g).Nodup) :
    ((l.filterMap change).map g).Nodup := by
  refine List.Nodup.sublist ?_ h
  induction l with
  | nil => exact .slnil
  | cons r rest ih =>
    have ih := ih (List.nodup_cons.1 h).2
    cases changed : change r with
    | none => rw [List.filterMap_cons_none changed]; exact ih.cons _
    | some q =>
      rw [List.filterMap_cons_some changed, List.map_cons, List.map_cons, keeps r q changed]
      exact ih.cons_cons _

/-- What a change of a record by the list's operations may not touch: its name and its stamp, and its count beyond 1 to 15. -/
structure KeepsName (change : FaultRecord → Option FaultRecord) : Prop where
  name  : ∀ r q, change r = some q → (q.origin, q.code) = (r.origin, r.code)
  stamp : ∀ r q, change r = some q → q.stamp = r.stamp
  count : ∀ r q, change r = some q → 1 ≤ r.count ∧ r.count ≤ 15 → 1 ≤ q.count ∧ q.count ≤ 15

/-- A list whose records are changed and put in order again is sound; left empty, it counts from 0 again (R91). -/
theorem Flm.Sound.changed {f : Flm} (h : f.Sound) {change : FaultRecord → Option FaultRecord} (k : KeepsName change) :
    (f.withRemaining (inDisplayOrder (f.records.filterMap change))).Sound where
  room := by
    refine Nat.le_trans ?_ h.room
    simpa [Flm.withRemaining] using List.length_filterMap_le change f.records
  named := inDisplayOrder_map_nodup _ (filterMap_map_nodup k.name h.named)
  ordered := inDisplayOrder_pairwise _
  stamps := inDisplayOrder_map_nodup _ (filterMap_map_nodup k.stamp h.stamps)
  below := by
    intro q mem
    obtain ⟨r, was, changed⟩ := List.mem_filterMap.1 (mem_inDisplayOrder.1 mem)
    have left : inDisplayOrder (f.records.filterMap change) ≠ [] := List.ne_nil_of_mem mem
    simpa [Flm.withRemaining, left, k.stamp r q changed] using h.below r was
  counter := by
    show (if _ then 0 else f.counter) ≤ 65535
    split
    · exact Nat.zero_le _
    · exact h.counter
  counts := by
    intro q mem
    obtain ⟨r, was, changed⟩ := List.mem_filterMap.1 (mem_inDisplayOrder.1 mem)
    exact k.count r q changed (h.counts r was)
  empty := by
    intro gone
    have none_left : (inDisplayOrder (f.records.filterMap change)).isEmpty = true := List.isEmpty_iff.2 gone
    cases before : f.records with
    | nil => simp [Flm.withRemaining, before, h.empty before]
    | cons r rest => simp only [before] at none_left; simp [Flm.withRemaining, before, none_left]

/-! ### Settling, relisting, marking -/

theorem keepsName_if {change : FaultRecord → Option FaultRecord} (k : KeepsName change) (sel : FaultRecord → Bool) :
    KeepsName (fun r => if sel r then change r else some r) where
  name r q h := by
    split at h
    · exact k.name r q h
    · cases h; rfl
  stamp r q h := by
    split at h
    · exact k.stamp r q h
    · cases h; rfl
  count r q h := by
    split at h
    · exact k.count r q h
    · cases h; exact id

theorem keepsName_settleAbsent : KeepsName settleAbsent := by
  constructor <;> intro r q h <;> unfold settleAbsent at h <;> split at h <;> cases h <;> simp

theorem keepsName_settleAcknowledged : KeepsName settleAcknowledged := by
  constructor <;> intro r q h <;> unfold settleAcknowledged at h <;> split at h <;> cases h <;> simp

theorem keepsName_relist (cls : FaultClass) : KeepsName (fun r => some (relist cls r)) where
  name r q h := by cases h; unfold relist; split <;> rfl
  stamp r q h := by cases h; unfold relist; split <;> rfl
  count r q h := by cases h; unfold relist; split <;> dsimp only <;> omega

theorem keepsName_stale (mark : Bool) : KeepsName (fun r => some { r with stale := mark }) := by
  constructor <;> intro r q h <;> cases h <;> simp

theorem Flm.Sound.settle {f : Flm} (h : f.Sound) {sel : FaultRecord → Bool} {change : FaultRecord → Option FaultRecord}
    (k : KeepsName change) : (f.settle sel change).Sound := h.changed (keepsName_if k sel)

/-- Records that stay as many as they were leave the counter as it is (R91). -/
theorem Flm.withRemaining_of_length {f : Flm} {rest : List FaultRecord} (h : rest.length = f.records.length) :
    f.withRemaining rest = { f with records := rest } := by
  have both : rest.isEmpty = f.records.isEmpty := by
    rw [Bool.eq_iff_iff, List.isEmpty_iff_length_eq_zero, List.isEmpty_iff_length_eq_zero, h]
  simp [Flm.withRemaining, both]

theorem filterMap_ite_some {change : FaultRecord → FaultRecord} {sel : FaultRecord → Bool} (l : List FaultRecord) :
    l.filterMap (fun r => if sel r then some (change r) else some r) = l.map (fun r => if sel r then change r else r) := by
  rw [← List.filterMap_eq_map]
  exact congrArg (fun g => l.filterMap g) (funext fun r => by split <;> simp [*])

theorem Flm.relist_eq (f : Flm) (origin : Nat) (code : FaultCode) (cls : FaultClass) :
    f.relist origin code cls = f.withRemaining (inDisplayOrder
      (f.records.filterMap (fun r => if r.is origin code then some (Machine.relist cls r) else some r))) := by
  rw [filterMap_ite_some, Flm.withRemaining_of_length (by simp)]
  rfl

theorem Flm.Sound.relist {f : Flm} (h : f.Sound) (origin : Nat) (code : FaultCode) (cls : FaultClass) :
    (f.relist origin code cls).Sound := f.relist_eq origin code cls ▸ h.changed (keepsName_if (keepsName_relist cls) _)

/-- Records in display order stay where they are. -/
theorem inDisplayOrder_of_ordered {l : List FaultRecord} (h : l.Pairwise (fun a b => displayLe a b = true)) :
    inDisplayOrder l = l := by
  induction l with
  | nil => rfl
  | cons r rest ih =>
    obtain ⟨first, tail⟩ := List.pairwise_cons.1 h
    rw [inDisplayOrder, ih tail]
    cases rest with
    | nil => rfl
    | cons q rest => rw [placeRecord, if_pos (first q List.mem_cons_self)]

/-- The stale mark has no part in the display order (R90). -/
theorem Flm.Sound.markStale {f : Flm} (h : f.Sound) (origin : Nat) (mark : Bool) : (f.markStale origin mark).Sound := by
  have ordered : (f.markStale origin mark).records.Pairwise (fun a b => displayLe a b = true) := by
    refine List.pairwise_map.2 (h.ordered.imp fun {a b} le => ?_)
    split <;> split <;> exact le
  have as_change : f.markStale origin mark = f.withRemaining (inDisplayOrder (f.records.filterMap
      (fun r => if r.origin == origin && !r.internal then some { r with stale := mark } else some r))) := by
    rw [filterMap_ite_some (change := fun r => { r with stale := mark }) (sel := fun r => r.origin == origin && !r.internal),
      Flm.withRemaining_of_length (by simp)]
    exact congrArg (fun l => { f with records := l }) (inDisplayOrder_of_ordered ordered).symm
  exact as_change ▸ h.changed (keepsName_if (keepsName_stale mark) (fun r => r.origin == origin && !r.internal))

/-! ### Creating a record (R91, R104, R105) -/

/-- The number of records with a stamp below: the new stamp of a renumbered record. -/
def stampRank (l : List FaultRecord) (n : Nat) : Nat := (l.filter (fun q => decide (q.stamp < n))).length

theorem renumber_eq (l : List FaultRecord) : renumber l = l.map (fun r => { r with stamp := stampRank l r.stamp }) := rfl

@[simp] theorem length_renumber (l : List FaultRecord) : (renumber l).length = l.length := by simp [renumber]

theorem stampRank_lt_length {l : List FaultRecord} {r : FaultRecord} (h : r ∈ l) : stampRank l r.stamp < l.length :=
  List.length_filter_lt_length_iff_exists.2 ⟨r, h, by simp⟩

/-- The older record takes the lower new stamp (R91). -/
theorem stampRank_lt {l : List FaultRecord} {r : FaultRecord} (h : r ∈ l) {n : Nat} (older : r.stamp < n) :
    stampRank l r.stamp < stampRank l n := by
  have sub : l.filter (fun q => decide (q.stamp < r.stamp)) =
      (l.filter (fun q => decide (q.stamp < n))).filter (fun q => decide (q.stamp < r.stamp)) := by
    rw [List.filter_filter]
    refine List.filter_congr fun q _ => ?_
    rw [Bool.eq_iff_iff]; simp; omega
  unfold stampRank
  rw [sub]
  exact List.length_filter_lt_length_iff_exists.2 ⟨r, by simp [h, older], by simp⟩

theorem nodup_map_of_nodup_map {α β γ : Type} {l : List α} {f : α → β} {g : α → γ} (nodup : (l.map f).Nodup)
    (apart : ∀ x ∈ l, ∀ y ∈ l, g x = g y → f x = f y) : (l.map g).Nodup :=
  List.pairwise_map.2 ((List.pairwise_map.1 nodup).imp_of_mem fun hx hy different same => different (apart _ hx _ hy same))

theorem nodup_of_nodup_map {α β : Type} {l : List α} {f : α → β} (nodup : (l.map f).Nodup) : l.Nodup :=
  List.Pairwise.of_map f (fun _ _ different same => different (congrArg f same)) nodup

theorem eq_of_nodup_map {α β : Type} {l : List α} {f : α → β} (nodup : (l.map f).Nodup) {x y : α} (hx : x ∈ l) (hy : y ∈ l)
    (same : f x = f y) : x = y := by
  induction l with
  | nil => cases hx
  | cons z rest ih =>
    obtain ⟨notIn, nodup⟩ := List.nodup_cons.1 nodup
    obtain isX | restX := List.mem_cons.1 hx <;> obtain isY | restY := List.mem_cons.1 hy
    · exact isX.trans isY.symm
    · exact absurd (List.mem_map.2 ⟨y, restY, isX ▸ same.symm⟩) notIn
    · exact absurd (List.mem_map.2 ⟨x, restX, isY ▸ same⟩) notIn
    · exact ih nodup restX restY

theorem renumber_map_nodup {l : List FaultRecord} (h : (l.map (·.stamp)).Nodup) : ((renumber l).map (·.stamp)).Nodup := by
  rw [renumber_eq, List.map_map]
  refine nodup_map_of_nodup_map h fun r hr q hq same => ?_
  rcases Nat.lt_trichotomy r.stamp q.stamp with lt | eq | gt
  · exact absurd same (Nat.ne_of_lt (stampRank_lt hr lt))
  · exact eq
  · exact absurd same (Nat.ne_of_gt (stampRank_lt hq gt))

theorem renumber_map_name (l : List FaultRecord) :
    (renumber l).map (fun r => (r.origin, r.code)) = l.map (fun r => (r.origin, r.code)) := by
  simp [renumber]

/-- What a list must be for a record to be added to it: sound but for a counter that need not be 0 when it is empty. -/
theorem Flm.Sound.add {f : Flm} {r : FaultRecord} (room : f.records.length < capacity)
    (named : (f.records.map (fun r => (r.origin, r.code))).Nodup) (stamps : (f.records.map (·.stamp)).Nodup)
    (below : ∀ q ∈ f.records, q.stamp < f.counter) (counts : ∀ q ∈ f.records, 1 ≤ q.count ∧ q.count ≤ 15)
    (fresh : ∀ q ∈ f.records, (q.origin, q.code) ≠ (r.origin, r.code)) (count : 1 ≤ r.count ∧ r.count ≤ 15) :
    (f.add r).Sound := by
  have names : (({ r with stamp := f.counter } :: f.records).map (fun r => (r.origin, r.code))).Nodup :=
    List.nodup_cons.2 ⟨fun mem => by obtain ⟨q, hq, same⟩ := List.mem_map.1 mem; exact fresh q hq same, named⟩
  have stamped : (({ r with stamp := f.counter } :: f.records).map (·.stamp)).Nodup :=
    List.nodup_cons.2 ⟨fun mem => by
      obtain ⟨q, hq, same⟩ := List.mem_map.1 mem; exact absurd same (Nat.ne_of_lt (below q hq)), stamps⟩
  obtain ⟨roomy, added⟩ | ⟨-, added⟩ := f.add_cases r <;> rw [added]
  · exact {
      room := by rw [length_inDisplayOrder]; exact room
      named := inDisplayOrder_map_nodup _ names
      ordered := inDisplayOrder_pairwise _
      stamps := inDisplayOrder_map_nodup _ stamped
      below := by
        intro q mem
        obtain rfl | mem := List.mem_cons.1 (mem_inDisplayOrder.1 mem)
        · exact Nat.lt_succ_self _
        · exact Nat.lt_succ_of_lt (below q mem)
      counter := roomy
      counts := by
        intro q mem
        obtain rfl | mem := List.mem_cons.1 (mem_inDisplayOrder.1 mem)
        · exact count
        · exact counts q mem
      empty := by simp [inDisplayOrder_eq_nil] }
  · exact {
      room := by rw [length_inDisplayOrder, length_renumber]; exact room
      named := inDisplayOrder_map_nodup _ (by rw [renumber_map_name]; exact names)
      ordered := inDisplayOrder_pairwise _
      stamps := inDisplayOrder_map_nodup _ (renumber_map_nodup stamped)
      below := by
        intro q mem
        obtain ⟨p, hp, rfl⟩ := List.mem_map.1 (mem_inDisplayOrder.1 mem)
        exact stampRank_lt_length hp
      counter := by show f.records.length + 1 ≤ 65535; unfold capacity at room; omega
      counts := by
        intro q mem
        obtain ⟨p, hp, rfl⟩ := List.mem_map.1 (mem_inDisplayOrder.1 mem)
        obtain rfl | hp := List.mem_cons.1 hp
        · exact count
        · exact counts p hp
      empty := by simp [inDisplayOrder_eq_nil, renumber] }

/-- A full list that gives up a record has room for another. -/
theorem length_filter_ne_lt {l : List FaultRecord} {v : FaultRecord} (h : v ∈ l) : (l.filter (fun q => q != v)).length < l.length :=
  List.length_filter_lt_length_iff_exists.2 ⟨v, h, by simp⟩

theorem Flm.Sound.create {f : Flm} (h : f.Sound) {r : FaultRecord}
    (fresh : ∀ q ∈ f.records, (q.origin, q.code) ≠ (r.origin, r.code)) (count : 1 ≤ r.count ∧ r.count ≤ 15) :
    (f.create r).Sound := by
  obtain ⟨room, created⟩ | ⟨-, -, created⟩ | ⟨v, -, victim, created⟩ := f.create_cases r <;> rw [created]
  · exact Flm.Sound.add room h.named h.stamps h.below h.counts fresh count
  · exact { h with }
  · have mem := (Flm.victim_some victim).1
    have sub : (f.records.filter (fun q => q != v)).Sublist f.records := List.filter_sublist
    have kept : ∀ q ∈ f.records.filter (fun q => q != v), q ∈ f.records := fun q hq => sub.subset hq
    refine Flm.Sound.add (Nat.lt_of_lt_of_le (length_filter_ne_lt mem) h.room) (h.named.sublist (sub.map _))
      (h.stamps.sublist (sub.map _)) (fun q hq => ?_) (fun q hq => h.counts q (kept q hq)) (fun q hq => fresh q (kept q hq)) count
    have left : (f.records.filter (fun q => q != v)).isEmpty = false := List.isEmpty_eq_false_iff.2 (List.ne_nil_of_mem hq)
    show q.stamp < if (f.records.filter (fun q => q != v)).isEmpty && !f.records.isEmpty then 0 else f.counter
    simpa only [left, Bool.false_and, Bool.false_eq_true, if_false] using h.below q (kept q hq)

/-! ### Raising, reconciling -/

theorem Flm.Sound.raiseCode {f : Flm} (h : f.Sound) (origin : Nat) (internal : Bool) (code : FaultCode) (cls : FaultClass) :
    (f.raiseCode origin internal code cls).flm.Sound := by
  unfold Flm.raiseCode
  split
  next => exact h.relist origin code cls
  next absent =>
    refine h.create (fun q hq same => ?_) (by simp [newRecord])
    have := Flm.find_none.1 absent q hq
    simp_all [FaultRecord.is, newRecord]

theorem sound_raiseListed {origin : Nat} {listed : List ListedFault} {r : FlmResult} (h : r.flm.Sound) :
    (raiseListed origin listed r).flm.Sound := by
  induction listed generalizing r with
  | nil => exact h
  | cons e rest ih => exact ih (h.raiseCode origin false e.code e.cls)

theorem Flm.Sound.reconcile {f : Flm} (h : f.Sound) (origin : Nat) (listed : List ListedFault) :
    (f.reconcile origin listed).flm.Sound :=
  Flm.Sound.markStale (sound_raiseListed (sound_raiseListed (h.settle keepsName_settleAbsent))) origin false

end Sys2Proof.Machine
end

section
/-! PROOFS. What the eleven blocks share is the Fault List, the window position and the inputs of the DIU, the lamps and tones of
the IDR. Every operation acts on these by a few kinds of act; what all of them keep, every event keeps. -/

namespace Sys2Proof.Machine

open Sys2Proof

-- One proof after another: the many small proofs below, each on a thread of its own, would reserve more stacks than the check allows.
set_option Elab.async false

/-! ### The acts -/

/-- Two states that agree on what the blocks share, and on what the lamps and tones are formed from; on the aspect too, unless
`loose`, as within a reselection before its hand-offs. -/
structure State.Beside (loose : Bool) (s u : State) : Prop where
  flm    : u.flm = s.flm := by rfl
  diu    : u.diu = s.diu := by rfl
  idr    : u.idr = s.idr := by rfl
  cfl    : u.cfl = s.cfl := by rfl
  pins   : u.supokHigh = s.supokHigh ∧ u.rstnHigh = s.rstnHigh := by exact ⟨rfl, rfl⟩
  now    : u.now = s.now := by rfl
  role   : u.cru.role = s.cru.role := by rfl
  level  : u.sdm.level = s.sdm.level := by rfl
  speed  : u.sfu.speedState = s.sfu.speedState := by rfl
  aspect : loose = false → u.asu.shown.code = s.asu.shown.code ∧ u.asu.pendingAck = s.asu.pendingAck := by
    exact fun _ => ⟨rfl, rfl⟩

/-- One act: beside what is shared; an event at the FLM that leaves a sound list sound; the hand-offs of the ASU; an evaluation of
the overspeed level; a role taken; a computation's speed state with its lamp. -/
inductive Act (loose : Bool) (s : State) : State → Prop where
  | beside {u : State} (h : s.Beside loose u) : Act loose s u
  | event (r : FlmResult) (sound : s.flm.Sound → r.flm.Sound) : Act loose s (s.flmEvent r)
  | indicate : Act loose s s.asuIndicate
  | evaluate : Act loose s s.evaluateOverspeed
  | role (role : Role) : Act loose s (s.takeRole role)
  | compute (v : Sfu) : Act loose s { s with
      sfu := v, idr := { s.idr with lamps := { s.idr.lamps with source := v.speedState.lamp } } }

/-- Steps of a relation one after another, possibly none. -/
inductive Chain (step : State → State → Prop) (s : State) : State → Prop where
  | refl : Chain step s s
  | tail {u v : State} (before : Chain step s u) (last : step u v) : Chain step s v

section

variable {step : State → State → Prop} {s u v : State}

theorem Chain.single (h : step s u) : Chain step s u := .tail .refl h

theorem Chain.trans (h : Chain step s u) (k : Chain step u v) : Chain step s v := by
  induction k with
  | refl => exact h
  | tail _ last ih => exact .tail ih last

theorem Chain.head (first : step s u) (h : Chain step u v) : Chain step s v := (Chain.single first).trans h

theorem Chain.mono {weaker : State → State → Prop} (weaken : ∀ {s u}, step s u → weaker s u) (h : Chain step s u) :
    Chain weaker s u := by
  induction h with
  | refl => exact .refl
  | tail _ last ih => exact .tail ih (weaken last)

end

/-- Acts one after another. -/
abbrev Acts (loose : Bool) : State → State → Prop := Chain (Act loose)

/-- A step of an event's course: an act that leaves the aspect alone, or acts that end with the ASU's hand-offs. -/
def Stage (s u : State) : Prop := Act false s u ∨ ∃ w, Acts true s w ∧ u = w.asuIndicate

/-- The course of an event: its stages one after another. -/
abbrev Course : State → State → Prop := Chain Stage

theorem Act.loosen {s u : State} (h : Act false s u) : Act true s u := by
  cases h with
  | beside h => exact .beside { h with aspect := fun loose => nomatch loose }
  | event r sound => exact .event r sound
  | indicate => exact .indicate
  | evaluate => exact .evaluate
  | role role => exact .role role
  | compute v => exact .compute v

/-- Whatever every act keeps, a course keeps. -/
theorem Course.keeps {P : State → Prop} (act : ∀ s u, Act true s u → P s → P u) {s u : State} (h : Course s u) (p : P s) :
    P u := by
  have acts : ∀ {s u : State}, Acts true s u → P s → P u := fun h p => by
    induction h with
    | refl => exact p
    | tail _ one ih => exact act _ _ one ih
  induction h with
  | refl => exact p
  | tail _ stage ih =>
    obtain one | ⟨w, before, rfl⟩ := stage
    · exact act _ _ one.loosen ih
    · exact act _ _ .indicate (acts before ih)

theorem Acts.course {s u : State} (h : Acts false s u) : Course s u :=
  h.mono .inl

theorem Acts.beside {loose : Bool} {s u : State} (h : s.Beside loose u) : Acts loose s u := .single (.beside h)

theorem Course.beside {s u : State} (h : s.Beside false u) : Course s u := (Acts.beside h).course

theorem Course.indicate {s w : State} (h : Acts true s w) : Course s w.asuIndicate := .single (.inr ⟨w, h, rfl⟩)

theorem Acts.asu (s : State) (a : Asu) : Acts true s { s with asu := a } :=
  Acts.beside { aspect := fun loose => nomatch loose }

/-- The ASU's own state changed, and handed on at once. -/
theorem Course.indicated (s : State) (a : Asu) : Course s ({ s with asu := a } : State).asuIndicate :=
  Course.indicate (Acts.asu s a)

/-! ### The acts of the Fault List Manager and of the SDM -/

section
variable {loose : Bool}

theorem State.flmRaise_acts (s : State) (code : FaultCode) (cls : FaultClass) : Acts loose s (s.flmRaise code cls) :=
  .single (.event _ fun h => h.raiseCode s.own true code cls)

theorem State.flmClear_acts (s : State) (code : FaultCode) : Acts loose s (s.flmClear code) :=
  .single (.event _ fun h => h.settle keepsName_settleAbsent)

theorem State.request_acts (s : State) (q : FaultRequest) : Acts loose s (s.request q) := by
  cases q with
  | raise code cls => exact s.flmRaise_acts code cls
  | clear code => exact s.flmClear_acts code

theorem State.requests_acts (s : State) (qs : List FaultRequest) : Acts loose s (s.requests qs) := by
  induction qs generalizing s with
  | nil => exact .refl
  | cons q rest ih => exact (s.request_acts q).trans (ih (s.request q))

theorem State.flmReconcile_acts (s : State) (origin : Nat) (payload : List Byte) :
    Acts loose s (s.flmReconcile origin payload) := .single (.event _ fun h => h.reconcile origin _)

theorem State.flmStale_acts (s : State) (origin : Nat) : Acts loose s (s.flmStale origin) :=
  .single (.event _ fun h => h.markStale origin true)

theorem State.flmAcknowledge_acts (s : State) (sel : FaultRecord → Bool) : Acts loose s (s.flmAcknowledge sel) :=
  .single (.event _ fun h => h.settle keepsName_settleAcknowledged)

theorem State.sdmHandOff_acts (s : State) (fused : Option Nat) : Acts loose s (s.sdmHandOff fused) :=
  (Acts.beside {}).trans (.single .evaluate)

theorem State.sdmLimits_acts (s : State) (limits : Limits) : Acts loose s (s.sdmLimits limits) :=
  (Acts.beside {}).trans (.single .evaluate)

end

/-! ### The courses of the Line Interface -/

theorem State.queueLoss_course (s : State) : Course s s.queueLoss := by
  unfold State.queueLoss
  split
  · exact .refl
  · exact (Course.beside {}).trans (State.flmRaise_acts _ _ _).course

theorem State.handFrame_course (s : State) (content : TxContent) : Course s (s.handFrame content) := by
  obtain ⟨-, placed⟩ | ⟨c, -, lost⟩ := s.handFrame_cases content
  · exact placed ▸ Course.beside {}
  · exact lost ▸ (Course.beside {}).trans (State.queueLoss_course _)

theorem State.queueEased_course (s : State) : Course s s.queueEased := by
  unfold State.queueEased
  split
  · exact (Course.beside {}).trans (State.flmClear_acts _ _).course
  · exact .refl

theorem State.enterHold_course (s : State) : Course s s.enterHold := by
  unfold State.enterHold
  split
  · exact (Course.beside {}).trans (State.handFrame_course _ _)
  · exact .refl

theorem State.headLeaves_course (s : State) : Course s s.headLeaves := by
  unfold State.headLeaves
  split
  · exact .refl
  · exact (Course.beside {}).trans ((State.enterHold_course _).trans (State.queueEased_course _))

theorem State.pruneQueue_course (s : State) : Course s s.pruneQueue := by
  unfold State.pruneQueue
  dsimp only
  split
  · exact (Course.beside {}).trans (State.queueEased_course _)
  · exact Course.beside {}

theorem State.sendSucceeded_course (s : State) : Course s s.sendSucceeded := by
  unfold State.sendSucceeded
  split
  · exact (Course.beside {}).trans (State.flmClear_acts _ _).course
  · exact .refl

theorem State.sendFailed_course (s : State) : Course s s.sendFailed := by
  unfold State.sendFailed
  split
  · exact .refl
  · exact (Course.beside {}).trans (State.flmRaise_acts _ _ _).course

theorem State.attemptSucceeds_course (s : State) : Course s s.attemptSucceeds := by
  unfold State.attemptSucceeds
  split
  · exact (Course.beside {}).trans ((State.headLeaves_course _).trans (State.sendSucceeded_course _))
  · exact .refl

theorem State.attemptCounted_course (s : State) : Course s s.attemptCounted := by
  unfold State.attemptCounted
  split
  · exact .refl
  · split
    · exact Course.beside {}
    · exact (State.headLeaves_course _).trans (State.sendFailed_course _)

theorem State.attemptFails_course (s : State) : Course s s.attemptFails := by
  unfold State.attemptFails
  split
  · exact (Course.beside {}).trans (State.attemptCounted_course _)
  · exact .refl

theorem State.clash_course (s : State) : Course s s.clash := by
  unfold State.clash
  dsimp only
  split
  · exact Course.beside {}
  · exact (Course.beside {}).trans (State.flmRaise_acts _ _ _).course

theorem State.clashOver_course (s : State) : Course s s.clashOver := (Course.beside {}).trans (State.flmClear_acts _ _).course

/-- An event that changes nothing but the line. -/
theorem Course.line {s u : State} (h : u = { s with lif := u.lif }) : Course s u := h ▸ Course.beside {}

theorem State.hearFrame_course (s : State) (bytes : List Byte) : Course s (s.hearFrame bytes) := by
  unfold State.hearFrame
  split
  · exact Course.beside {}
  · exact .refl

theorem State.hearClash_course (s : State) (bytes : List Byte) : Course s (s.hearClash bytes) := by
  unfold State.hearClash
  split
  · split
    · exact (s.hearFrame_course bytes).trans (State.clash_course _)
    · exact s.hearFrame_course bytes
  · exact s.hearFrame_course bytes

/-! ### The courses of the SFU and the ASU -/

theorem State.sfuCompute_course (s : State) : Course s s.sfuCompute :=
  .head (.inl (.compute _)) ((State.requests_acts _ _).course.trans (State.sdmHandOff_acts _ _).course)

theorem State.sfuPublished_course (s : State) (k : Fin 4) (after : EntryState) (payload : Option (List Byte)) :
    Course s (s.sfuPublished k after payload) := (Course.beside {}).trans (State.sfuCompute_course _)

theorem State.sfuGrace_course (s : State) : Course s s.sfuGrace := by
  unfold State.sfuGrace
  dsimp only
  split
  · exact (Course.beside {}).trans (State.flmRaise_acts _ _ _).course
  · exact Course.beside {}

theorem State.reselect_course (s : State) : Course s s.reselect := by
  unfold State.reselect
  dsimp only
  have asked : Acts true s (({ s with asu := s.asu.reselected s.own s.cfg s.now } : State).requests
      (s.asu.requestsTo (s.asu.reselected s.own s.cfg s.now))) :=
    (Acts.asu s _).trans (State.requests_acts _ _)
  refine Course.indicate (.trans asked ?_)
  split
  · exact .refl
  · exact State.sdmLimits_acts _ _

theorem State.asuPublished_course (s : State) (secondary : Bool) (station : Nat) (after : EntryState)
    (payload : Option (List Byte)) : Course s (s.asuPublished secondary station after payload) := by
  unfold State.asuPublished
  cases secondary
  · exact (Course.beside {}).trans (State.reselect_course _)
  · exact (Course.beside {}).trans (State.reselect_course _)

theorem State.asuGrace_course (s : State) : Course s s.asuGrace := (Course.beside {}).trans (State.reselect_course _)

theorem State.disagreementExpiry_course (s : State) : Course s s.disagreementExpiry :=
  (Course.beside {}).trans (State.flmRaise_acts _ _ _).course

theorem State.closeRecord_course (s : State) : Course s s.closeRecord := Course.indicated s _

theorem State.announceOverdue_course (s : State) (r : PendingAck) (time : Nat) : Course s (s.announceOverdue r time) :=
  (Course.beside {}).trans (State.handFrame_course _ _)

theorem State.acknowledgementExpiry_course (s : State) : Course s s.acknowledgementExpiry := by
  unfold State.acknowledgementExpiry
  split
  · exact Course.beside {}
  · dsimp only
    split
    · exact (Course.indicated s _).trans (State.announceOverdue_course _ _ _)
    · exact Course.indicated s _

theorem State.repeatExpiry_course (s : State) : Course s s.repeatExpiry := by
  unfold State.repeatExpiry
  dsimp only
  split
  · exact Course.beside {}
  · split
    · exact (Course.beside {}).trans (State.announceOverdue_course _ _ _)
    · exact Course.beside {}

theorem State.asuEntersActive_course (s : State) : Course s s.asuEntersActive := by
  unfold State.asuEntersActive
  split
  · exact .refl
  · split
    · exact State.announceOverdue_course _ _ _
    · exact .refl

theorem State.asuPress_course (s : State) : Course s s.asuPress := by
  unfold State.asuPress
  split
  · exact .refl
  · split
    · exact (State.closeRecord_course s).trans (State.handFrame_course _ _)
    · exact .refl

theorem State.asuPeerAckn_course (s : State) (station : Nat) (inst : InstanceNo) :
    Course s (s.asuPeerAckn station inst) := by
  unfold State.asuPeerAckn
  split
  · exact .refl
  · split
    · exact State.closeRecord_course s
    · exact .refl

/-! ### The courses of the CRU -/

theorem State.handDesk_course (s : State) (before between after : FlmView) :
    Course s (s.handDesk before between after) := (Course.beside {}).trans (State.handFrame_course _ _)

theorem State.deskPeriod_course (s : State) : Course s s.deskPeriod :=
  (Course.beside {}).trans (State.handDesk_course _ _ _ _)

theorem State.takeRole_course (s : State) (role : Role) : Course s (s.takeRole role) := .single (.inl (.role role))

theorem State.enterRole_course (s : State) (role : Role) : Course s (s.enterRole role) := by
  unfold State.enterRole
  dsimp only
  split
  · exact (s.takeRole_course role).trans (State.asuEntersActive_course _)
  · split
    · exact (s.takeRole_course role).trans ((Course.beside {}).trans (State.pruneQueue_course _))
    · exact s.takeRole_course role

theorem State.conflictRecord_course (s : State) (old : Role) : Course s (s.conflictRecord old) := by
  unfold State.conflictRecord
  split
  · exact (State.flmRaise_acts _ _ _).course
  · split
    · exact (State.flmClear_acts _ _).course
    · exact .refl

theorem State.peerConflictTest_course (s : State) : Course s s.peerConflictTest := by
  unfold State.peerConflictTest
  dsimp only
  split
  · exact .refl
  · split
    · exact (Course.beside {}).trans (State.flmRaise_acts _ _ _).course
    · exact (Course.beside {}).trans (State.flmClear_acts _ _).course

theorem State.evaluateRole_course (s : State) (expiry : Bool) : Course s (s.evaluateRole expiry) := by
  unfold State.evaluateRole
  dsimp only
  split
  · exact s.peerConflictTest_course
  · exact (State.enterRole_course _ _).trans ((State.conflictRecord_course _ _).trans
      ((State.peerConflictTest_course _).trans (State.handDesk_course _ _ _ _)))

theorem State.firstEvaluation_course (s : State) : Course s s.firstEvaluation := by
  unfold State.firstEvaluation
  dsimp only
  refine .trans ?_ (State.handDesk_course _ _ _ _)
  have fallbackRecord (r : State) : Course r (if s.cfl.fallback then r.flmRaise 0xF060 .stop else r) := by
    split
    · exact (State.flmRaise_acts _ _ _).course
    · exact .refl
  refine .trans (.trans ?_ (State.peerConflictTest_course _)) (fallbackRecord _)
  split
  · exact Course.beside {}
  · exact (Course.beside {}).trans ((State.enterRole_course _ _).trans (State.conflictRecord_course _ _))

theorem State.cruPublished_course (s : State) (k : Fin 3) (after : EntryState) (payload : Option (List Byte)) :
    Course s (s.cruPublished k after payload) := (Course.beside {}).trans (State.evaluateRole_course _ _)

theorem State.cruKey_course (s : State) (on : Bool) : Course s (s.cruKey on) :=
  (Course.beside {}).trans (State.evaluateRole_course _ _)

theorem State.claimExpiry_course (s : State) : Course s s.claimExpiry :=
  (Course.beside {}).trans (State.evaluateRole_course _ _)

/-! ### The courses of the presses, the SSV and the SNU -/

theorem State.flmPress_course (s : State) (origin : Nat) (code : FaultCode) : Course s (s.flmPress origin code) := by
  unfold State.flmPress
  split
  · exact .refl
  · split
    · exact (State.flmAcknowledge_acts s _).course.trans (State.handFrame_course _ _)
    · exact .refl

theorem State.receivePress_course (s : State) (route : PressRoute) : Course s (s.receivePress route) := by
  cases route with
  | toAsu => exact s.asuPress_course
  | toFlm n => exact s.flmPress_course n.origin n.code

theorem State.takeRoutedPress_course (s : State) : Course s s.takeRoutedPress := by
  unfold State.takeRoutedPress
  split
  · exact (Course.beside {}).trans (State.receivePress_course _ _)
  · exact .refl

theorem State.flmPublished_course (s : State) (station : Nat) (after : EntryState) (payload : Option (List Byte)) :
    Course s (s.flmPublished station after payload) := by
  unfold State.flmPublished
  split
  · exact (s.flmStale_acts station).course
  · exact (s.flmReconcile_acts station _).course
  · exact .refl

theorem State.publish_course (s : State) (c : SourceConfig) (after : EntryState) (payload : Option (List Byte)) :
    Course s (s.publish c after payload) := by
  unfold State.publish
  split
  · exact s.sfuPublished_course _ after payload
  · exact s.asuPublished_course _ _ after payload
  · exact s.flmPublished_course _ after payload
  · exact s.cruPublished_course _ after payload

theorem State.entryEvent_course (s : State) (i : Fin 24) (r : EntryResult) (payload : List Byte) :
    Course s (s.entryEvent i r payload) := by
  rw [State.entryEvent_cases]
  refine .trans ?_ (State.requests_acts _ _).course
  split
  · exact (Course.beside {}).trans (State.publish_course _ _ _ _)
  · exact Course.beside {}

theorem State.ssvArrival_course (s : State) (f : Frame) : Course s (s.ssvArrival f) := by
  unfold State.ssvArrival
  split
  · exact .refl
  · split
    · exact .refl
    · exact s.entryEvent_course _ _ _

theorem State.lateExpiry_course (s : State) (i : Fin 24) : Course s (s.lateExpiry i) := s.entryEvent_course _ _ _

theorem State.graceEntry_course (s : State) (i : Fin 24) : Course s (s.graceEntry i) := by
  unfold State.graceEntry
  split
  · exact s.entryEvent_course _ _ _
  · exact .refl

theorem State.graceEntries_course (s : State) (l : List (Fin 24)) : Course s (l.foldl (fun s i => s.graceEntry i) s) := by
  induction l generalizing s with
  | nil => exact .refl
  | cons i rest ih => exact (s.graceEntry_course i).trans (ih _)

theorem State.graceExpiry_course (s : State) : Course s s.graceExpiry :=
  ((Course.beside {}).trans (State.graceEntries_course _ _)).trans
    ((State.sfuGrace_course _).trans (State.asuGrace_course _))

theorem State.takeAckn_course (s : State) (payload : List Byte) : Course s (s.takeAckn payload) := by
  unfold State.takeAckn
  split
  · exact s.asuPeerAckn_course _ _
  · exact (s.flmAcknowledge_acts _).course

theorem State.takeAcknFrame_course (s : State) (f : Frame) : Course s (s.takeAcknFrame f) := by
  unfold State.takeAcknFrame State.ssvAckn
  split
  · split
    · exact s.takeAckn_course _
    · exact .refl
  · exact .refl

theorem State.handIf_course (s : State) (b : Bool) (content : TxContent) : Course s (s.handIf b content) := by
  unfold State.handIf
  split
  · exact s.handFrame_course content
  · exact .refl

theorem State.latchSnapshot_course (s : State) (requester : Nat) (parts : SnapParts) :
    Course s (s.latchSnapshot requester parts) :=
  (Course.beside {}).trans ((State.handIf_course _ _ _).trans (State.handIf_course _ _ _))

theorem State.takeSnapreq_course (s : State) (f : Frame) : Course s (s.takeSnapreq f) := by
  unfold State.takeSnapreq State.snuRequest
  split
  · split
    · exact .refl
    · exact s.latchSnapshot_course _ _
  · exact .refl

theorem State.hearPeer_course (s : State) (frame : List Byte) {act : Frame → State → State}
    (acted : ∀ f (r : State), Course r (act f r)) : Course s (s.hearPeer frame act) := by
  unfold State.hearPeer
  split
  · exact (s.hearFrame_course frame).trans (acted _ _)
  · exact s.hearFrame_course frame

end Sys2Proof.Machine
end

section
/-! PROOFS. What every step keeps of the Fault List, of the window position, and of the desk inputs (R87 to R91, R106, R111,
R133 to R142). -/

namespace Sys2Proof.Machine

open Sys2Proof

-- One proof after another: the many small proofs below, each on a thread of its own, would reserve more stacks than the check allows.
set_option Elab.async false

/-! ### The events that act on the shared blocks by courses alone -/

/-- The commands whose event is a course: all but those of the start, of the desk's own inputs and timers, of the generators, of
the one-shot, and of the reminder. -/
def isCourse (c : Instr) : Bool :=
  match c with
  | .reset _ _ | .resetRelease _ _ | .loadEnd _ _ _ | .lampCheckTimerExpiry => false
  | .inputLevelChange _ _ | .scrollPress | .buttonRelease _ | .testPress | .testRelease | .keyChange | .dimmerChange => false
  | .acknowledgePress .whole | .acknowledgePress .routing => false
  | .reminderTimerExpiry | .scrollReturnExpiry | .flashPhaseEnd _ | .oneShotEnd => false
  | _ => true

theorem State.startAttempt_course (s : State) : Course s s.startAttempt := by
  unfold State.startAttempt
  split
  · exact Course.beside {}
  · exact .refl

theorem State.prunedFrameEnds_course (s : State) : Course s s.prunedFrameEnds := by
  unfold State.prunedFrameEnds
  split
  · exact Course.beside {}
  · exact .refl

theorem State.hearStartBit_course (s : State) : Course s s.hearStartBit := by
  unfold State.hearStartBit
  split
  · exact Course.beside {}
  · exact .refl

theorem State.discardFrame_course (s : State) (bytes : List Byte) (ending : FrameEnding) :
    Course s (s.discardFrame bytes ending) := by
  unfold State.discardFrame
  split
  · exact Course.beside {}
  · exact .refl

theorem State.becomeReady_course (s : State) : Course s s.becomeReady := by
  unfold State.becomeReady
  split
  · exact Course.beside {}
  · exact .refl

theorem State.event_course {c : Instr} (h : isCourse c = true) (s : State) : Course s (s.event c) := by
  cases c with
  | arrival _ frame => exact s.hearPeer_course frame fun f r => r.ssvArrival_course f
  | acknFrame _ frame => exact s.hearPeer_course frame fun f r => r.takeAcknFrame_course f
  | snapreq _ frame => exact s.hearPeer_course frame fun f r => r.takeSnapreq_course f
  | stationClash _ frame => exact s.hearClash_course frame
  | lateTimerExpiry entry => exact s.lateExpiry_course entry
  | startupGraceExpiry => exact s.graceExpiry_course
  | acknowledgementTimerExpiry => exact s.acknowledgementExpiry_course
  | overdueRepeatTimerExpiry => exact s.repeatExpiry_course
  | disagreementTimerExpiry => exact s.disagreementExpiry_course
  | claimWindowExpiry => exact s.claimExpiry_course
  | deskPeriodExpiry => exact s.deskPeriod_course
  | stationClashTimerExpiry => exact s.clashOver_course
  | acknowledgePress part =>
    cases part with
    | taking => exact s.takeRoutedPress_course
    | whole | routing => cases h
  | attemptStart _ => exact s.startAttempt_course
  | attemptSuccess _ => exact s.attemptSucceeds_course
  | attemptFailure _ => exact s.attemptFails_course
  | prunedHeadEnd _ => exact s.prunedFrameEnds_course
  | startBitHeard _ => exact s.hearStartBit_course
  | frameDiscard _ frame ending => exact s.discardFrame_course frame ending
  | receiverReady _ => exact s.becomeReady_course
  | frameDropped _ frame => exact s.hearFrame_course frame
  | _ => cases h

/-! ### What the other events do by courses -/

/-- A key change is taken, and in RUNNING its course runs from there. -/
theorem State.takeKey_course (s : State) : Course { s with diu := { s.diu with key := s.diu.key.take } } s.takeKey := by
  unfold State.takeKey
  dsimp only
  split
  · exact State.cruKey_course _ _
  · exact .refl

/-- The state in which the first evaluation takes place: RUNNING, its timers and generators started, the tones gated. -/
def State.begun (s : State) : State :=
  ({ s with
    cfl := { s.cfl with start := .running, lampCheckAt := none, runningSince := some s.now }
    ssv := { s.ssv with graceAt := s.inMs s.cfg.graceMs }
    idr := { s.idr with
      f1 := some (FlashPhase.start s.cfg.f1 s.now)
      f2 := some (FlashPhase.start s.cfg.f2 s.now) } } : State).toneRechoose

theorem State.run_cases (s : State) :
    (s.cfl.start = .lampCheck ∧ s.run = s.begun.firstEvaluation) ∨ (s.cfl.start ≠ .lampCheck ∧ s.run = s) := by
  unfold State.run
  split
  · next h => exact .inl ⟨h, rfl⟩
  · next h => exact .inr ⟨h, rfl⟩

/-- A press is taken and its route is kept where it has one. -/
theorem State.routeAckPress_eq (s : State) : s.routeAckPress = { s.takeRoutedPress with
    diu := { s.takeRoutedPress.diu with acknowledge := s.takeRoutedPress.diu.acknowledge.take }
    routed := s.routeAckPress.routed } := by
  unfold State.routeAckPress
  dsimp only
  split <;> rfl

/-! ### The Fault List -/

theorem Act.lawful {loose : Bool} {s u : State} (h : Act loose s u) (lawful : s.flm.Lawful) : u.flm.Lawful := by
  cases h with
  | beside h => exact h.flm ▸ lawful
  | event r sound => exact State.flmEvent_lawful (sound lawful.sound)
  | indicate => exact lawful
  | evaluate => simpa using lawful
  | role role => simpa using lawful
  | compute v => exact lawful

theorem Course.lawful {s u : State} (h : Course s u) (lawful : s.flm.Lawful) : u.flm.Lawful :=
  h.keeps (P := fun s => s.flm.Lawful) (fun _ _ act => act.lawful) lawful

theorem Flm.lawful_reset : Flm.reset.Lawful := by
  constructor <;> simp [Flm.reset, Flm.reminds, Flm.anyOf, capacity]

theorem State.routeAckPress_lawful {s : State} (lawful : s.flm.Lawful) : s.routeAckPress.flm.Lawful := by
  rw [State.routeAckPress_eq]
  exact s.takeRoutedPress_course.lawful lawful

theorem State.event_lawful {c : Instr} {s : State} {t : Time} (moment : s.moment c = some t) (lawful : s.flm.Lawful) :
    ((s.reach t).event c).flm.Lawful := by
  have lawful' : (s.reach t).flm.Lawful := lawful
  cases c with
  | reset _ source => cases source <;> exact Flm.lawful_reset
  | lampCheckTimerExpiry =>
    obtain ⟨-, begun⟩ | ⟨-, same⟩ := (s.reach t).run_cases
    · show (s.reach t).run.flm.Lawful
      rw [begun]
      exact (State.firstEvaluation_course _).lawful (s := (s.reach t).begun) lawful
    · show (s.reach t).run.flm.Lawful
      rw [same]
      exact lawful
  | reminderTimerExpiry =>
    have timed : s.flm.reminderAt.isSome = true := by rw [show s.flm.reminderAt = some t from moment]; rfl
    exact { lawful with reminder := timed.symm.trans lawful.reminder }
  | keyChange => exact (s.reach t).takeKey_course.lawful lawful
  | acknowledgePress part =>
    cases part with
    | whole => exact (State.takeRoutedPress_course _).lawful (State.routeAckPress_lawful lawful')
    | routing => exact State.routeAckPress_lawful lawful'
    | taking => exact (s.reach t).takeRoutedPress_course.lawful lawful
  | resetRelease _ _ | loadEnd _ _ _ | inputLevelChange _ _ | scrollPress | buttonRelease _ | testPress | testRelease
  | dimmerChange | scrollReturnExpiry | flashPhaseEnd _ | oneShotEnd =>
    rw [State.event_flm rfl]; exact lawful
  | _ => exact (State.event_course rfl (s.reach t)).lawful lawful

theorem step_cases {s u : State} (h : step s = .next u) :
    u = s ∨ ∃ c rest, s.pending = c :: rest ∧ exec c { s with pending := rest } = .next u := by
  unfold step at h
  split at h
  · exact .inl (Host.Outcome.next.inj h).symm
  · next c rest front => exact .inr ⟨c, rest, front, h⟩

/-- What a step can do: nothing but taking a command away, or an event at its moment. -/
theorem step_next_cases {s u : State} (h : step s = .next u) :
    (∃ pending, u = { s with pending := pending }) ∨
    (∃ c t pending, ({ s with pending := pending } : State).moment c = some t ∧
      u = (({ s with pending := pending } : State).reach t).event c) := by
  obtain rfl | ⟨c, rest, -, next⟩ := step_cases h
  · exact .inl ⟨u.pending, rfl⟩
  · obtain ⟨-, rfl⟩ | ⟨t, moment, rfl⟩ := exec_next_cases next
    · exact .inl ⟨rest, rfl⟩
    · exact .inr ⟨c, t, rest, moment, rfl⟩

/-- Settles O54: every event is a course, but for a few whose effect on the list is plain; and each act of a course that changes
the list ends as an event at the FLM does. -/
theorem stepKeepsTheFaultListLawful : Obligations.StepKeepsTheFaultListLawful := by
  intro s u lawful next
  obtain ⟨pending, rfl⟩ | ⟨c, t, pending, moment, rfl⟩ := step_next_cases next
  · exact lawful
  · exact State.event_lawful moment lawful

end Sys2Proof.Machine
end

section
/-! PROOFS. What every step keeps of the window position and of the desk inputs (R133 to R142). -/

namespace Sys2Proof.Machine

open Sys2Proof

-- One proof after another: the many small proofs below, each on a thread of its own, would reserve more stacks than the check allows.
set_option Elab.async false

/-! ### The window position -/

theorem State.windowLawful_iff (s : State) : s.WindowLawful ↔ (s.diu.window = none → s.diu.scrollAt = none) ∧
    ∀ n, s.diu.window = some n → s.diu.scrollAt.isSome = true ∧ (s.flm.find n.origin n.code).isSome = true := by
  unfold State.WindowLawful
  cases s.diu.window <;> simp

/-- Only the window, its timer and the records count. -/
theorem State.WindowLawful.congr {s u : State} (h : s.WindowLawful) (records : u.flm.records = s.flm.records)
    (window : u.diu.window = s.diu.window) (timer : u.diu.scrollAt = s.diu.scrollAt) : u.WindowLawful := by
  rw [State.windowLawful_iff] at h ⊢
  simpa only [records, window, timer, Flm.find] using h

/-- The end of an event returns a window whose record has left to TOP (R142). -/
theorem State.WindowLawful.flmEvent {s : State} (h : s.WindowLawful) (r : FlmResult) : (s.flmEvent r).WindowLawful := by
  rw [State.windowLawful_iff] at h ⊢
  rw [State.flmEvent_diu_eq]
  unfold windowKept
  split
  · next top => exact ⟨fun _ => h.1 top, fun n shown => by rw [top] at shown; cases shown⟩
  · next n shown =>
    split
    · next found =>
      refine ⟨h.1, fun m same => ?_⟩
      obtain rfl : n = m := Option.some.inj (shown.symm.trans same)
      exact ⟨(h.2 n shown).1, found⟩
    · exact ⟨fun _ => rfl, fun m none => by cases none⟩

theorem Act.windowLawful {loose : Bool} {s u : State} (h : Act loose s u) (lawful : s.WindowLawful) : u.WindowLawful := by
  cases h with
  | beside h => exact lawful.congr (by rw [h.flm]) (by rw [h.diu]) (by rw [h.diu])
  | event r _ => exact lawful.flmEvent r
  | indicate => exact lawful
  | evaluate => exact lawful.congr (by simp) (by simp) (by simp)
  | role role => exact lawful.congr (by simp) (by simp) (by simp)
  | compute v => exact lawful

theorem Course.windowLawful {s u : State} (h : Course s u) (lawful : s.WindowLawful) : u.WindowLawful :=
  h.keeps (P := State.WindowLawful) (fun _ _ act => act.windowLawful) lawful

theorem recordAfter_mem {n : RecordName} {l : List FaultRecord} {r : FaultRecord} (h : recordAfter n l = some r) : r ∈ l := by
  induction l with
  | nil => cases h
  | cons q rest ih =>
    unfold recordAfter at h
    split at h
    · exact List.mem_cons_of_mem _ (List.mem_of_mem_head? h)
    · exact List.mem_cons_of_mem _ (ih h)

/-- A scroll press moves to a record of the list, if there is one (R140). -/
theorem scrolledTo_mem {f : Flm} {window : Option RecordName} {r : FaultRecord} (h : scrolledTo f window = some r) :
    r ∈ f.records := by
  unfold scrolledTo at h
  split at h <;> obtain next | ⟨-, first⟩ := Option.or_eq_some_iff.1 h
  · exact List.mem_of_getElem? next
  · exact List.mem_of_mem_head? first
  · exact recordAfter_mem next
  · exact List.mem_of_mem_head? first

theorem scrolledTo_eq_none {f : Flm} {window : Option RecordName} (h : scrolledTo f window = none) : f.records = [] := by
  unfold scrolledTo at h
  split at h <;> exact List.head?_eq_none_iff.1 (Option.or_eq_none_iff.1 h).2

theorem Flm.find_isSome_of_mem {f : Flm} {r : FaultRecord} (h : r ∈ f.records) : (f.find r.origin r.code).isSome = true :=
  List.find?_isSome.2 ⟨r, h, by simp [FaultRecord.is]⟩

theorem State.WindowLawful.scrollWindow {s : State} (h : s.WindowLawful) : s.scrollWindow.WindowLawful := by
  unfold State.scrollWindow
  split
  · next empty =>
    rw [State.windowLawful_iff] at h ⊢
    refine ⟨fun _ => ?_, fun n none => by cases none⟩
    cases shown : s.diu.window with
    | none => exact h.1 shown
    | some n =>
      have found := (h.2 n shown).2
      simp [Flm.find, scrolledTo_eq_none empty] at found
  · next r moved =>
    rw [State.windowLawful_iff]
    refine ⟨fun none => (by cases none), fun n same => ?_⟩
    obtain rfl := Option.some.inj same
    exact ⟨rfl, Flm.find_isSome_of_mem (scrolledTo_mem moved)⟩

theorem State.WindowLawful.routeAckPress {s : State} (h : s.WindowLawful) : s.routeAckPress.WindowLawful := by
  rw [State.routeAckPress_eq]
  exact s.takeRoutedPress_course.windowLawful h

theorem State.event_windowLawful (c : Instr) {s : State} (h : s.WindowLawful) : (s.event c).WindowLawful := by
  cases shared : isCourse c with
  | true => exact (State.event_course shared s).windowLawful h
  | false =>
    cases c with
    | reset _ source => cases source <;> rfl
    | resetRelease _ straps =>
      show (s.release straps).WindowLawful
      unfold State.release
      split
      · exact h
      · exact h
    | lampCheckTimerExpiry =>
      show s.run.WindowLawful
      obtain ⟨-, begun⟩ | ⟨-, same⟩ := s.run_cases
      · rw [begun]; exact (State.firstEvaluation_course _).windowLawful (s := s.begun) h
      · rwa [same]
    | keyChange => exact s.takeKey_course.windowLawful h
    | acknowledgePress part =>
      cases part with
      | whole => exact (State.takeRoutedPress_course _).windowLawful h.routeAckPress
      | routing => exact h.routeAckPress
      | taking => cases shared
    | scrollPress =>
      show s.takeScrollPress.WindowLawful
      unfold State.takeScrollPress
      dsimp only
      split
      · exact State.WindowLawful.scrollWindow (s := { s with diu := { s.diu with scroll := s.diu.scroll.take } }) h
      · exact h
    | scrollReturnExpiry => exact rfl
    | inputLevelChange _ level => cases level <;> exact h
    | buttonRelease button => cases button <;> exact h
    | testPress | testRelease | dimmerChange => exact h
    | reminderTimerExpiry => exact h.congr rfl (by simp [State.event]) (by simp [State.event])
    | loadEnd _ _ _ =>
      exact h.congr (by simp [State.event]) (by simp [State.event]) (by simp [State.event])
    | flashPhaseEnd _ | oneShotEnd =>
      exact h.congr (by simp [State.event]) (by simp [State.event]) (by simp [State.event])
    | _ => cases shared

/-! ### The desk inputs -/

/-- Two states with the same inputs, debounced or not. -/
structure State.SameInputs (s u : State) : Prop where
  acknowledge : u.diu.acknowledge = s.diu.acknowledge := by rfl
  scroll      : u.diu.scroll = s.diu.scroll := by rfl
  test        : u.diu.test = s.diu.test := by rfl
  key         : u.diu.key = s.diu.key := by rfl
  dimmer      : u.diu.dimmer = s.diu.dimmer := by rfl
  testHeld    : u.diu.testHeld = s.diu.testHeld := by rfl
  cfl         : u.cfl = s.cfl := by rfl

theorem State.SameInputs.trans {s t u : State} (h : s.SameInputs t) (k : t.SameInputs u) : s.SameInputs u where
  acknowledge := k.acknowledge.trans h.acknowledge
  scroll := k.scroll.trans h.scroll
  test := k.test.trans h.test
  key := k.key.trans h.key
  dimmer := k.dimmer.trans h.dimmer
  testHeld := k.testHeld.trans h.testHeld
  cfl := k.cfl.trans h.cfl

theorem State.sameInputs_of_diu {s u : State} (diu : u.diu = s.diu) (cfl : u.cfl = s.cfl) : s.SameInputs u := by
  constructor <;> simp [diu, cfl]

/-- An event at the FLM moves the window at most. -/
theorem State.flmEvent_sameInputs (s : State) (r : FlmResult) : s.SameInputs (s.flmEvent r) := by
  obtain same | ⟨n, -, -, top⟩ := windowKept_cases (s.flmEvent r).flm s.diu
  · exact State.sameInputs_of_diu (by rw [State.flmEvent_diu_eq, same]) rfl
  · exact {
      acknowledge := by rw [State.flmEvent_diu_eq, top]
      scroll := by rw [State.flmEvent_diu_eq, top]
      test := by rw [State.flmEvent_diu_eq, top]
      key := by rw [State.flmEvent_diu_eq, top]
      dimmer := by rw [State.flmEvent_diu_eq, top]
      testHeld := by rw [State.flmEvent_diu_eq, top] }

theorem Act.sameInputs {loose : Bool} {s u : State} (h : Act loose s u) : s.SameInputs u := by
  cases h with
  | beside h => exact State.sameInputs_of_diu h.diu h.cfl
  | event r _ => exact s.flmEvent_sameInputs r
  | indicate => exact {}
  | evaluate => exact State.sameInputs_of_diu (by simp) (by simp)
  | role role => exact State.sameInputs_of_diu (by simp) (by simp)
  | compute v => exact {}

theorem Course.sameInputs {s u : State} (h : Course s u) : s.SameInputs u :=
  h.keeps (P := s.SameInputs) (fun _ _ act same => same.trans act.sameInputs) {}

theorem Contact.lawful_of_abandoned {c : Contact} {debouncing : Bool} (same : c.level = c.taken) (ended : c.endsAt = none) :
    c.Lawful debouncing := by
  simp [Contact.Lawful, same, ended]

@[simp] theorem Contact.lawful_take (c : Contact) (debouncing : Bool) : c.take.Lawful debouncing :=
  Contact.lawful_of_abandoned rfl rfl

theorem isSome_intervalFrom (debouncing differs : Bool) (now : Time) (lengthMs : Nat) :
    (intervalFrom debouncing differs now lengthMs).isSome = (debouncing && differs) := by
  unfold intervalFrom
  cases debouncing && differs <;> rfl

/-- A change of level starts the interval or abandons it; the level that the pin has changes nothing (R133). -/
theorem Contact.Lawful.change {c : Contact} {debouncing : Bool} (h : c.Lawful debouncing) (now : Time) (lengthMs : Nat)
    (level : Bool) : (c.change debouncing now lengthMs level).Lawful debouncing := by
  unfold Contact.change
  split
  · exact h
  · exact isSome_intervalFrom ..

/-- What a lawful dimmer input is (R135). -/
def DimmerInput.Lawful (d : DimmerInput) (debouncing : Bool) : Prop := d.endsAt.isSome = (debouncing && d.level != d.taken)

theorem DimmerInput.Lawful.change {d : DimmerInput} {debouncing : Bool} (h : d.Lawful debouncing) (now : Time)
    (code : BitVec 3) : (d.change debouncing now code).Lawful debouncing := by
  unfold DimmerInput.change
  split
  · exact h
  · exact isSome_intervalFrom ..

theorem State.InputsLawful.congr {s u : State} (h : s.InputsLawful) (same : s.SameInputs u) : u.InputsLawful := by
  have debouncing : u.debouncing = s.debouncing := by simp [State.debouncing, same.cfl]
  constructor
  · rw [same.acknowledge, debouncing]; exact h.acknowledge
  · rw [same.scroll, debouncing]; exact h.scroll
  · rw [same.test, debouncing]; exact h.test
  · rw [same.key, debouncing]; exact h.key
  · rw [same.dimmer, debouncing]; exact h.dimmer

/-- The part is debouncing in two start states alike. -/
theorem State.InputsLawful.restart {s u : State} (h : s.InputsLawful) (diu : u.diu = s.diu)
    (debouncing : u.debouncing = s.debouncing) : u.InputsLawful := by
  constructor <;> rw [diu, debouncing]
  · exact h.acknowledge
  · exact h.scroll
  · exact h.test
  · exact h.key
  · exact h.dimmer

theorem State.inputsLawful_holdReset (s : State) (source : ResetSource) : (s.holdReset source).InputsLawful := by
  cases source <;> constructor <;>
    simp [State.holdReset, State.resetBlocks, resetDiu, Contact.reset, DimmerInput.reset, Contact.Lawful, State.debouncing,
      State.reset, Cfl.reset]

theorem State.InputsLawful.release {s : State} (h : s.InputsLawful) (straps : Straps) : (s.release straps).InputsLawful := by
  unfold State.release
  split
  · have debouncing : ((if straps.station = 0 then StartState.strapFault else .loading) != .sampling) = true := by
      split <;> rfl
    constructor <;> simp only [State.debouncing, debouncing, debouncedFrom] <;> exact isSome_intervalFrom ..
  · exact h

theorem State.InputsLawful.inputChange {s : State} (h : s.InputsLawful) (level : InputLevel) :
    (s.inputChange level).InputsLawful := by
  cases level with
  | back high => exact { h with acknowledge := h.acknowledge.change s.now buttonMs _ }
  | bscrl high => exact { h with scroll := h.scroll.change s.now buttonMs _ }
  | btest high => exact { h with test := h.test.change s.now buttonMs _ }
  | keyon high => exact { h with key := h.key.change s.now keyMs _ }
  | dim0 high | dim1 high | dim2 high => exact { h with dimmer := DimmerInput.Lawful.change h.dimmer s.now _ }

theorem State.InputsLawful.routeAckPress {s : State} (h : s.InputsLawful) : s.routeAckPress.InputsLawful := by
  rw [State.routeAckPress_eq]
  exact { h.congr s.takeRoutedPress_course.sameInputs with acknowledge := Contact.lawful_take _ _ }

theorem State.InputsLawful.takeScrollPress {s : State} (h : s.InputsLawful) : s.takeScrollPress.InputsLawful := by
  have taken : ({ s with diu := { s.diu with scroll := s.diu.scroll.take } } : State).InputsLawful :=
    { h with scroll := Contact.lawful_take _ _ }
  unfold State.takeScrollPress
  dsimp only
  split
  · unfold State.scrollWindow
    split
    · exact taken.congr {}
    · exact taken.congr {}
  · exact taken

theorem State.event_inputsLawful (c : Instr) {s : State} (h : s.InputsLawful) : (s.event c).InputsLawful := by
  cases shared : isCourse c with
  | true => exact h.congr (State.event_course shared s).sameInputs
  | false =>
    cases c with
    | reset _ source => exact s.inputsLawful_holdReset source
    | resetRelease _ straps => exact h.release straps
    | loadEnd _ acks memory =>
      show (s.endLoad _).InputsLawful
      unfold State.endLoad
      split
      · next loading => exact h.restart rfl (by rw [State.debouncing, State.debouncing, loading]; rfl)
      · exact h
    | lampCheckTimerExpiry =>
      show s.run.InputsLawful
      obtain ⟨checking, begun⟩ | ⟨-, same⟩ := s.run_cases
      · have lawful : s.begun.InputsLawful := h.restart rfl (by rw [State.debouncing, State.debouncing, checking]; rfl)
        rw [begun]; exact lawful.congr (State.firstEvaluation_course _).sameInputs
      · rwa [same]
    | keyChange =>
      have taken : ({ s with diu := { s.diu with key := s.diu.key.take } } : State).InputsLawful :=
        { h with key := Contact.lawful_take _ _ }
      exact taken.congr s.takeKey_course.sameInputs
    | acknowledgePress part =>
      cases part with
      | whole => exact h.routeAckPress.congr (State.takeRoutedPress_course _).sameInputs
      | routing => exact h.routeAckPress
      | taking => cases shared
    | scrollPress => exact h.takeScrollPress
    | scrollReturnExpiry => exact h.congr {}
    | inputLevelChange _ level => exact h.inputChange level
    | buttonRelease button =>
      cases button with
      | acknowledge => exact { h with acknowledge := Contact.lawful_take _ _ }
      | scroll => exact { h with scroll := Contact.lawful_take _ _ }
    | testPress | testRelease => exact { h with test := Contact.lawful_take _ _ }
    | dimmerChange => exact { h with dimmer := by simp [State.event, State.takeDimmer, DimmerInput.take] }
    | reminderTimerExpiry | flashPhaseEnd _ | oneShotEnd =>
      exact h.congr (State.sameInputs_of_diu (by simp [State.event]) (State.event_cfl rfl s))
    | _ => cases shared

/-- Settles O55: the window through every act at the Fault List and through its own commands, the inputs through their own. -/
theorem stepKeepsWindowAndInputsLawful : Obligations.StepKeepsWindowAndInputsLawful := by
  intro s u inv next
  obtain ⟨pending, rfl⟩ | ⟨c, t, pending, -, rfl⟩ := step_next_cases next
  · exact ⟨inv.window, { inv.inputs with }⟩
  · exact ⟨State.event_windowLawful c inv.window,
      State.event_inputsLawful c (State.InputsLawful.congr inv.inputs {})⟩

end Sys2Proof.Machine
end

section
/-! PROOFS. What every step keeps of the tones: the eligible member of the highest priority plays (R158 to R161). -/

namespace Sys2Proof.Machine

open Sys2Proof

-- One proof after another: the many small proofs below, each on a thread of its own, would reserve more stacks than the check allows.
set_option Elab.async false

/-! ### The arbiter -/

/-- The best member plays, and a one-shot is in the set only while it plays. -/
def Arbiter.Lawful (ok : Pattern → Bool) (a : Arbiter) : Prop :=
  a.playing.map (·.pattern) = a.best ok ∧ ∀ o, a.oneShot = some o → a.playing.map (·.pattern) = some o.pattern

theorem State.toneLawful_iff (s : State) : s.ToneLawful ↔ s.idr.arbiter.Lawful s.eligible := Iff.rfl

theorem Arbiter.member_iff {a : Arbiter} {p : Pattern} :
    a.member p = true ↔ p ∈ a.asserted ∨ ∃ o, a.oneShot = some o ∧ o.pattern = p := by
  simp [Arbiter.member]

theorem Arbiter.higherIn_eq_false {a : Arbiter} {ok : Pattern → Bool} {p : Pattern} :
    a.higherIn ok p = false ↔ ∀ q, ok q = true → a.member q = true → p.priority ≤ q.priority := by
  simp only [Arbiter.higherIn, List.any_eq_false, mem_patternsByPriority, true_implies, Bool.and_eq_true, decide_eq_true_eq,
    not_and, and_imp]
  exact ⟨fun h q ok member => Nat.le_of_not_lt fun lt => h q lt ok member,
    fun h q lt ok member => absurd lt (Nat.not_lt.2 (h q ok member))⟩

theorem Arbiter.lawful_reset (ok : Pattern → Bool) : Arbiter.reset.Lawful ok :=
  ⟨(Arbiter.best_eq_none.2 fun _ _ => rfl).symm, fun _ h => nomatch h⟩

theorem Arbiter.lawful_rechoose (a : Arbiter) (ok : Pattern → Bool) (now : Time) : (a.rechoose ok now).Lawful ok := by
  refine ⟨by simp, fun o h => ?_⟩
  rw [Arbiter.rechoose_playing]
  exact (Arbiter.rechoose_oneShot h).2

theorem Arbiter.Lawful.issue {a : Arbiter} {ok : Pattern → Bool} (h : a.Lawful ok) (now : Time) (p : Pattern) :
    (a.issue ok now p).Lawful ok := by
  obtain ⟨-, same⟩ | ⟨eligible, highest, plays⟩ := a.issue_cases ok now p
  · rwa [same]
  · rw [plays]
    refine ⟨(Arbiter.best_eq_some.2 ⟨eligible, Arbiter.member_iff.2 (.inr ⟨_, rfl, rfl⟩), fun q okq member => ?_⟩).symm,
      fun o same => by obtain rfl := Option.some.inj same; rfl⟩
    obtain asserted | ⟨o, same, rfl⟩ := Arbiter.member_iff.1 member
    · exact Arbiter.higherIn_eq_false.1 highest q okq (Arbiter.member_iff.2 (.inl asserted))
    · obtain rfl := Option.some.inj same
      exact Nat.le_refl _

/-! ### The tones of the part -/

theorem State.eligible_congr {s u : State} (cfg : u.cfg = s.cfg) (running : u.running = s.running)
    (role : u.cru.role = s.cru.role) : u.eligible = s.eligible := by
  funext p
  simp [State.eligible, cfg, running, role]

theorem State.ToneLawful.congr {s u : State} (h : s.ToneLawful) (arbiter : u.idr.arbiter = s.idr.arbiter)
    (eligible : u.eligible = s.eligible) : u.ToneLawful := by
  rw [State.toneLawful_iff, arbiter, eligible]
  exact h

theorem State.toneLawful_toneRechoose (s : State) : s.toneRechoose.ToneLawful := s.idr.arbiter.lawful_rechoose _ _

theorem State.toneLawful_toneHold (s : State) (p : Pattern) (on : Bool) : (s.toneHold p on).ToneLawful :=
  Arbiter.lawful_rechoose _ _ _

theorem State.toneLawful_toneEnd (s : State) : s.toneEnd.ToneLawful := Arbiter.lawful_rechoose _ _ _

theorem State.ToneLawful.toneIssue {s : State} (h : s.ToneLawful) (p : Pattern) : (s.toneIssue p).ToneLawful :=
  Arbiter.Lawful.issue h _ _

theorem State.ToneLawful.toneIssueIf {s : State} (h : s.ToneLawful) (b : Bool) (p : Pattern) :
    (s.toneIssueIf b p).ToneLawful := by
  cases b with
  | false => exact h
  | true => exact h.toneIssue p

theorem State.ToneLawful.toneIssueOpt {s : State} (h : s.ToneLawful) (p : Option Pattern) : (s.toneIssueOpt p).ToneLawful := by
  cases p with
  | none => exact h
  | some p => exact h.toneIssue p

theorem Act.toneLawful {loose : Bool} {s u : State} (h : Act loose s u) (lawful : s.ToneLawful) : u.ToneLawful := by
  cases h with
  | beside h =>
    exact lawful.congr (by rw [h.idr]) (State.eligible_congr (State.cfg_of_cfl h.cfl) (State.running_of_cfl h.cfl) h.role)
  | event r _ => exact (State.toneLawful_toneHold _ _ _).toneIssueIf _ _
  | indicate => exact State.toneLawful_toneHold _ _ _
  | evaluate => exact (State.toneLawful_toneHold _ _ _).toneIssueOpt _
  | role role => exact State.toneLawful_toneHold _ _ _
  | compute v => exact lawful

theorem Course.toneLawful {s u : State} (h : Course s u) (lawful : s.ToneLawful) : u.ToneLawful :=
  h.keeps (P := State.ToneLawful) (fun _ _ act => act.toneLawful) lawful

theorem State.running_release (s : State) (straps : Straps) : (s.release straps).running = s.running := by
  unfold State.release
  split
  · next sampling => simp only [State.running, sampling]; split <;> rfl
  · rfl

theorem State.cfg_release (s : State) (straps : Straps) : (s.release straps).cfg = s.cfg := by
  unfold State.release
  split <;> rfl

theorem State.toneLawful_endLoad {s : State} (quiet : s.Quiet) (h : s.ToneLawful) (memory : MemoryAnswer) :
    (s.endLoad memory).ToneLawful := by
  unfold State.endLoad
  split
  · next loading =>
    have silent : s.idr.arbiter = Arbiter.reset := quiet.2 (by simp [loading]) (by simp [loading])
    refine State.ToneLawful.toneIssue ?_ _
    rw [State.toneLawful_iff]
    exact silent ▸ Arbiter.lawful_reset _
  · exact h

theorem State.ToneLawful.routeAckPress {s : State} (h : s.ToneLawful) : s.routeAckPress.ToneLawful := by
  rw [State.routeAckPress_eq]
  exact s.takeRoutedPress_course.toneLawful h

theorem State.eligible_of_beside {s u : State} (cfl : u.cfl = s.cfl) (cru : u.cru = s.cru) : u.eligible = s.eligible :=
  State.eligible_congr (State.cfg_of_cfl cfl) (State.running_of_cfl cfl) (by rw [cru])

theorem State.event_toneLawful (c : Instr) {s : State} (quiet : s.Quiet) (h : s.ToneLawful) : (s.event c).ToneLawful := by
  cases shared : isCourse c with
  | true => exact (State.event_course shared s).toneLawful h
  | false =>
    cases c with
    | reset _ source => cases source <;> exact Arbiter.lawful_reset _
    | resetRelease _ straps =>
      exact h.congr (by simp [State.event])
        (State.eligible_congr (s.cfg_release straps) (s.running_release straps) (by simp [State.event]))
    | loadEnd _ acks memory => exact s.toneLawful_endLoad quiet h _
    | lampCheckTimerExpiry =>
      show s.run.ToneLawful
      obtain ⟨-, begun⟩ | ⟨-, same⟩ := s.run_cases
      · rw [begun]
        exact (State.firstEvaluation_course _).toneLawful (State.toneLawful_toneRechoose _)
      · rwa [same]
    | keyChange => exact s.takeKey_course.toneLawful h
    | acknowledgePress part =>
      cases part with
      | whole => exact (State.takeRoutedPress_course _).toneLawful h.routeAckPress
      | routing => exact h.routeAckPress
      | taking => cases shared
    | reminderTimerExpiry => exact State.ToneLawful.toneIssue h _
    | oneShotEnd => exact s.toneLawful_toneEnd
    | flashPhaseEnd g => cases g <;> exact h
    | inputLevelChange _ _ | scrollPress | buttonRelease _ | testPress | testRelease | scrollReturnExpiry =>
      exact h.congr (by rw [State.event_idr rfl]) (State.eligible_of_beside (State.event_cfl rfl s) (State.event_cru rfl s))
    | dimmerChange => exact h
    | _ => cases shared

/-! ### Who is eligible -/

theorem toneEnabled_iff {enables : BitVec 16} {p : Pattern} : toneEnabled enables p = true ↔
    p = .overdue ∨ p = .aspectRestrict ∨ (enables.getLsbD 0 = true ∧ enables.getLsbD p.priority = true) := by
  cases p <;> simp [toneEnabled]

theorem roleAllows_iff {role : Role} {p : Pattern} : roleAllows role p = true ↔ (match role with
      | .idle => p = .faultStop
      | .mirror => p = .faultStop
      | .claiming => p ≠ .overdue
      | .active => True
      | .conflict => p = .cabConflict ∨ p = .faultStop) := by
  cases role <;> simp [roleAllows]

theorem State.eligible_iff {s : State} {p : Pattern} : s.eligible p = true ↔
    toneEnabled s.cfg.toneEnables p = true ∧ (s.cfl.start = .running → roleAllows s.cru.role p = true) := by
  simp [State.eligible, State.running, Decidable.imp_iff_not_or]

/-- What plays is the eligible member of the highest priority; where none plays, no member is eligible. -/
theorem State.ToneLawful.highest {s : State} (h : s.ToneLawful) :
    (∀ x, s.idr.arbiter.playing = some x → s.eligible x.pattern = true ∧ s.idr.arbiter.member x.pattern = true ∧
      ∀ q, s.eligible q = true → s.idr.arbiter.member q = true → x.pattern.priority ≤ q.priority) ∧
    (s.idr.arbiter.playing = none → ∀ q, s.idr.arbiter.member q = true → s.eligible q = false) := by
  obtain ⟨best, -⟩ := h
  refine ⟨fun x plays => Arbiter.best_eq_some.1 (by rw [← best, plays]; rfl), fun silent q member => ?_⟩
  have none : s.idr.arbiter.best s.eligible = none := by rw [← best, silent]; rfl
  exact Bool.eq_false_iff.2 fun eligible => by simp [Arbiter.best_eq_none.1 none q eligible] at member

/-- Settles O58: every act at the arbiter ends with a choice, or issues on a lawful one. -/
theorem stepKeepsTheHighestTone : Obligations.StepKeepsTheHighestTone := by
  refine ⟨rfl, fun s p => ?_, fun s u inv next => ?_⟩
  · exact State.eligible_iff.trans (and_congr toneEnabled_iff (imp_congr_right fun _ => roleAllows_iff))
  · have lawful : u.ToneLawful := by
      obtain ⟨pending, rfl⟩ | ⟨c, t, pending, -, rfl⟩ := step_next_cases next
      · exact inv.tone
      · exact State.event_toneLawful c ⟨fun h => { inv.quiet.1 h with }, inv.quiet.2⟩ inv.tone
    obtain ⟨playing, silent⟩ := lawful.highest
    refine ⟨lawful, fun x plays => ?_, fun none q member => silent none q (Arbiter.member_iff.2 member), fun o shot => ?_⟩
    · obtain ⟨eligible, member, least⟩ := playing x plays
      exact ⟨eligible, Arbiter.member_iff.1 member, fun q ok member => least q ok (Arbiter.member_iff.2 member)⟩
    · exact Option.map_eq_some_iff.1 (lawful.2 o shot)

end Sys2Proof.Machine
end

section
/-! PROOFS. What every step keeps of the lamps and of the continuous requests: they are the ones their owners call for (R40, R59,
R62, R84, R85, R108, R109, R129). -/

namespace Sys2Proof.Machine

open Sys2Proof

-- One proof after another: the many small proofs below, each on a thread of its own, would reserve more stacks than the check allows.
set_option Elab.async false

/-! ### What each act leaves asserted and lit -/

section
variable (s : State)

theorem State.toneHold_asserted (p : Pattern) (on : Bool) :
    (s.toneHold p on).idr.arbiter.asserted = (s.idr.arbiter.hold p on).asserted := rfl

theorem State.toneIssue_asserted (p : Pattern) : (s.toneIssue p).idr.arbiter.asserted = s.idr.arbiter.asserted :=
  Arbiter.issue_asserted _ _ _ _

theorem State.toneIssueOpt_asserted (p : Option Pattern) :
    (s.toneIssueOpt p).idr.arbiter.asserted = s.idr.arbiter.asserted := by
  cases p with
  | none => rfl
  | some p => exact s.toneIssue_asserted p

theorem State.toneIssueOpt_lamps (p : Option Pattern) : (s.toneIssueOpt p).idr.lamps = s.idr.lamps := by
  cases p <;> rfl

theorem State.flmEvent_asserted (r : FlmResult) : (s.flmEvent r).idr.arbiter.asserted =
    (s.idr.arbiter.hold .faultStop (s.flmEvent r).flm.stopSounds).asserted := by
  rw [State.flmEvent_arbiter]
  dsimp only
  split
  · exact Arbiter.issue_asserted _ _ _ _
  · rfl

theorem State.flmEvent_lamps (r : FlmResult) : (s.flmEvent r).idr.lamps = { s.idr.lamps with
    stop := (s.flmEvent r).flm.lamp .stop .fast, action := (s.flmEvent r).flm.lamp .action .slow } := rfl

theorem State.asuIndicate_asserted : s.asuIndicate.idr.arbiter.asserted =
    (((s.idr.arbiter.hold .aspectRestrict s.asu.restricts).rechoose s.eligible s.now).hold .overdue s.asu.isOverdue).asserted :=
  rfl

theorem State.asuIndicate_lamps : s.asuIndicate.idr.lamps = { s.idr.lamps with
    aspect := aspectLamps s.cfg.catalogue s.asu.shown.code s.asu.pendingAck.isSome } := rfl

theorem State.evaluateOverspeed_asserted : s.evaluateOverspeed.idr.arbiter.asserted =
    (s.idr.arbiter.hold .overspeedAlarm (s.cfg.reporting == .continuous && s.evaluateOverspeed.sdm.level == .alarm)).asserted := by
  unfold State.evaluateOverspeed
  simp only [State.toneIssueOpt_asserted, State.toneIssueOpt_sdm]
  rfl

theorem State.evaluateOverspeed_lamps : s.evaluateOverspeed.idr.lamps = { s.idr.lamps with
    overspeed := s.evaluateOverspeed.sdm.level.lamp } := by
  unfold State.evaluateOverspeed
  simp only [State.toneIssueOpt_lamps, State.toneIssueOpt_sdm]
  rfl

theorem State.takeRole_asserted (role : Role) : (s.takeRole role).idr.arbiter.asserted =
    (s.idr.arbiter.hold .cabConflict (role == .conflict)).asserted := rfl

theorem State.takeRole_lamps (role : Role) : (s.takeRole role).idr.lamps = { s.idr.lamps with cab := role.lamp } := rfl

end

/-! ### The continuous requests -/

/-- The continuous members stand highest priority first, none twice. -/
def Arbiter.Ordered (a : Arbiter) : Prop := a.asserted = patternsByPriority.filter (fun p => a.asserted.contains p)

theorem Arbiter.ordered_of_filter {a : Arbiter} {test : Pattern → Bool} (h : a.asserted = patternsByPriority.filter test) :
    a.Ordered := by
  have same : (fun p => a.asserted.contains p) = test := by
    funext p
    rw [Bool.eq_iff_iff]
    simp [h]
  rw [Arbiter.Ordered, same]
  exact h

theorem Arbiter.ordered_hold (a : Arbiter) (p : Pattern) (on : Bool) : (a.hold p on).Ordered :=
  Arbiter.ordered_of_filter (test := fun q => if q = p then on else a.asserted.contains q) rfl

theorem Arbiter.Ordered.eq_filter {a : Arbiter} (h : a.Ordered) {test : Pattern → Bool}
    (calls : ∀ p, p ∈ a.asserted ↔ test p = true) : a.asserted = patternsByPriority.filter test := by
  rw [h]
  refine congrArg (patternsByPriority.filter ·) (funext fun p => ?_)
  rw [Bool.eq_iff_iff]
  simp [calls p]

theorem Arbiter.Ordered.congr {a b : Arbiter} (h : a.Ordered) (same : b.asserted = a.asserted) : b.Ordered := by
  rw [Arbiter.Ordered, same]
  exact h

/-! ### What all owners but the ASU call for -/

/-- The lamps and requests of the FLM, the SDM, the CRU and the SFU. -/
structure State.ShowsOwners (s : State) : Prop where
  stop      : s.idr.lamps.stop = s.flm.lamp .stop .fast
  action    : s.idr.lamps.action = s.flm.lamp .action .slow
  overspeed : s.idr.lamps.overspeed = s.sdm.level.lamp
  cab       : s.idr.lamps.cab = s.cru.role.lamp
  source    : s.idr.lamps.source = s.sfu.speedState.lamp
  ordered   : s.idr.arbiter.Ordered
  alarm     : .overspeedAlarm ∈ s.idr.arbiter.asserted ↔ (s.cfg.reporting == .continuous && s.sdm.level == .alarm) = true
  faultStop : .faultStop ∈ s.idr.arbiter.asserted ↔ s.flm.stopSounds = true
  conflict  : .cabConflict ∈ s.idr.arbiter.asserted ↔ (s.cru.role == .conflict) = true
  low       : ∀ p ∈ s.idr.arbiter.asserted, p.priority ≤ 5

/-- The lamps and requests of the ASU. -/
structure State.ShowsAspect (s : State) : Prop where
  aspect    : s.idr.lamps.aspect = aspectLamps s.cfg.catalogue s.asu.shown.code s.asu.pendingAck.isSome
  overdue   : .overdue ∈ s.idr.arbiter.asserted ↔ s.asu.isOverdue = true
  restricts : .aspectRestrict ∈ s.idr.arbiter.asserted ↔ s.asu.restricts = true

theorem State.indicationsFollow_iff {s : State} : s.IndicationsFollow ↔ s.ShowsOwners ∧ s.ShowsAspect := by
  constructor
  · intro h
    have member (p : Pattern) := congrArg (p ∈ ·) h.asserted
    simp only [List.mem_filter, mem_patternsByPriority, true_and, eq_iff_iff] at member
    refine ⟨⟨h.stop, h.action, h.overspeed, h.cab, h.source, Arbiter.ordered_of_filter h.asserted, member _, member _,
      member _, fun p asserted => ?_⟩, h.aspect, member _, member _⟩
    have called := (member p).1 asserted
    cases p <;> simp_all [Pattern.priority]
  · intro ⟨owners, aspect⟩
    refine ⟨aspect.aspect, owners.stop, owners.action, owners.overspeed, owners.cab, owners.source,
      owners.ordered.eq_filter fun p => ?_⟩
    have low : 5 < p.priority → p ∉ s.idr.arbiter.asserted := fun h asserted => absurd (owners.low p asserted) (Nat.not_le.2 h)
    cases p with
    | overdue => exact aspect.overdue
    | aspectRestrict => exact aspect.restricts
    | overspeedAlarm => exact owners.alarm
    | faultStop => exact owners.faultStop
    | cabConflict => exact owners.conflict
    | overspeedWarn | overspeedClear | faultAction | reminder | startChirp =>
      exact iff_of_false (low (by decide)) Bool.false_ne_true

/-- A request of one of the five patterns that sound on and on leaves the others asserted as they were. -/
theorem Arbiter.hold_low {a : Arbiter} {p : Pattern} (on : Bool) (h : ∀ q ∈ a.asserted, q.priority ≤ 5) (low : p.priority ≤ 5) :
    ∀ q ∈ (a.hold p on).asserted, q.priority ≤ 5 := by
  intro q asserted
  rw [Arbiter.mem_hold] at asserted
  split at asserted
  · next same => exact same ▸ low
  · exact h q asserted

theorem Act.showsOwners {loose : Bool} {s u : State} (h : Act loose s u) (shows' : s.ShowsOwners) : u.ShowsOwners := by
  obtain ⟨stop, action, overspeed, cab, source, ordered, alarm, faultStop, conflict, low⟩ := shows'
  cases h with
  | beside h =>
    exact ⟨by rw [h.idr, h.flm, stop], by rw [h.idr, h.flm, action], by rw [h.idr, h.level, overspeed],
      by rw [h.idr, h.role, cab], by rw [h.idr, h.speed, source], h.idr ▸ ordered,
      by rw [h.idr, h.level, State.cfg_of_cfl h.cfl, alarm], by rw [h.idr, h.flm, faultStop], by rw [h.idr, h.role, conflict],
      h.idr ▸ low⟩
  | event r _ =>
    have asserted := s.flmEvent_asserted r
    refine ⟨rfl, rfl, overspeed, cab, source, (Arbiter.ordered_hold _ _ _).congr asserted, ?_, by simp [asserted], ?_,
      asserted ▸ Arbiter.hold_low _ low (by decide)⟩
    · simpa [asserted, State.cfg_of_cfl (State.flmEvent_cfl s r)] using alarm
    · simpa [asserted] using conflict
  | indicate =>
    have asserted := s.asuIndicate_asserted
    refine ⟨stop, action, overspeed, cab, source, (Arbiter.ordered_hold _ _ _).congr asserted, ?_, ?_, ?_,
      asserted ▸ Arbiter.hold_low _ (Arbiter.hold_low _ low (by decide)) (by decide)⟩
    · simpa [asserted, State.cfg_of_cfl (State.asuIndicate_cfl s)] using alarm
    · simpa [asserted] using faultStop
    · simpa [asserted] using conflict
  | evaluate =>
    have asserted := s.evaluateOverspeed_asserted
    have lamps := s.evaluateOverspeed_lamps
    refine ⟨by simpa [lamps] using stop, by simpa [lamps] using action, by rw [lamps], by simpa [lamps] using cab,
      by simpa [lamps] using source, (Arbiter.ordered_hold _ _ _).congr asserted, ?_, ?_, ?_,
      asserted ▸ Arbiter.hold_low _ low (by decide)⟩
    · rw [asserted, Arbiter.mem_hold, if_pos rfl, State.cfg_of_cfl (State.evaluateOverspeed_cfl s)]
    · simpa [asserted] using faultStop
    · simpa [asserted] using conflict
  | role role =>
    have asserted := s.takeRole_asserted role
    refine ⟨stop, action, overspeed, rfl, source, (Arbiter.ordered_hold _ _ _).congr asserted, ?_, ?_, ?_,
      asserted ▸ Arbiter.hold_low _ low (by decide)⟩
    · simpa [asserted, State.cfg_of_cfl (State.takeRole_cfl s role)] using alarm
    · simpa [asserted] using faultStop
    · rw [asserted, Arbiter.mem_hold, if_pos rfl]; rfl
  | compute v => exact ⟨stop, action, overspeed, cab, rfl, ordered, alarm, faultStop, conflict, low⟩

theorem Course.showsOwners {s u : State} (h : Course s u) (shows' : s.ShowsOwners) : u.ShowsOwners :=
  h.keeps (P := State.ShowsOwners) (fun _ _ act => act.showsOwners) shows'

/-! ### What the ASU calls for -/

/-- The hand-offs of the ASU show its state, whatever was shown before. -/
theorem State.showsAspect_asuIndicate (s : State) : s.asuIndicate.ShowsAspect where
  aspect := rfl
  overdue := by rw [State.asuIndicate_asserted, Arbiter.mem_hold, if_pos rfl]; rfl
  restricts := by
    rw [State.asuIndicate_asserted, Arbiter.mem_hold, if_neg (by decide), Arbiter.rechoose_asserted, Arbiter.mem_hold,
      if_pos rfl]
    rfl

theorem Act.showsAspect {s u : State} (h : Act false s u) (shows' : s.ShowsAspect) : u.ShowsAspect := by
  obtain ⟨aspect, overdue, restricts⟩ := shows'
  cases h with
  | beside h =>
    obtain ⟨code, pending⟩ := h.aspect rfl
    constructor
    · rw [h.idr, State.cfg_of_cfl h.cfl, code, pending]; exact aspect
    · rw [h.idr, Asu.isOverdue, pending]; exact overdue
    · rw [h.idr, Asu.restricts, pending]; exact restricts
  | event r _ =>
    have asserted := s.flmEvent_asserted r
    exact ⟨aspect, by simpa [asserted] using overdue, by simpa [asserted] using restricts⟩
  | indicate => exact s.showsAspect_asuIndicate
  | evaluate =>
    have asserted := s.evaluateOverspeed_asserted
    refine ⟨?_, by simpa [asserted] using overdue, by simpa [asserted] using restricts⟩
    simpa [State.evaluateOverspeed_lamps, State.cfg_of_cfl (State.evaluateOverspeed_cfl s)] using aspect
  | role role =>
    have asserted := s.takeRole_asserted role
    exact ⟨aspect, by simpa [asserted] using overdue, by simpa [asserted] using restricts⟩
  | compute v => exact ⟨aspect, overdue, restricts⟩

theorem Course.showsAspect {s u : State} (h : Course s u) (shows' : s.ShowsAspect) : u.ShowsAspect := by
  induction h with
  | refl => exact shows'
  | tail _ stage ih =>
    obtain one | ⟨w, -, rfl⟩ := stage
    · exact one.showsAspect ih
    · exact w.showsAspect_asuIndicate

/-! ### Every step -/

theorem Course.indicationsFollow {s u : State} (h : Course s u) (shows' : s.IndicationsFollow) : u.IndicationsFollow := by
  rw [State.indicationsFollow_iff] at shows' ⊢
  exact ⟨h.showsOwners shows'.1, h.showsAspect shows'.2⟩

/-- Nothing that lamps and requests are formed from is changed; one-shots and what plays do not count. -/
theorem State.IndicationsFollow.congr {s u : State} (h : s.IndicationsFollow) (cfg : u.cfg = s.cfg) (records : u.flm.records = s.flm.records)
    (asu : u.asu = s.asu) (sdm : u.sdm = s.sdm) (sfu : u.sfu = s.sfu) (cru : u.cru = s.cru) (lamps : u.idr.lamps = s.idr.lamps)
    (asserted : u.idr.arbiter.asserted = s.idr.arbiter.asserted) : u.IndicationsFollow := by
  obtain ⟨aspect, stop, action, overspeed, cab, source, called⟩ := h
  have any (cls : FaultClass) (test : RecordState → Bool) : u.flm.anyOf cls test = s.flm.anyOf cls test := by
    rw [Flm.anyOf, records, Flm.anyOf]
  have lamp (cls : FaultClass) (flash : Drive) : u.flm.lamp cls flash = s.flm.lamp cls flash := by
    rw [Flm.lamp, any, any, Flm.lamp]
  have stopSounds : u.flm.stopSounds = s.flm.stopSounds := any ..
  constructor <;> simp only [cfg, lamp, stopSounds, asu, sdm, sfu, cru, lamps, asserted] <;> assumption

/-- At rest the lamps and requests do not depend on the configuration (R164). -/
theorem State.AtRest.indicationsFollow {s : State} (h : s.AtRest) : s.IndicationsFollow := by
  constructor <;> simp only [h.lamps, h.noHolds, h.asu, h.flm, h.sdm, h.sfu, h.cru]
  case asserted =>
    exact (List.filter_eq_nil_iff.2 fun p _ => by
      cases p <;> simp [Asu.reset, Asu.isOverdue, Asu.restricts, Sdm.reset, Flm.reset, Flm.stopSounds, Flm.anyOf, Cru.reset]).symm
  all_goals rfl

theorem State.atRest_holdReset (s : State) (source : ResetSource) : (s.holdReset source).AtRest := by
  cases source <;> constructor <;>
    simp [State.holdReset, State.resetBlocks, State.reset, resetDiu, Diu.reset, resetLif, Lif.reset, Idr.reset, Arbiter.reset]

theorem State.AtRest.endLoad {s : State} (h : s.AtRest) (memory : MemoryAnswer) : (s.endLoad memory).AtRest := by
  unfold State.endLoad
  split
  · exact { h with noHolds := (State.toneIssue_asserted _ _).trans h.noHolds }
  · exact h

theorem State.IndicationsFollow.begun {s : State} (h : s.IndicationsFollow) : s.begun.IndicationsFollow :=
  h.congr rfl rfl rfl rfl rfl rfl rfl rfl

theorem State.IndicationsFollow.routeAckPress {s : State} (h : s.IndicationsFollow) : s.routeAckPress.IndicationsFollow := by
  rw [State.routeAckPress_eq]
  exact (s.takeRoutedPress_course.indicationsFollow h).congr rfl rfl rfl rfl rfl rfl rfl rfl

theorem State.event_indicationsFollow (c : Instr) {s : State} (quiet : s.Quiet) (h : s.IndicationsFollow) :
    (s.event c).IndicationsFollow := by
  cases shared : isCourse c with
  | true => exact (State.event_course shared s).indicationsFollow h
  | false =>
    cases c with
    | reset _ source => exact (s.atRest_holdReset source).indicationsFollow
    | resetRelease _ straps =>
      exact h.congr (s.cfg_release straps) (by simp [State.event]) (by simp [State.event]) (by simp [State.event])
        (by simp [State.event]) (by simp [State.event]) (by simp [State.event]) (by simp [State.event])
    | loadEnd _ acks memory =>
      show (s.endLoad _).IndicationsFollow
      by_cases loading : s.cfl.start = .loading
      · exact ((quiet.1 (by simp [loading])).endLoad _).indicationsFollow
      · rwa [State.endLoad, if_neg loading]
    | lampCheckTimerExpiry =>
      show s.run.IndicationsFollow
      obtain ⟨-, begun⟩ | ⟨-, same⟩ := s.run_cases
      · rw [begun]
        exact (State.firstEvaluation_course _).indicationsFollow h.begun
      · rwa [same]
    | keyChange => exact s.takeKey_course.indicationsFollow (h.congr rfl rfl rfl rfl rfl rfl rfl rfl)
    | acknowledgePress part =>
      cases part with
      | whole => exact (State.takeRoutedPress_course _).indicationsFollow h.routeAckPress
      | routing => exact h.routeAckPress
      | taking => cases shared
    | reminderTimerExpiry => exact h.congr rfl rfl rfl rfl rfl rfl rfl (State.toneIssue_asserted _ _)
    | oneShotEnd => exact h.congr rfl rfl rfl rfl rfl rfl rfl rfl
    | flashPhaseEnd g => cases g <;> exact h.congr rfl rfl rfl rfl rfl rfl rfl rfl
    | dimmerChange => exact h.congr rfl rfl rfl rfl rfl rfl rfl rfl
    | inputLevelChange _ _ | scrollPress | buttonRelease _ | testPress | testRelease | scrollReturnExpiry =>
      exact h.congr (State.cfg_of_cfl (State.event_cfl rfl s)) (by rw [State.event_flm rfl]) (State.event_asu rfl s)
        (State.event_sdm rfl s) (State.event_sfu rfl s) (State.event_cru rfl s) (by rw [State.event_idr rfl])
        (by rw [State.event_idr rfl])
    | _ => cases shared

/-! ### What the lamps show, written out -/

theorem vector_get_eq_getElem {α : Type} {n : Nat} (v : Vector α n) (i : Fin n) : v.get i = v[i.val] := rfl

theorem aspectLamps_none (catalogue : Vector CatalogueEntry 16) (recordOpen : Bool) (k : Fin 8) :
    (aspectLamps catalogue none recordOpen).get k = .off := by
  simp [aspectLamps, vector_get_eq_getElem]

theorem aspectLamps_some (catalogue : Vector CatalogueEntry 16) (c : Fin 16) (recordOpen : Bool) (k : Fin 8) :
    (aspectLamps catalogue (some c) recordOpen).get k =
      if recordOpen = true ∧ (catalogue.get c).lamps.get k ≠ .off then .fast else (catalogue.get c).lamps.get k := by
  simp [aspectLamps, vector_get_eq_getElem]

theorem Flm.anyOf_iff {f : Flm} {cls : FaultClass} {test : RecordState → Bool} :
    f.anyOf cls test = true ↔ ∃ r ∈ f.records, r.cls = cls ∧ test r.state = true := by
  simp [Flm.anyOf]

/-- A fault lamp flashes for a record unacknowledged, is steady with all acknowledged, and off without a record (R108). -/
theorem Flm.lamp_shows (f : Flm) (cls : FaultClass) (flash : Drive) :
    ((∃ r ∈ f.records, r.cls = cls ∧ (r.state = .raisedUnack ∨ r.state = .clearedUnack)) → f.lamp cls flash = flash) ∧
    ((∃ r ∈ f.records, r.cls = cls) → (∀ r ∈ f.records, r.cls = cls → r.state = .raisedAck) → f.lamp cls flash = .steady) ∧
    ((∀ r ∈ f.records, r.cls ≠ cls) → f.lamp cls flash = .off) := by
  unfold Flm.lamp
  simp only [Flm.anyOf_iff, bne_iff_ne, beq_iff_eq]
  refine ⟨fun ⟨r, mem, same, open'⟩ => if_pos ⟨r, mem, same, ?_⟩, fun ⟨r, mem, same⟩ all => ?_, fun none => ?_⟩
  · rcases open' with h | h <;> simp [h]
  · rw [if_neg fun ⟨q, mem, same, other⟩ => other (all q mem same), if_pos ⟨r, mem, same, all r mem same⟩]
  · rw [if_neg fun ⟨q, mem, same, _⟩ => none q mem same, if_neg fun ⟨q, mem, same, _⟩ => none q mem same]

theorem Asu.isOverdue_iff {a : Asu} : a.isOverdue = true ↔ ∃ r, a.pendingAck = some r ∧ r.overdue = true := by
  unfold Asu.isOverdue
  cases a.pendingAck <;> simp

theorem Asu.restricts_iff {a : Asu} : a.restricts = true ↔ ∃ r, a.pendingAck = some r ∧ r.overdue = false := by
  unfold Asu.restricts
  cases a.pendingAck <;> simp

/-- Settles O57: the owners but the ASU through every act, the ASU through its hand-offs at the end of each stage. -/
theorem stepKeepsIndicationsInStep : Obligations.StepKeepsIndicationsInStep := by
  intro s u inv next
  have follow : u.IndicationsFollow := by
    obtain ⟨pending, rfl⟩ | ⟨c, t, pending, -, rfl⟩ := step_next_cases next
    · exact { inv.indications with }
    · exact State.event_indicationsFollow c ⟨fun h => { inv.quiet.1 h with }, inv.quiet.2⟩ { inv.indications with }
  obtain ⟨owners, aspect⟩ := State.indicationsFollow_iff.1 follow
  refine ⟨follow, fun none k => ?_, fun c k shown => ⟨fun closed => ?_, fun opened => ?_⟩, ⟨?_, ?_⟩, ?_, ?_, ?_,
    aspect.overdue.trans Asu.isOverdue_iff, aspect.restricts.trans Asu.restricts_iff, ?_, ?_, ?_, owners.low⟩
  · rw [aspect.aspect, none, aspectLamps_none]
  · rw [aspect.aspect, shown, closed, aspectLamps_some, if_neg (by simp)]
  · rw [aspect.aspect, shown, aspectLamps_some, Option.isSome_iff_ne_none.2 opened]
    split <;> simp_all
  · rw [owners.stop]; exact u.flm.lamp_shows .stop .fast
  · rw [owners.action]; exact u.flm.lamp_shows .action .slow
  · rw [owners.overspeed]; cases u.sdm.level <;> rfl
  · rw [owners.cab]; cases u.cru.role <;> rfl
  · rw [owners.source]; cases u.sfu.speedState <;> rfl
  · simpa using owners.alarm
  · simpa [Flm.stopSounds, Flm.anyOf_iff] using owners.faultStop
  · simpa using owners.conflict

end Sys2Proof.Machine
end

section
/-! PROOFS. The configuration (chapter 10): the check of the source entries, and that what the load ends with is in range (R2,
R182 to R186). -/

namespace Sys2Proof.Machine

open Sys2Proof

-- One proof after another: the many small proofs below, each on a thread of its own, would reserve more stacks than the check allows.
set_option Elab.async false

/-! ### The check of R185 -/

theorem entryConflicts_eq_false {own : Nat} {kept : List SourceConfig} {c : SourceConfig} :
    entryConflicts own kept c = false ↔ c.station ≠ 0 ∧ c.station ≠ own ∧ ∀ k ∈ kept, k.apart c := by
  simp only [entryConflicts, SourceConfig.apart, Bool.or_eq_false_iff, beq_eq_false_iff_ne, List.any_eq_false,
    Bool.and_eq_true, beq_iff_eq, Bool.and_eq_false_iff, bne_eq_false_iff_eq, not_and]
  refine ⟨fun ⟨⟨⟨zero, own'⟩, pair⟩, role⟩ => ⟨zero, own', fun k mem => ⟨pair k mem, fun fault same index => ?_⟩⟩,
    fun ⟨zero, own', apart⟩ => ⟨⟨⟨zero, own'⟩, fun k mem => (apart k mem).1⟩, ?_⟩⟩
  · obtain isFault | none := role
    · exact fault (same.trans isFault)
    · exact none k mem same index
  · by_cases isFault : c.kind = .fault
    · exact .inl isFault
    · exact .inr fun k mem same => (apart k mem).2 (same ▸ isFault) same

/-- An entry of the check: its settings as they were, enabled where it does not conflict with those kept before it. -/
theorem getElem?_disableFrom {own : Nat} {entries : List SourceConfig} {i : Nat} {c : SourceConfig}
    (h : entries[i]? = some c) (kept : List SourceConfig) :
    ∃ before : List SourceConfig,
      (∀ k, k ∈ before ↔ k ∈ kept ∨ ∃ j < i, (disableFrom own kept entries)[j]? = some k ∧ k.enabled = true) ∧
      (disableFrom own kept entries)[i]? = some { c with enabled := c.enabled && !entryConflicts own before c } := by
  induction entries generalizing i kept with
  | nil => cases h
  | cons first rest ih =>
    cases i with
    | zero =>
      obtain rfl : first = c := by simpa using h
      refine ⟨kept, fun k => by simp, ?_⟩
      cases enabled : first.enabled <;> cases conflicts : entryConflicts own kept first <;>
        simp [disableFrom, enabled, conflicts] <;> rw [← enabled]
    | succ i =>
      have h : rest[i]? = some c := by simpa using h
      -- the first entry joins those kept where it stays enabled
      have joined {head : SourceConfig} {kept' : List SourceConfig}
          (cons : disableFrom own kept (first :: rest) = head :: disableFrom own kept' rest)
          (mem : ∀ k, k ∈ kept' ↔ k ∈ kept ∨ (head = k ∧ k.enabled = true)) :
          ∃ before : List SourceConfig,
            (∀ k, k ∈ before ↔
              k ∈ kept ∨ ∃ j < i + 1, (disableFrom own kept (first :: rest))[j]? = some k ∧ k.enabled = true) ∧
            (disableFrom own kept (first :: rest))[i + 1]? =
              some { c with enabled := c.enabled && !entryConflicts own before c } := by
        obtain ⟨before, members, entry⟩ := ih h kept'
        refine ⟨before, fun k => ?_, by simpa [cons] using entry⟩
        rw [members, mem, cons]
        simp only [Nat.exists_lt_succ_left, List.getElem?_cons_zero, List.getElem?_cons_succ, Option.some.injEq, or_assoc]
      cases enabled : first.enabled with
      | false => exact joined (kept' := kept) (by rw [disableFrom, enabled]; rfl) fun k => by simp_all; grind
      | true =>
        cases conflicts : entryConflicts own kept first with
        | true =>
          exact joined (head := { first with enabled := false }) (kept' := kept) (by simp [disableFrom, enabled, conflicts])
            fun k => by grind
        | false =>
          exact joined (head := first) (kept' := first :: kept) (by simp [disableFrom, enabled, conflicts])
            fun k => by grind

theorem length_disableFrom (own : Nat) (kept entries : List SourceConfig) :
    (disableFrom own kept entries).length = entries.length := by
  induction entries generalizing kept with
  | nil => rfl
  | cons c rest ih => simp only [disableFrom]; split <;> (try split) <;> simp [ih]

theorem get_checkedEntries (own : Nat) (entries : List SourceConfig) (i : Fin 24) :
    (checkedEntries own entries).get i = (disableFrom own [] entries)[i.val]?.getD unusedSource := by
  simp [checkedEntries, vector_get_eq_getElem]

/-- An entry that is not given is unused. -/
theorem checkedEntries_of_beyond {own : Nat} {entries : List SourceConfig} {i : Fin 24} (h : entries[i.val]? = none) :
    (checkedEntries own entries).get i = unusedSource := by
  rw [get_checkedEntries, List.getElem?_eq_none (by rw [length_disableFrom]; exact List.getElem?_eq_none_iff.1 h)]
  rfl

/-- An entry that is given has its settings, and is enabled where it was, its station is one of another, and it is apart from
the enabled ones before it. -/
theorem checkedEntries_of_given {own : Nat} {entries : List SourceConfig} {i : Fin 24} {c : SourceConfig}
    (h : entries[i.val]? = some c) :
    ∃ enabled, (checkedEntries own entries).get i = { c with enabled := enabled } ∧
      (enabled = true ↔ c.enabled = true ∧ c.station ≠ 0 ∧ c.station ≠ own ∧
        ∀ j < i, ((checkedEntries own entries).get j).enabled = true → ((checkedEntries own entries).get j).apart c) := by
  obtain ⟨before, members, entry⟩ := getElem?_disableFrom (own := own) h []
  refine ⟨c.enabled && !entryConflicts own before c, by rw [get_checkedEntries, entry]; rfl, ?_⟩
  simp only [Bool.and_eq_true, Bool.not_eq_true', entryConflicts_eq_false]
  refine and_congr_right fun _ => and_congr_right fun _ => and_congr_right fun _ => ⟨fun all j lt enabled => ?_,
    fun all k mem => ?_⟩
  · cases found : (disableFrom own [] entries)[j.val]? with
    | none => rw [get_checkedEntries, found] at enabled; cases enabled
    | some k =>
      rw [get_checkedEntries, found] at enabled ⊢
      exact all k ((members k).2 (.inr ⟨j, lt, found, enabled⟩))
  · obtain none | ⟨j, lt, found, enabled⟩ := (members k).1 mem
    · cases none
    · have get : (checkedEntries own entries).get ⟨j, Nat.lt_trans lt i.isLt⟩ = k := by rw [get_checkedEntries, found]; rfl
      have apart := all ⟨j, Nat.lt_trans lt i.isLt⟩ lt (by rw [get]; exact enabled)
      rwa [get] at apart

/-- Settles O10: by the entries that the check has kept before. -/
theorem conflictingEntriesAreDisabled : Obligations.ConflictingEntriesAreDisabled := by
  intro own entries length i
  obtain ⟨c, given⟩ : ∃ c, entries[i.val]? = some c := ⟨_, List.getElem?_eq_getElem (by rw [length]; exact i.isLt)⟩
  obtain ⟨enabled, get, iff⟩ := checkedEntries_of_given (own := own) given
  refine ⟨c, given, ?_, by rw [get]⟩
  rw [congrArg SourceConfig.enabled get, Bool.eq_iff_iff, iff]
  simp only [SourceConfig.apart, Bool.and_eq_true, decide_eq_true_eq, List.all_eq_true, List.mem_finRange, true_implies,
    Bool.or_eq_true, Bool.not_eq_true', Bool.and_eq_false_iff, decide_eq_false_iff_not, beq_eq_false_iff_ne,
    bne_eq_false_iff_eq, and_assoc]
  refine and_congr_right fun _ => and_congr_right fun _ => and_congr_right fun _ => forall_congr' fun j => ?_
  grind

/-! ### Ranges -/

/-- The check leaves enabled entries apart (R2, R185). -/
theorem entriesApart_checkedEntries (own : Nat) (entries : List SourceConfig) :
    entriesApart own (checkedEntries own entries) := by
  -- an enabled entry has been given, and what the check asked of it holds
  have asked (i : Fin 24) (enabled : ((checkedEntries own entries).get i).enabled = true) :
      ((checkedEntries own entries).get i).station ≠ 0 ∧ ((checkedEntries own entries).get i).station ≠ own ∧
        ∀ j < i, ((checkedEntries own entries).get j).enabled = true →
          ((checkedEntries own entries).get j).apart ((checkedEntries own entries).get i) := by
    cases given : entries[i.val]? with
    | none => rw [checkedEntries_of_beyond given] at enabled; cases enabled
    | some c =>
      obtain ⟨e, get, iff⟩ := checkedEntries_of_given (own := own) given
      obtain ⟨-, zero, own', apart⟩ := iff.1 (by rw [get] at enabled; exact enabled)
      rw [get]
      exact ⟨zero, own', fun j lt on => apart j lt on⟩
  refine ⟨fun i enabled => ⟨(asked i enabled).1, (asked i enabled).2.1⟩, fun i j different on on' => ?_⟩
  obtain before | after := Nat.lt_or_gt_of_ne fun same => different (Fin.ext same)
  · exact (asked j on').2.2 i before on
  · obtain ⟨pair, role⟩ := (asked i on).2.2 j after on'
    exact ⟨fun ⟨station, kind⟩ => pair ⟨station.symm, kind.symm⟩,
      fun ⟨fault, kind, index⟩ => role ⟨fun isFault => fault (kind.trans isFault), kind.symm, index.symm⟩⟩

theorem inRange_unusedSource : unusedSource.inRange := by simp [unusedSource, SourceConfig.inRange, SourceKind.roles]

theorem inRange_checkedEntries {own : Nat} {entries : List SourceConfig} (h : ∀ c ∈ entries, c.inRange) (i : Fin 24) :
    ((checkedEntries own entries).get i).inRange := by
  cases given : entries[i.val]? with
  | none => rw [checkedEntries_of_beyond given]; exact inRange_unusedSource
  | some c =>
    obtain ⟨enabled, get, -⟩ := checkedEntries_of_given (own := own) given
    rw [get]
    exact h c (List.mem_of_getElem? given)

theorem clamp_le {lo hi : Nat} (h : lo ≤ hi) (v : Nat) : lo ≤ clamp lo hi v ∧ clamp lo hi v ≤ hi := by
  unfold clamp; omega

theorem setting8_range (image : List Byte) (i : Nat) {lo hi dflt : Nat} (low : lo ≤ dflt) (high : dflt ≤ hi) :
    lo ≤ setting8 image i lo hi dflt ∧ setting8 image i lo hi dflt ≤ hi := by
  unfold setting8
  split
  · exact clamp_le (Nat.le_trans low high) _
  · exact ⟨low, high⟩

theorem setting16_range (image : List Byte) (i : Nat) {lo hi dflt : Nat} (low : lo ≤ dflt) (high : dflt ≤ hi) :
    lo ≤ setting16 image i lo hi dflt ∧ setting16 image i lo hi dflt ≤ hi := by
  unfold setting16
  split
  · exact clamp_le (Nat.le_trans low high) _
  · exact ⟨low, high⟩

theorem clampRoleIndex_lt (kind : SourceKind) (index : Nat) : clampRoleIndex kind index < kind.roles := by
  cases kind <;> simp only [clampRoleIndex, SourceKind.roles] <;> omega

/-- The settings of a kind are in range, whatever the entry had. -/
theorem inRange_withKindDefaults {c : SourceConfig} (role : c.roleIndex < c.kind.roles) : (withKindDefaults c).inRange := by
  unfold withKindDefaults
  cases kind : c.kind <;> rw [kind] at role <;>
    exact ⟨by simpa [kind] using role, by simp, by simp, by simp, by simp, by simp, by simp⟩

theorem inRange_sourceEntryOf (b0 b1 b2 b3 b4 : Byte) : (sourceEntryOf b0 b1 b2 b3 b4).inRange := by
  unfold sourceEntryOf
  dsimp only
  split
  · exact inRange_withKindDefaults (clampRoleIndex_lt _ _)
  · have b2_lt := b2.isLt
    have b3_lt := b3.isLt
    obtain ⟨low, high⟩ := clamp_le (show 1 ≤ 8 by decide) b4.toNat
    refine ⟨clampRoleIndex_lt _ _, ?_, ?_, ?_, ?_, low, high⟩ <;> dsimp only
    · omega
    · omega
    · omega
    · split <;> simp

theorem inRange_sourceEntryAt (image : List Byte) (i : Nat) : (sourceEntryAt image i).inRange := by
  unfold sourceEntryAt
  dsimp only
  split
  · exact inRange_sourceEntryOf ..
  · exact inRange_unusedSource

theorem inRange_fallbackEntry (station : Nat) {kind : SourceKind} {role : Nat} (h : role < kind.roles) :
    (fallbackEntry station kind role).inRange := inRange_withKindDefaults h

theorem inRange_fallbackEntries {own : Nat} {c : SourceConfig} (h : c ∈ fallbackEntries own) : c.inRange := by
  simp only [fallbackEntries, List.mem_append, List.mem_map, List.mem_range, List.mem_cons, List.not_mem_nil, or_false] at h
  obtain ((⟨k, lt, rfl⟩ | rfl | rfl) | ⟨k, lt, rfl⟩) | ⟨k, lt, rfl⟩ := h
  · exact inRange_fallbackEntry _ lt
  · exact inRange_fallbackEntry _ (by decide)
  · exact inRange_fallbackEntry _ (by decide)
  · exact inRange_fallbackEntry _ (by decide)
  · exact inRange_fallbackEntry _ lt

/-- What R66 and R184 ask of a catalogue entry. -/
def aspectInRange (e : CatalogueEntry) : Prop := e.rank ≤ 15 ∧ ∀ v, e.defaultSpeed = some v → v ≤ 400

theorem inRange_unusedAspect : aspectInRange unusedAspect := by simp [unusedAspect, aspectInRange]

theorem inRange_lossAspectFill : aspectInRange lossAspectFill := by simp [lossAspectFill, aspectInRange]

theorem inRange_catalogueEntryAt (image : List Byte) (c : Nat) : aspectInRange (catalogueEntryAt image c) := by
  unfold catalogueEntryAt catalogueEntryOf
  dsimp only
  split
  · refine ⟨Nat.le_of_lt_succ (BitVec.isLt _), fun v speed => ?_⟩
    dsimp only at speed
    split at speed
    · obtain rfl := Option.some.inj speed; exact Nat.min_le_left ..
    · cases speed
  · exact inRange_unusedAspect

/-- The catalogue with the loss aspect code's entry used. -/
theorem get_useLossEntry (code : Fin 16) (catalogue : Vector CatalogueEntry 16) (k : Fin 16) :
    (useLossEntry code catalogue).get k =
      if k = code ∧ (catalogue.get code).used = false then lossAspectFill else catalogue.get k := by
  unfold useLossEntry
  split
  · next used => rw [if_neg (by simp [used])]
  · next unused =>
    simp only [vector_get_eq_getElem, Vector.getElem_set, Bool.not_eq_true] at unused ⊢
    by_cases same : k = code
    · simp [same, unused]
    · have other : (code : Nat) ≠ k := fun h => same (Fin.ext h.symm)
      simp [same, other]

theorem inRange_flashSetting {image : List Byte} {i : Nat} (held : i + 2 ≤ image.length) {period on' : Nat} (low : 10 ≤ period)
    (high : period ≤ 255) : (flashSetting image i period on').inRange := by
  obtain ⟨pl, ph⟩ := setting8_range image i low high
  have onTime : (flashSetting image i period on').onTime =
      clamp 1 (setting8 image i 10 255 period - 1) (byteAt image (i + 1)).toNat := if_pos held
  obtain ⟨ol, oh⟩ := clamp_le (show 1 ≤ setting8 image i 10 255 period - 1 by omega) (byteAt image (i + 1)).toNat
  exact ⟨pl, ph, onTime ▸ ol, by rw [onTime]; exact Nat.lt_of_le_of_lt oh (Nat.sub_lt (by omega) Nat.one_pos)⟩

/-! ### The load's four conditions -/

theorem toNat_append_byte (a b : Byte) : (a ++ b).toNat = 256 * a.toNat + b.toNat := by
  rw [BitVec.toNat_append, ← Nat.shiftLeft_add_eq_or_of_lt b.isLt, Nat.shiftLeft_eq, Nat.mul_comm]

theorem toNat_wordAt (bytes : List Byte) (i : Nat) :
    (wordAt bytes i).toNat = 256 * (byteAt bytes i).toNat + (byteAt bytes (i + 1)).toNat := toNat_append_byte _ _

theorem lengthInRange_iff {n : Nat} : lengthInRange n = true ↔ 64 ≤ n ∧ n ≤ 1024 := by simp [lengthInRange]

theorem readCount_eq (m : MemoryAnswer) : m.readCount = if 64 ≤ m.length ∧ m.length ≤ 1024 then m.length else 2 := by
  simp only [MemoryAnswer.readCount, lengthInRange_iff]

theorem readCount_ge (m : MemoryAnswer) : 2 ≤ m.readCount := by
  rw [readCount_eq]
  split <;> omega

/-- A memory that answers gives the bytes that are read. -/
theorem byteAt_bytesRead {m : MemoryAnswer} (answered : m.answered = true) {i : Nat} (h : i < m.readCount) :
    byteAt m.bytesRead i = m.byte i := by
  obtain ⟨-, read⟩ | ⟨none, -⟩ := m.bytesRead_cases
  · simp [read, byteAt, List.getD, h]
  · rw [none] at answered; cases answered

theorem wordAt_bytesRead {m : MemoryAnswer} (answered : m.answered = true) {i : Nat} (h : i + 1 < m.readCount) :
    (wordAt m.bytesRead i).toNat = 256 * (m.byte i).toNat + (m.byte (i + 1)).toNat := by
  rw [toNat_wordAt, byteAt_bytesRead answered h, byteAt_bytesRead answered (Nat.lt_of_succ_lt h)]

/-- The image is taken under the four conditions, and then all its bytes have been read (R181). -/
theorem imageTaken_iff {m : MemoryAnswer} : m.imageTaken = true ↔ m.answered = true ∧ 64 ≤ m.length ∧ m.length ≤ 1024 ∧
    byteAt m.bytesRead 2 = 1 ∧ imageSum m.bytesRead = (wordAt m.bytesRead 3).toNat := by
  have length (answered : m.answered = true) : (wordAt m.bytesRead 0).toNat = m.length :=
    (wordAt_bytesRead answered (readCount_ge m)).trans (toNat_append_byte _ _).symm
  cases answered : m.answered with
  | false => simp [MemoryAnswer.imageTaken, MemoryAnswer.failure, answered]
  | true =>
    rw [MemoryAnswer.imageTaken, MemoryAnswer.failure, length answered, ← and_assoc (b := m.length ≤ 1024), ← lengthInRange_iff]
    by_cases range : lengthInRange m.length = true <;> by_cases format : byteAt m.bytesRead 2 = 1#8 <;>
      by_cases sum : imageSum m.bytesRead = (wordAt m.bytesRead 3).toNat <;> simp [answered, range, format, sum]

theorem length_bytesRead_of_taken {m : MemoryAnswer} (h : m.imageTaken = true) : 64 ≤ m.bytesRead.length := by
  obtain ⟨answered, low, high, -⟩ := imageTaken_iff.1 h
  obtain ⟨-, read⟩ | ⟨none, -⟩ := m.bytesRead_cases
  · rw [read, List.length_map, List.length_range, readCount_eq, if_pos ⟨low, high⟩]
    exact low
  · rw [none] at answered; cases answered

/-! ### The loaded configuration -/

theorem get_imageCatalogue (own : Nat) (image : List Byte) (k : Fin 16) :
    (imageConfiguration own image).catalogue.get k =
      if k = lossCodeOf image ∧ (catalogueEntryAt image k).used = false then lossAspectFill
      else catalogueEntryAt image k := by
  rw [imageConfiguration, get_useLossEntry]
  by_cases same : k = lossCodeOf image
  · simp [vector_get_eq_getElem, same]
  · simp [vector_get_eq_getElem, same]

theorem inRange_imageConfiguration (own : Nat) {image : List Byte} (taken : 64 ≤ image.length) :
    (imageConfiguration own image).InRange own where
  grace := setting16_range image 5 (by decide) (by decide)
  tolerance := setting16_range image 7 (by decide) (by decide)
  standstill := (setting8_range image 9 (Nat.zero_le _) (by decide)).2
  hysteresis := (setting8_range image 10 (Nat.zero_le _) (by decide)).2
  arcScale := setting16_range image 11 (by decide) (by decide)
  barScale := setting16_range image 13 (by decide) (by decide)
  warnBand := setting8_range image 15 (by decide) (by decide)
  returnHyst := ⟨Nat.le_trans (Nat.min_le_right _ _) (setting8_range image 16 (Nat.zero_le _) (by decide)).2, Nat.min_le_left _ _⟩
  ackTime := setting16_range image 18 (by decide) (by decide)
  reminder := setting16_range image 20 (by decide) (by decide)
  claim := setting16_range image 22 (by decide) (by decide)
  deskPeriod := setting16_range image 24 (by decide) (by decide)
  scrollTime := setting8_range image 26 (by decide) (by decide)
  flash := ⟨inRange_flashSetting (i := 27) (by omega) (by decide) (by decide),
    inRange_flashSetting (i := 29) (by omega) (by decide) (by decide)⟩
  entries := inRange_checkedEntries fun c mem => by
    obtain ⟨i, -, rfl⟩ := List.mem_map.1 mem
    exact inRange_sourceEntryAt image i
  apart := entriesApart_checkedEntries own _
  catalogue := fun k => by
    rw [get_imageCatalogue]
    split
    · exact inRange_lossAspectFill
    · exact inRange_catalogueEntryAt image k
  lossUsed := by
    rw [get_imageCatalogue]
    split
    · rfl
    · next used => exact Bool.not_eq_false _ ▸ fun unused => used ⟨rfl, unused⟩

theorem inRange_fallbackConfiguration (own : Nat) : (fallbackConfiguration own).InRange own where
  grace := by simp [fallbackConfiguration]
  tolerance := by simp [fallbackConfiguration]
  standstill := by simp [fallbackConfiguration]
  hysteresis := by simp [fallbackConfiguration]
  arcScale := by simp [fallbackConfiguration]
  barScale := by simp [fallbackConfiguration]
  warnBand := by simp [fallbackConfiguration]
  returnHyst := by simp [fallbackConfiguration]
  ackTime := by simp [fallbackConfiguration]
  reminder := by simp [fallbackConfiguration]
  claim := by simp [fallbackConfiguration]
  deskPeriod := by simp [fallbackConfiguration]
  scrollTime := by simp [fallbackConfiguration]
  flash := by simp [fallbackConfiguration, FlashConfig.inRange]
  entries := inRange_checkedEntries fun c mem => inRange_fallbackEntries mem
  apart := entriesApart_checkedEntries own _
  catalogue := fun k => by
    show aspectInRange ((((Vector.replicate 16 unusedAspect).set 0 fallbackCodeZero).set 15 lossAspectFill).get k)
    simp only [vector_get_eq_getElem, Vector.getElem_set, Vector.getElem_replicate]
    split
    · exact inRange_lossAspectFill
    · split
      · simp [aspectInRange, fallbackCodeZero]
      · exact inRange_unusedAspect
  lossUsed := rfl

/-- Settles O11: an image is taken only whole, so each setting is clamped or the default; the check leaves the entries apart. -/
theorem loadedConfigurationIsInRange : Obligations.LoadedConfigurationIsInRange := by
  intro own m
  unfold loadedConfiguration
  split
  · next taken => exact inRange_imageConfiguration own (length_bytesRead_of_taken taken)
  · exact inRange_fallbackConfiguration own

end Sys2Proof.Machine
end

section
/-! PROOFS. The image byte by byte (R182 to R184), and the end of the load (R181, R187). -/

namespace Sys2Proof.Machine

open Sys2Proof

-- One proof after another: the many small proofs below, each on a thread of its own, would reserve more stacks than the check allows.
set_option Elab.async false

/-! ### Bytes and fields of bytes -/

theorem clamp_eq {lo hi : Nat} (h : lo ≤ hi) (v : Nat) : clamp lo hi v = if v < lo then lo else if hi < v then hi else v := by
  unfold clamp
  split
  · omega
  · split <;> omega

theorem setting8_eq (image : List Byte) (i : Nat) {lo hi : Nat} (h : lo ≤ hi) (dflt : Nat) :
    setting8 image i lo hi dflt = if i + 1 ≤ image.length then
      (if (image.getD i 0).toNat < lo then lo else if hi < (image.getD i 0).toNat then hi else (image.getD i 0).toNat)
    else dflt := by
  rw [setting8, clamp_eq h, byteAt]

theorem setting16_eq (image : List Byte) (i : Nat) {lo hi : Nat} (h : lo ≤ hi) (dflt : Nat) :
    setting16 image i lo hi dflt = if i + 2 ≤ image.length then
      (if 256 * (image.getD i 0).toNat + (image.getD (i + 1) 0).toNat < lo then lo
       else if hi < 256 * (image.getD i 0).toNat + (image.getD (i + 1) 0).toNat then hi
       else 256 * (image.getD i 0).toNat + (image.getD (i + 1) 0).toNat)
    else dflt := by
  rw [setting16, clamp_eq h, toNat_wordAt]; rfl

theorem getLsbD_byte (b : Byte) (i : Nat) : b.getLsbD i = decide (b.toNat / 2 ^ i % 2 = 1) :=
  Nat.testBit_eq_decide_div_mod_eq

theorem getLsbD_byte_seven (b : Byte) : b.getLsbD 7 = decide (128 ≤ b.toNat) := by
  rw [getLsbD_byte]
  have lt := b.isLt
  exact decide_eq_decide.2 (by omega)

theorem toNat_extract (b : Byte) (start len : Nat) : (b.extractLsb' start len).toNat = b.toNat / 2 ^ start % 2 ^ len := by
  rw [BitVec.extractLsb'_toNat, Nat.shiftRight_eq_div_pow]

theorem reportModeOfCode_eq (code : BitVec 2) :
    reportModeOfCode code = if code.toNat = 0 then .fault else if code.toNat = 1 then .warning else .silent := by
  revert code; decide

theorem sourceKindOfCode_eq (code : BitVec 2) : sourceKindOfCode code =
    if code.toNat = 0 then .speed else if code.toNat = 1 then .aspect else if code.toNat = 2 then .fault else .desk := by
  revert code; decide

theorem driveOfCode_eq (code : BitVec 2) : driveOfCode code =
    if code.toNat = 0 then .off else if code.toNat = 1 then .steady else if code.toNat = 2 then .slow else .fast := by
  revert code; decide

/-! ### Source entries -/

section
variable (b0 b1 b2 b3 b4 : Byte)

theorem withKindDefaults_enabled (c : SourceConfig) : (withKindDefaults c).enabled = c.enabled := by
  unfold withKindDefaults; split <;> rfl
theorem withKindDefaults_station (c : SourceConfig) : (withKindDefaults c).station = c.station := by
  unfold withKindDefaults; split <;> rfl
theorem withKindDefaults_kind (c : SourceConfig) : (withKindDefaults c).kind = c.kind := by
  unfold withKindDefaults; split <;> rfl
theorem withKindDefaults_roleIndex (c : SourceConfig) : (withKindDefaults c).roleIndex = c.roleIndex := by
  unfold withKindDefaults; split <;> rfl

theorem sourceEntryOf_enabled : (sourceEntryOf b0 b1 b2 b3 b4).enabled = decide (128 ≤ b0.toNat) := by
  rw [← getLsbD_byte_seven]; unfold sourceEntryOf; dsimp only; split
  · exact withKindDefaults_enabled _
  · rfl

theorem sourceEntryOf_station : (sourceEntryOf b0 b1 b2 b3 b4).station = b0.toNat % 32 := by
  have station : (b0.extractLsb' 0 5).toNat = b0.toNat % 32 := by rw [toNat_extract]; simp
  rw [← station]; unfold sourceEntryOf; dsimp only; split
  · exact withKindDefaults_station _
  · rfl

theorem sourceEntryOf_kind : (sourceEntryOf b0 b1 b2 b3 b4).kind = sourceKindOfCode (b1.extractLsb' 6 2) := by
  unfold sourceEntryOf; dsimp only; split
  · exact withKindDefaults_kind _
  · rfl

theorem sourceEntryOf_roleIndex : (sourceEntryOf b0 b1 b2 b3 b4).roleIndex =
    clampRoleIndex (sourceEntryOf b0 b1 b2 b3 b4).kind (b1.toNat / 16 % 4) := by
  have index : (b1.extractLsb' 4 2).toNat = b1.toNat / 16 % 4 := toNat_extract b1 4 2
  rw [sourceEntryOf_kind, ← index]; unfold sourceEntryOf; dsimp only; split
  · exact withKindDefaults_roleIndex _
  · rfl

theorem kindCode_eq : sourceKindOfCode (b1.extractLsb' 6 2) = if b1.toNat / 64 = 0 then .speed
    else if b1.toNat / 64 = 1 then .aspect else if b1.toNat / 64 = 2 then .fault else .desk := by
  have lt := b1.isLt
  have code : (b1.extractLsb' 6 2).toNat = b1.toNat / 64 := by
    rw [toNat_extract]; exact Nat.mod_eq_of_lt (by omega)
  rw [sourceKindOfCode_eq, code]

/-- An entry with its own settings (R183, R184). -/
theorem sourceEntryOf_own (own : b0.toNat / 64 % 2 = 0) : (sourceEntryOf b0 b1 b2 b3 b4).lowerMs = 10 * b2.toNat ∧
    (sourceEntryOf b0 b1 b2 b3 b4).upperMs = 10 * max 2 b3.toNat ∧
    (sourceEntryOf b0 b1 b2 b3 b4).qualCount = clamp 1 8 b4.toNat ∧
    (sourceEntryOf b0 b1 b2 b3 b4).lossLimit = (if b1.toNat / 2 % 2 = 1 then 3 else 1) ∧
    (sourceEntryOf b0 b1 b2 b3 b4).report =
      if b1.toNat / 4 % 4 = 0 then .fault else if b1.toNat / 4 % 4 = 1 then .warning else .silent := by
  have bit : b0.getLsbD 6 = false := by rw [getLsbD_byte, decide_eq_false_iff_not]; omega
  have limit : b1.getLsbD 1 = decide (b1.toNat / 2 % 2 = 1) := getLsbD_byte b1 1
  have mode : (b1.extractLsb' 2 2).toNat = b1.toNat / 4 % 4 := toNat_extract b1 2 2
  simp only [sourceEntryOf, bit, limit, reportModeOfCode_eq, mode, Bool.false_eq_true, if_false, decide_eq_true_eq, and_self]

/-- An entry with its kind's settings (R3). -/
theorem sourceEntryOf_kindDefaults (defaults : b0.toNat / 64 % 2 = 1) :
    let e := sourceEntryOf b0 b1 b2 b3 b4
    e.lossLimit = 3 ∧ (e.kind = .speed → e.lowerMs = 20 ∧ e.upperMs = 250 ∧ e.qualCount = 2 ∧ e.report = .fault) ∧
      (e.kind = .aspect → e.lowerMs = 20 ∧ e.upperMs = 600 ∧ e.qualCount = 2 ∧ e.report = .fault) ∧
      (e.kind = .fault → e.lowerMs = 100 ∧ e.upperMs = 2500 ∧ e.qualCount = 1 ∧ e.report = .warning) ∧
      (e.kind = .desk → e.lowerMs = 20 ∧ e.upperMs = 350 ∧ e.qualCount = 2 ∧ e.report = .silent) := by
  have bit : b0.getLsbD 6 = true := by rw [getLsbD_byte, decide_eq_true_eq]; exact defaults
  dsimp only
  rw [sourceEntryOf_kind]
  simp only [sourceEntryOf, bit, if_true, withKindDefaults]
  cases kind : sourceKindOfCode (b1.extractLsb' 6 2) <;> simp

end

theorem toNat_byteAt (image : List Byte) (i : Nat) : (byteAt image i).toNat = (image.getD i 0).toNat := rfl

/-- The five bytes of an entry, field by field (R3, R183, R184). -/
theorem sourceEntryAt_fields (image : List Byte) (i : Nat) :
    let b : Nat → Nat := fun i => (image.getD i 0).toNat
    let near : Nat → Nat → Nat → Nat := fun lo hi v => if v < lo then lo else if hi < v then hi else v
    let e := sourceEntryAt image i
    let at0 := 33 + 5 * i
    (image.length < at0 + 5 → e.enabled = false) ∧
    (at0 + 5 ≤ image.length →
      e.enabled = decide (128 ≤ b at0) ∧ e.station = b at0 % 32 ∧
      e.kind = (if b (at0 + 1) / 64 = 0 then .speed else if b (at0 + 1) / 64 = 1 then .aspect
        else if b (at0 + 1) / 64 = 2 then .fault else .desk) ∧
      (e.kind = .speed → e.roleIndex = b (at0 + 1) / 16 % 4) ∧ (e.kind = .aspect → e.roleIndex = min 1 (b (at0 + 1) / 16 % 4)) ∧
      (e.kind = .desk → e.roleIndex = min 2 (b (at0 + 1) / 16 % 4)) ∧
      (b at0 / 64 % 2 = 0 →
        e.lowerMs = 10 * b (at0 + 2) ∧ e.upperMs = 10 * max 2 (b (at0 + 3)) ∧ e.qualCount = near 1 8 (b (at0 + 4)) ∧
        e.lossLimit = (if b (at0 + 1) / 2 % 2 = 1 then 3 else 1) ∧
        e.report = (if b (at0 + 1) / 4 % 4 = 0 then .fault else if b (at0 + 1) / 4 % 4 = 1 then .warning else .silent)) ∧
      (b at0 / 64 % 2 = 1 → e.lossLimit = 3 ∧
        (e.kind = .speed → e.lowerMs = 20 ∧ e.upperMs = 250 ∧ e.qualCount = 2 ∧ e.report = .fault) ∧
        (e.kind = .aspect → e.lowerMs = 20 ∧ e.upperMs = 600 ∧ e.qualCount = 2 ∧ e.report = .fault) ∧
        (e.kind = .fault → e.lowerMs = 100 ∧ e.upperMs = 2500 ∧ e.qualCount = 1 ∧ e.report = .warning) ∧
        (e.kind = .desk → e.lowerMs = 20 ∧ e.upperMs = 350 ∧ e.qualCount = 2 ∧ e.report = .silent))) := by
  intro b near e at0
  refine ⟨fun beyond => ?_, fun held => ?_⟩
  · have unused : e = unusedSource := if_neg (Nat.not_le.2 beyond)
    rw [unused]; rfl
  · have given : e = sourceEntryOf (byteAt image at0) (byteAt image (at0 + 1)) (byteAt image (at0 + 2)) (byteAt image (at0 + 3))
        (byteAt image (at0 + 4)) := if_pos held
    have index := sourceEntryOf_roleIndex (byteAt image at0) (byteAt image (at0 + 1)) (byteAt image (at0 + 2))
      (byteAt image (at0 + 3)) (byteAt image (at0 + 4))
    rw [← given] at index
    refine ⟨by rw [given]; exact sourceEntryOf_enabled .., by rw [given]; exact sourceEntryOf_station ..,
      by rw [given, sourceEntryOf_kind]; exact kindCode_eq _, fun kind => ?_, fun kind => ?_, fun kind => ?_, fun own => ?_,
      fun defaults => by rw [given]; exact sourceEntryOf_kindDefaults _ _ _ _ _ defaults⟩
    · rw [index, kind]; exact Nat.min_eq_right (Nat.le_of_lt_succ (Nat.mod_lt _ (by decide)))
    · rw [index, kind]; rfl
    · rw [index, kind]; rfl
    · obtain ⟨lower, upper, qual, limit, report⟩ := sourceEntryOf_own (byteAt image at0) (byteAt image (at0 + 1))
        (byteAt image (at0 + 2)) (byteAt image (at0 + 3)) (byteAt image (at0 + 4)) own
      rw [clamp_eq (by decide)] at qual
      rw [given]
      exact ⟨lower, upper, qual, limit, report⟩

/-! ### The catalogue -/

theorem catalogueEntryOf_lamps (b0 b1 b2 : Byte) (speed : BitVec 16) (j : Fin 8) :
    (catalogueEntryOf b0 b1 b2 speed).lamps.get j =
      driveOfCode ((if j.val < 4 then b1 else b2).extractLsb' (6 - 2 * (j.val % 4)) 2) := by
  match j with
  | 0 | 1 | 2 | 3 | 4 | 5 | 6 | 7 => rfl

/-- Two bits of a byte, by the place of the lamp they are for. -/
theorem toNat_lampBits (b : Byte) (j : Fin 8) :
    (b.extractLsb' (6 - 2 * (j.val % 4)) 2).toNat = b.toNat / 4 ^ (3 - j.val % 4) % 4 := by
  have place : 2 ^ (6 - 2 * (j.val % 4)) = 4 ^ (3 - j.val % 4) :=
    (congrArg (2 ^ ·) (show 6 - 2 * (j.val % 4) = 2 * (3 - j.val % 4) by omega)).trans (Nat.pow_mul ..)
  exact (toNat_extract ..).trans (congrArg (fun p => b.toNat / p % 4) place)

/-- The five bytes of a catalogue entry, field by field (R66, R183, R184). -/
theorem catalogueEntryAt_fields {image : List Byte} {c : Nat} (held : 153 + 5 * c + 5 ≤ image.length) :
    let b : Nat → Nat := fun i => (image.getD i 0).toNat
    let e := catalogueEntryAt image c
    let at0 := 153 + 5 * c
    let drive : Nat → Drive := fun v => if v = 0 then .off else if v = 1 then .steady else if v = 2 then .slow else .fast
    e.used = decide (128 ≤ b at0) ∧ e.rank = b at0 % 16 ∧
      (∀ j : Fin 8, e.lamps.get j = drive (b (at0 + 1 + j.val / 4) / 4 ^ (3 - j.val % 4) % 4)) ∧
      e.defaultSpeed = if b at0 / 64 % 2 = 1 then some (min 400 (256 * b (at0 + 3) + b (at0 + 4))) else none := by
  intro b e at0 drive
  have given : e = catalogueEntryOf (byteAt image at0) (byteAt image (at0 + 1)) (byteAt image (at0 + 2))
      (wordAt image (at0 + 3)) := if_pos held
  rw [given]
  refine ⟨getLsbD_byte_seven _, ?_, fun j => ?_, ?_⟩
  · show ((byteAt image at0).extractLsb' 0 4).toNat = _
    rw [toNat_extract]; simp [b, byteAt]
  · rw [catalogueEntryOf_lamps, driveOfCode_eq, toNat_lampBits]
    by_cases first : j.val < 4
    · rw [if_pos first, show at0 + 1 + j.val / 4 = at0 + 1 by omega]; rfl
    · rw [if_neg first, show at0 + 1 + j.val / 4 = at0 + 2 by omega]; rfl
  · have bit : (byteAt image at0).getLsbD 6 = decide (b at0 / 64 % 2 = 1) := getLsbD_byte _ 6
    simp only [catalogueEntryOf, bit, toNat_wordAt, decide_eq_true_eq]
    rfl

/-! ### The settings -/

theorem reportingOfCode_clamp (v : Nat) :
    reportingOfCode (clamp 0 2 v) = if v = 0 then .continuous else if v = 1 then .entryAndReturn else .entryOnly := by
  have zero : clamp 0 2 v = 0 ↔ v = 0 := by unfold clamp; omega
  have one : clamp 0 2 v = 1 ↔ v = 1 := by unfold clamp; omega
  simp only [reportingOfCode, zero, one]

theorem reportingOfCode_setting (image : List Byte) : reportingOfCode (setting8 image 17 0 2 1) =
    if (if 18 ≤ image.length then (image.getD 17 0).toNat else 1) = 0 then .continuous
    else if (if 18 ≤ image.length then (image.getD 17 0).toNat else 1) = 1 then .entryAndReturn else .entryOnly := by
  unfold setting8
  split
  · exact reportingOfCode_clamp _
  · rfl

/-- The clamped period leaves room for an on-time. -/
theorem one_le_flashSetting (image : List Byte) (i : Nat) {dflt : Nat} (low : 10 ≤ dflt) (high : dflt ≤ 255) :
    1 ≤ setting8 image i 10 255 dflt - 1 := by
  have := (setting8_range image i low high).1
  omega

/-- Settles O12: each setting, each entry and each code's aspect from its bytes. -/
theorem imageBytesAreTheSettings : Obligations.ImageBytesAreTheSettings := by
  intro own image b w near held c
  refine ⟨setting16_eq _ _ (by decide) _, setting16_eq _ _ (by decide) _, setting8_eq _ _ (by decide) _,
    setting8_eq _ _ (by decide) _, setting16_eq _ _ (by decide) _, setting16_eq _ _ (by decide) _,
    setting8_eq _ _ (by decide) _, congrArg (min _) (setting8_eq _ _ (by decide) _), reportingOfCode_setting image,
    setting16_eq _ _ (by decide) _, setting16_eq _ _ (by decide) _, setting16_eq _ _ (by decide) _,
    setting16_eq _ _ (by decide) _, setting8_eq _ _ (by decide) _, setting8_eq _ _ (by decide) _,
    setting8_eq _ _ (one_le_flashSetting image 27 (by decide) (by decide)) _, setting8_eq _ _ (by decide) _,
    setting8_eq _ _ (one_le_flashSetting image 29 (by decide) (by decide)) _, ?_, ?_, rfl,
    fun i _ => sourceEntryAt_fields image i, fun k => ?_⟩
  · show (if 33 ≤ image.length then wordAt image 31 else 0xFFFF : BitVec 16).toNat = _
    rw [apply_ite BitVec.toNat, toNat_wordAt]; rfl
  · refine .trans ?_ (setting8_eq image 233 (by decide : (0 : Nat) ≤ 15) 15)
    exact Nat.mod_eq_of_lt (Nat.lt_succ_of_le (setting8_range image 233 (Nat.zero_le _) (by decide)).2)
  · intro e at0 drive written
    have get : e = if k = c.lossCode ∧ (catalogueEntryAt image k).used = false then lossAspectFill
        else catalogueEntryAt image k := get_imageCatalogue own image k
    have used : (catalogueEntryAt image k).used = written := by
      by_cases reached : at0 + 5 ≤ image.length
      · rw [(catalogueEntryAt_fields reached).1]; simp [written, reached, b, at0]
      · rw [show catalogueEntryAt image k = unusedAspect from if_neg reached]; simp [written, reached, unusedAspect]
    rw [used] at get
    refine ⟨fun yes => ?_, fun no other => ?_, fun no same => ?_⟩
    · have reached : at0 + 5 ≤ image.length := of_decide_eq_true (Bool.and_eq_true_iff.1 yes).1
      obtain ⟨-, rank, lamps, speed⟩ := catalogueEntryAt_fields reached
      rw [get, if_neg (by simp [yes])]
      exact ⟨used.trans yes, rank, lamps, speed⟩
    · rw [get, if_neg (by simp [other]), used, no]
    · rw [get, if_pos ⟨same, no⟩]
      exact ⟨rfl, rfl, rfl, fun j => by simp [lossAspectFill, vector_get_eq_getElem]⟩

/-! ### The end of the load -/

theorem length_eq (m : MemoryAnswer) : m.length = 256 * (m.byte 0).toNat + (m.byte 1).toNat := toNat_append_byte _ _

theorem foldl_modSum (l : List Byte) (sum : Nat) (h : sum < 65536) :
    l.foldl (fun sum b => (sum + b.toNat) % 65536) sum = (sum + (l.map BitVec.toNat).sum) % 65536 := by
  induction l generalizing sum with
  | nil => simpa using (Nat.mod_eq_of_lt h).symm
  | cons b rest ih =>
    rw [List.foldl_cons, ih _ (Nat.mod_lt _ (by decide)), List.map_cons, List.sum_cons, Nat.mod_add_mod, Nat.add_assoc]

theorem imageSum_eq (image : List Byte) : imageSum image = ((image.drop 5).map BitVec.toNat).sum % 65536 := by
  rw [imageSum, foldl_modSum _ _ (by decide), Nat.zero_add]

theorem answered_iff {m : MemoryAnswer} : m.answered = true ↔
    m.acks = { writeAddress := true, wordHigh := true, wordLow := true, readAddress := true } := by
  obtain ⟨⟨a, b, c, d⟩, bytes⟩ := m
  simp [MemoryAnswer.answered, and_assoc]

theorem bytesRead_of_answered {m : MemoryAnswer} (h : m.answered = true) : m.bytesRead = (List.range m.readCount).map m.byte := by
  obtain ⟨-, read⟩ | ⟨none, -⟩ := m.bytesRead_cases
  · exact read
  · rw [none] at h; cases h

/-- The image is taken where every byte was acknowledged, the length is in range, the format is 1 and the sum is right (R181). -/
theorem imageTaken_iff_bytes {m : MemoryAnswer} : m.imageTaken = true ↔
    m.acks = { writeAddress := true, wordHigh := true, wordLow := true, readAddress := true } ∧ 64 ≤ m.length ∧
      m.length ≤ 1024 ∧ m.byte 2 = 1 ∧
      (((List.range m.length).drop 5).map (fun i => (m.byte i).toNat)).sum % 65536 =
        256 * (m.byte 3).toNat + (m.byte 4).toNat := by
  rw [imageTaken_iff, answered_iff]
  refine and_congr_right fun acks => and_congr_right fun low => and_congr_right fun high => ?_
  have answered := answered_iff.2 acks
  have count : m.readCount = m.length := by rw [readCount_eq, if_pos ⟨low, high⟩]
  rw [byteAt_bytesRead answered (by omega), wordAt_bytesRead answered (by omega), imageSum_eq, bytesRead_of_answered answered,
    count, ← List.map_drop, List.map_map]
  rfl

/-- START_CHIRP plays at the end of the load where its enable condition holds: the request set is empty (R187). -/
theorem Arbiter.issue_reset (ok : Pattern → Bool) (now : Time) (p : Pattern) :
    (Arbiter.reset.issue ok now p).playing = if ok p = true then some { pattern := p, since := now } else none := by
  have highest : Arbiter.reset.higherIn ok p = false := Arbiter.higherIn_eq_false.2 fun q _ member => by cases member
  obtain ⟨dropped, same⟩ | ⟨eligible, -, plays⟩ := Arbiter.reset.issue_cases ok now p
  · rw [same, if_neg (by simpa [highest] using dropped)]; rfl
  · rw [plays, if_pos eligible]

theorem State.eligible_startChirp {s : State} (h : s.cfl.start ≠ .running) : s.eligible .startChirp = true ↔
    s.cfg.toneEnables.getLsbD 0 = true ∧ s.cfg.toneEnables.getLsbD 10 = true := by
  rw [State.eligible_iff, toneEnabled_iff]
  simp [h, Pattern.priority]

/-- Settles O8: the transaction part by part, the four conditions, and the event's effect. -/
theorem loadEndEntersLampCheck : Obligations.LoadEndEntersLampCheck := by
  intro t acks memory s loading m n k clear
  have length : m.length = n := length_eq m
  refine ⟨fun a => ?_, fun a b => ?_, fun a b c => ?_, fun a b c d => ?_, fun all => ⟨?_, ?_⟩, ?_, ?_⟩
  · simp [MemoryAnswer.transaction, MemoryAnswer.addressing, untilUnacknowledged, m, a, clear, busClear, deviceAddress]
  · simp [MemoryAnswer.transaction, MemoryAnswer.addressing, untilUnacknowledged, m, a, b, clear, busClear, deviceAddress]
  · simp [MemoryAnswer.transaction, MemoryAnswer.addressing, untilUnacknowledged, m, a, b, c, clear, busClear, deviceAddress]
  · simp [MemoryAnswer.transaction, MemoryAnswer.addressing, untilUnacknowledged, m, a, b, c, d, clear, busClear,
      deviceAddress]
  · have count : m.readCount = k := by rw [readCount_eq, length]
    rw [MemoryAnswer.transaction, untilUnacknowledged_of_all _ _ (by simp [MemoryAnswer.addressing, m, all]),
      MemoryAnswer.reading, count]
    simp [MemoryAnswer.addressing, clear, busClear, deviceAddress]
  · rw [bytesRead_of_answered (answered_iff.2 all), readCount_eq, length]
  · rw [imageTaken_iff_bytes, length]
  · have ends : exec (.loadEnd t acks memory) s = .next ((s.reach t).endLoad m) := exec_of_moment rfl
    have loading' : (s.reach t).cfl.start = .loading := loading
    rw [State.endLoad, if_pos loading'] at ends
    refine ⟨_, ends, rfl, fun empty => ?_, rfl, rfl, rfl⟩
    have silent : (s.reach t).idr.arbiter = Arbiter.reset := empty
    refine .trans (congrArg (fun a : Arbiter => (a.issue _ _ _).playing) silent) ((Arbiter.issue_reset _ _ _).trans ?_)
    exact ite_congr (propext (State.eligible_startChirp nofun)) (fun _ => rfl) fun _ => rfl

end Sys2Proof.Machine
end

section
/-! PROOFS. What every step keeps of the start: at rest outside RUNNING, the timers, generators, straps and configuration of each
start state, the configuration in range (R4, R41, R64, R86, R113, R131, R146, R178 to R187, R192). -/

namespace Sys2Proof.Machine

open Sys2Proof

-- One proof after another: the many small proofs below, each on a thread of its own, would reserve more stacks than the check allows.
set_option Elab.async false

/-! ### Outside RUNNING -/

/-- At rest still, with the tones as they were. -/
def State.RestsOn (s u : State) : Prop := u.AtRest ∧ u.idr.arbiter = s.idr.arbiter

section
variable {s : State}

theorem State.fromPeer_of_not_running (h : s.cfl.start ≠ .running) (bytes : List Byte) : s.fromPeer bytes = none := by
  unfold State.fromPeer
  split
  · simp [State.running, h]
  · rfl

theorem State.AtRest.hearFrame (h : s.AtRest) (bytes : List Byte) : s.RestsOn (s.hearFrame bytes) := by
  unfold State.hearFrame
  split
  · exact ⟨{ h with }, rfl⟩
  · exact ⟨h, rfl⟩

theorem State.AtRest.hearPeer (h : s.AtRest) (still : s.cfl.start ≠ .running) (bytes : List Byte)
    (act : Frame → State → State) : s.RestsOn (s.hearPeer bytes act) := by
  rw [State.hearPeer, State.fromPeer_of_not_running still]
  exact h.hearFrame bytes

theorem State.AtRest.hearClash (h : s.AtRest) (still : s.cfl.start ≠ .running) (bytes : List Byte) :
    s.RestsOn (s.hearClash bytes) := by
  have off : s.running = false := by simp [State.running, still]
  unfold State.hearClash
  split
  · rw [off]; exact h.hearFrame bytes
  · exact h.hearFrame bytes

theorem State.AtRest.startAttempt (h : s.AtRest) : s.startAttempt = s := by
  obtain ⟨head, waiting, -⟩ := h.queue
  have nothing : s.mayAttempt = false := by simp [State.mayAttempt, Lif.first, head, waiting]
  simp [State.startAttempt, nothing]

theorem State.AtRest.hearStartBit (h : s.AtRest) : s.RestsOn s.hearStartBit := by
  unfold State.hearStartBit
  split
  · exact ⟨{ h with }, rfl⟩
  · exact ⟨h, rfl⟩

theorem State.AtRest.discardFrame (h : s.AtRest) (bytes : List Byte) (ending : FrameEnding) :
    s.RestsOn (s.discardFrame bytes ending) := by
  unfold State.discardFrame
  split
  · exact ⟨{ h with }, rfl⟩
  · exact ⟨h, rfl⟩

theorem State.AtRest.becomeReady (h : s.AtRest) : s.RestsOn s.becomeReady := by
  unfold State.becomeReady
  split
  · exact ⟨{ h with }, rfl⟩
  · exact ⟨h, rfl⟩

/-- Nothing is driven. -/
theorem State.AtRest.released (h : s.AtRest) : s.lif.drive = .released := h.queue.2.2.1

theorem State.AtRest.takeRoutedPress (h : s.AtRest) : s.takeRoutedPress = s := by
  rw [State.takeRoutedPress, h.press]

theorem State.AtRest.routeAckPress (h : s.AtRest) (still : s.cfl.start ≠ .running) : s.routeAckPress =
    { s with diu := { s.diu with acknowledge := s.diu.acknowledge.take } } := by
  have off : s.running = false := by simp [State.running, still]
  rw [State.routeAckPress, h.takeRoutedPress]
  exact if_neg (by show ¬s.running = true; simp [off])

/-- The inputs of the desk do not wake the part. -/
theorem State.AtRest.inputs (h : s.AtRest) {d : Diu} (window : d.window = s.diu.window) (timer : d.scrollAt = s.diu.scrollAt) :
    ({ s with diu := d } : State).AtRest :=
  { h with window := ⟨window.trans h.window.1, timer.trans h.window.2⟩ }

theorem State.AtRest.inputChange (h : s.AtRest) (level : InputLevel) : (s.inputChange level).AtRest := by
  cases level <;> exact h.inputs rfl rfl

end

/-- The commands of the start, and the end of the one-shot: those that change the start state or the tones before RUNNING. -/
def startsOrSounds (c : Instr) : Bool :=
  match c with
  | .reset _ _ | .resetRelease _ _ | .loadEnd _ _ _ | .lampCheckTimerExpiry | .oneShotEnd => true
  | _ => false

/-- Outside RUNNING no timer of the part runs, nothing is heard, queued or driven, and no press is routed. -/
theorem State.AtRest.event {c : Instr} {s : State} {t : Time} (h : s.AtRest) (still : s.cfl.start ≠ .running)
    (flash : s.idr.f1 = none ∧ s.idr.f2 = none) (moment : s.moment c = some t) (other : startsOrSounds c = false) :
    (s.reach t).RestsOn ((s.reach t).event c) := by
  have rest : (s.reach t).AtRest := { h with }
  have off : (s.reach t).running = false := by simp [State.running, still]
  have released : (s.reach t).lif.drive = .released := rest.released
  have never {timer : Option Time} (moment : timer = some t) (stopped : timer = none) : False := by
    rw [stopped] at moment; cases moment
  cases c with
  | reset _ _ | resetRelease _ _ | loadEnd _ _ _ | lampCheckTimerExpiry | oneShotEnd => cases other
  | arrival _ frame | acknFrame _ frame | snapreq _ frame => exact rest.hearPeer still frame _
  | stationClash _ frame => exact rest.hearClash still frame
  | lateTimerExpiry i => exact (never moment (by simp [State.moment, h.ssv, Ssv.reset, Entry.reset, vector_get_eq_getElem])).elim
  | startupGraceExpiry => exact (never moment (by simp [State.moment, h.ssv, Ssv.reset])).elim
  | acknowledgementTimerExpiry | overdueRepeatTimerExpiry | disagreementTimerExpiry =>
    exact (never moment (by simp [State.moment, h.asu, Asu.reset])).elim
  | reminderTimerExpiry => exact (never moment (by simp [State.moment, h.flm, Flm.reset])).elim
  | claimWindowExpiry | deskPeriodExpiry => exact (never moment (by simp [State.moment, h.cru, Cru.reset, Cru.periodEnd])).elim
  | scrollReturnExpiry => exact (never moment h.window.2).elim
  | stationClashTimerExpiry => exact (never moment h.clash.1).elim
  | flashPhaseEnd g =>
    cases g with
    | f1 => exact (never moment (by simp [State.moment, State.flash, flash.1])).elim
    | f2 => exact (never moment (by simp [State.moment, State.flash, flash.2])).elim
  | inputLevelChange _ level => exact ⟨rest.inputChange level, rfl⟩
  | acknowledgePress part =>
    have routed := rest.routeAckPress still
    have pressed : ((s.reach t).routeAckPress).AtRest := by rw [routed]; exact rest.inputs rfl rfl
    cases part with
    | whole =>
      show State.RestsOn _ (State.takeRoutedPress _)
      rw [pressed.takeRoutedPress]
      exact ⟨pressed, by rw [routed]⟩
    | routing => exact ⟨pressed, by show (State.routeAckPress _).idr.arbiter = _; rw [routed]⟩
    | taking =>
      show State.RestsOn _ (State.takeRoutedPress _)
      rw [rest.takeRoutedPress]
      exact ⟨rest, rfl⟩
  | scrollPress =>
    show State.RestsOn _ (State.takeScrollPress _)
    simp only [State.takeScrollPress, off, Bool.false_eq_true, if_false]
    exact ⟨rest.inputs rfl rfl, rfl⟩
  | buttonRelease button => cases button <;> exact ⟨rest.inputs rfl rfl, rfl⟩
  | testPress | testRelease => exact ⟨rest.inputs rfl rfl, rfl⟩
  | keyChange =>
    show State.RestsOn _ (State.takeKey _)
    simp only [State.takeKey, off, Bool.false_eq_true, if_false]
    exact ⟨rest.inputs rfl rfl, rfl⟩
  | dimmerChange => exact ⟨{ rest.inputs (d := { s.diu with dimmer := s.diu.dimmer.take }) rfl rfl with }, rfl⟩
  | attemptStart _ =>
    show State.RestsOn _ (State.startAttempt _)
    rw [rest.startAttempt]
    exact ⟨rest, rfl⟩
  | attemptSuccess _ | attemptFailure _ | prunedHeadEnd _ =>
    simp only [State.event, State.attemptSucceeds, State.attemptFails, State.prunedFrameEnds, released, reduceCtorEq, false_and,
      if_false]
    exact ⟨rest, rfl⟩
  | startBitHeard _ => exact rest.hearStartBit
  | frameDiscard _ frame ending => exact rest.discardFrame frame ending
  | receiverReady _ => exact rest.becomeReady
  | frameDropped _ frame => exact rest.hearFrame frame

theorem State.cfl_firstEvaluation_begun (s : State) : s.begun.firstEvaluation.cfl =
    { s.cfl with start := .running, lampCheckAt := none, runningSince := some s.now } := by
  rw [State.firstEvaluation_cfl]; rfl

/-- In RUNNING an event leaves the start state as it is, but for a reset. -/
theorem State.event_cfl_of_running {c : Instr} {s : State} (h : s.cfl.start = .running) (unreset : ∀ t r, c ≠ .reset t r) :
    (s.event c).cfl = s.cfl := by
  cases c with
  | reset t r => exact absurd rfl (unreset t r)
  | resetRelease => simp [State.event, State.release, h]
  | loadEnd => simp [State.event, State.endLoad, h]
  | lampCheckTimerExpiry => simp [State.event, State.run, h]
  | _ => exact State.event_cfl (by simp [mayChange]) s

theorem State.quiet_holdReset (s : State) (source : ResetSource) : (s.holdReset source).Quiet :=
  ⟨fun _ => s.atRest_holdReset source, fun _ _ => by cases source <;> rfl⟩

theorem State.quiet_of_running {s : State} (h : s.cfl.start = .running) : s.Quiet :=
  ⟨fun still => absurd h still, fun still => absurd h still⟩

theorem State.Quiet.release {s : State} (h : s.Quiet) (straps : Straps) : (s.release straps).Quiet := by
  unfold State.release
  split
  · next sampling =>
    have still : s.cfl.start ≠ .running := by simp [sampling]
    exact ⟨fun _ => { (h.1 still).inputs (d := debouncedFrom s.diu s.now) rfl rfl with },
      fun _ _ => h.2 still (by simp [sampling])⟩
  · exact h

theorem State.Quiet.endLoad {s : State} (h : s.Quiet) (memory : MemoryAnswer) : (s.endLoad memory).Quiet := by
  by_cases loading : s.cfl.start = .loading
  · refine ⟨fun _ => (h.1 (by simp [loading])).endLoad memory, fun _ check => ?_⟩
    rw [State.endLoad, if_pos loading] at check
    exact absurd rfl check
  · rwa [State.endLoad, if_neg loading]

theorem State.event_quiet {c : Instr} {s : State} {t : Time} (quiet : s.Quiet) (start : s.StartLawful)
    (moment : s.moment c = some t) : ((s.reach t).event c).Quiet := by
  have quiet' : (s.reach t).Quiet := ⟨fun h => { quiet.1 h with }, quiet.2⟩
  by_cases running : s.cfl.start = .running
  · by_cases reset : ∃ t r, c = .reset t r
    · obtain ⟨t', source, rfl⟩ := reset
      exact (s.reach t).quiet_holdReset source
    · refine State.quiet_of_running ?_
      rw [State.event_cfl_of_running (s := s.reach t) running fun t r same => reset ⟨t, r, same⟩]
      exact running
  · have rest := quiet.1 running
    have rest' := quiet'.1 running
    have off : s.running = false := by simp [State.running, running]
    have flash : s.idr.f1 = none ∧ s.idr.f2 = none :=
      ⟨Option.isSome_eq_false_iff.1 (start.flash1.trans off) |> Option.isNone_iff_eq_none.1,
       Option.isSome_eq_false_iff.1 (start.flash2.trans off) |> Option.isNone_iff_eq_none.1⟩
    cases other : startsOrSounds c with
    | false =>
      obtain ⟨rests, tones⟩ := rest.event running flash moment other
      have cfl : ((s.reach t).event c).cfl = s.cfl := by
        cases c with
        | reset _ _ | resetRelease _ _ | loadEnd _ _ _ | lampCheckTimerExpiry => cases other
        | _ => exact State.event_cfl rfl _
      exact ⟨fun _ => rests, fun h check => tones.trans (quiet.2 (by rwa [cfl] at h) (by rwa [cfl] at check))⟩
    | true =>
      cases c with
      | reset _ source => exact (s.reach t).quiet_holdReset source
      | resetRelease _ straps => exact quiet'.release straps
      | loadEnd _ _ _ => exact quiet'.endLoad _
      | lampCheckTimerExpiry =>
        show (s.reach t).run.Quiet
        obtain ⟨-, begun⟩ | ⟨-, same⟩ := (s.reach t).run_cases
        · refine State.quiet_of_running ?_
          rw [begun, State.cfl_firstEvaluation_begun]
        · rwa [same]
      | oneShotEnd =>
        refine ⟨fun _ => { rest' with noHolds := rest.noHolds }, fun _ check => ?_⟩
        have silent : s.idr.arbiter = Arbiter.reset := quiet.2 running check
        have moment : s.idr.arbiter.oneShot.map (·.endsAt) = some t := moment
        rw [silent] at moment
        cases moment
      | _ => cases other

/-! ### The start states -/

/-- Two states of the same start state, pins and generators running. -/
structure State.SameStart (s u : State) : Prop where
  cfl  : u.cfl = s.cfl := by rfl
  f1   : u.idr.f1.isSome = s.idr.f1.isSome := by rfl
  f2   : u.idr.f2.isSome = s.idr.f2.isSome := by rfl
  pins : u.supokHigh = s.supokHigh ∧ u.rstnHigh = s.rstnHigh := by exact ⟨rfl, rfl⟩

theorem State.SameStart.trans {s t u : State} (h : s.SameStart t) (k : t.SameStart u) : s.SameStart u where
  cfl := k.cfl.trans h.cfl
  f1 := k.f1.trans h.f1
  f2 := k.f2.trans h.f2
  pins := ⟨k.pins.1.trans h.pins.1, k.pins.2.trans h.pins.2⟩

theorem State.toneIssueOpt_sameStart (s : State) (p : Option Pattern) : s.SameStart (s.toneIssueOpt p) := by
  cases p <;> exact {}

theorem Act.sameStart {loose : Bool} {s u : State} (h : Act loose s u) : s.SameStart u := by
  cases h with
  | beside h => exact { cfl := h.cfl, f1 := by rw [h.idr], f2 := by rw [h.idr], pins := h.pins }
  | event r _ => exact {}
  | indicate => exact {}
  | evaluate => exact .trans (t := State.toneHold _ _ _) {} (State.toneIssueOpt_sameStart _ _)
  | role role => exact {}
  | compute v => exact {}

theorem Course.sameStart {s u : State} (h : Course s u) : s.SameStart u :=
  h.keeps (P := s.SameStart) (fun _ _ act same => same.trans act.sameStart) {}

theorem State.StartLawful.congr {s u : State} (h : s.StartLawful) (same : s.SameStart u) : u.StartLawful := by
  have cfl := same.cfl
  have running := State.running_of_cfl cfl
  constructor
  · rw [cfl]; exact h.lampCheck
  · rw [cfl, running]; exact h.running
  · rw [same.f1, running]; exact h.flash1
  · rw [same.f2, running]; exact h.flash2
  · rw [cfl]; exact h.straps
  · rw [cfl, running]; exact h.config
  · rw [cfl]; exact h.station
  · rw [cfl, State.own_of_cfl cfl]; exact h.fallback
  · rw [State.heldInReset, same.pins.1, same.pins.2, cfl]; exact h.pins

theorem State.startLawful_holdReset (s : State) (source : ResetSource) : (s.holdReset source).StartLawful := by
  cases source <;> constructor <;>
    simp [State.holdReset, State.resetBlocks, State.reset, Cfl.reset, Idr.reset, State.running, State.heldInReset]

/-- No configuration is loaded yet. -/
theorem State.StartLawful.unloaded {s : State} (h : s.StartLawful) (check : s.cfl.start ≠ .lampCheck)
    (running : s.cfl.start ≠ .running) : s.cfl.config = none := by
  have config := h.config
  rw [State.running, beq_eq_false_iff_ne.2 check, beq_eq_false_iff_ne.2 running] at config
  exact Option.isNone_iff_eq_none.1 (Option.isSome_eq_false_iff.1 config)

theorem State.StartLawful.release {s : State} (h : s.StartLawful) (straps : Straps) : (s.release straps).StartLawful := by
  unfold State.release
  split
  · next sampling =>
    have off : s.running = false := by simp [State.running, sampling]
    have unloaded := h.unloaded (by simp [sampling]) (by simp [sampling])
    have start : (if straps.station = 0 then StartState.strapFault else .loading) ≠ .running ∧
        (if straps.station = 0 then StartState.strapFault else .loading) ≠ .lampCheck ∧
        (if straps.station = 0 then StartState.strapFault else .loading) ≠ .sampling := by split <;> simp
    obtain ⟨notRunning, notCheck, notSampling⟩ := start
    constructor <;> simp only [State.running, State.heldInReset, beq_eq_false_iff_ne.2 notRunning,
      beq_eq_false_iff_ne.2 notCheck, bne_iff_ne.2 notSampling, beq_eq_false_iff_ne.2 notSampling]
    · rw [h.lampCheck, sampling]; rfl
    · rw [h.running, off]
    · rw [h.flash1, off]
    · rw [h.flash2, off]
    · rfl
    · rw [unloaded]; rfl
    · intro p same
      obtain rfl := Option.some.inj same
      split <;> simp_all
    · intro fallback
      have none := h.fallback fallback
      rw [unloaded] at none; cases none
    · rfl
  · exact h

theorem State.StartLawful.endLoad {s : State} (h : s.StartLawful) (memory : MemoryAnswer) : (s.endLoad memory).StartLawful := by
  unfold State.endLoad
  split
  · next loading =>
    have off : s.running = false := by simp [State.running, loading]
    have flash1 := h.flash1
    have flash2 := h.flash2
    have station := h.station
    rw [off] at flash1 flash2
    rw [loading] at station
    refine ⟨rfl, by have := h.running; rwa [off] at this, flash1, flash2, ?_, rfl, fun p same => ?_, fun fallback => ?_, ?_⟩
    · have straps := h.straps; rw [loading] at straps; exact straps
    · simpa using (station p same).1
    · have missed : memory.imageTaken = false := by simpa using fallback
      show some (loadedConfiguration _ _) = _
      rw [loadedConfiguration, missed]
      rfl
    · have pins := h.pins; rw [loading] at pins; exact pins
  · exact h

theorem State.StartLawful.begun {s : State} (h : s.StartLawful) (checking : s.cfl.start = .lampCheck) : s.begun.StartLawful := by
  have station := h.station
  have straps := h.straps
  have config := h.config
  have pins := h.pins
  rw [checking] at station straps pins
  rw [State.running, checking] at config
  exact ⟨rfl, rfl, rfl, rfl, straps, config,
    fun p same => ⟨fun zero => (nomatch (station p same).1 zero), nofun⟩, h.fallback, pins⟩

theorem State.routeAckPress_sameStart (s : State) : s.SameStart s.routeAckPress := by
  rw [State.routeAckPress_eq]
  exact s.takeRoutedPress_course.sameStart.trans {}

theorem State.takeScrollPress_sameStart (s : State) : s.SameStart s.takeScrollPress := by
  unfold State.takeScrollPress State.scrollWindow
  dsimp only
  split
  · split <;> exact {}
  · exact {}

theorem State.event_startLawful (c : Instr) {s : State} (h : s.StartLawful) : (s.event c).StartLawful := by
  cases shared : isCourse c with
  | true => exact h.congr (State.event_course shared s).sameStart
  | false =>
    cases c with
    | reset _ source => exact s.startLawful_holdReset source
    | resetRelease _ straps => exact h.release straps
    | loadEnd _ _ _ => exact h.endLoad _
    | lampCheckTimerExpiry =>
      show s.run.StartLawful
      obtain ⟨checking, begun⟩ | ⟨-, same⟩ := s.run_cases
      · rw [begun]; exact (h.begun checking).congr (State.firstEvaluation_course _).sameStart
      · rwa [same]
    | keyChange => exact h.congr (.trans {} s.takeKey_course.sameStart)
    | acknowledgePress part =>
      cases part with
      | whole => exact h.congr (s.routeAckPress_sameStart.trans (State.takeRoutedPress_course _).sameStart)
      | routing => exact h.congr s.routeAckPress_sameStart
      | taking => cases shared
    | flashPhaseEnd g =>
      cases g with
      | f1 => exact h.congr { f1 := Option.isSome_map }
      | f2 => exact h.congr { f2 := Option.isSome_map }
    | scrollPress => exact h.congr s.takeScrollPress_sameStart
    | buttonRelease button => cases button <;> exact h.congr {}
    | inputLevelChange _ _ | testPress | testRelease | dimmerChange | reminderTimerExpiry | oneShotEnd | scrollReturnExpiry =>
      exact h.congr {}
    | _ => cases shared

/-! ### The configuration -/

theorem State.Configured.congr {s u : State} (h : s.Configured) (cfl : u.cfl = s.cfl) : u.Configured := by
  rw [State.Configured, State.own_of_cfl cfl, cfl]; exact h

theorem State.event_configured (c : Instr) {s : State} (h : s.Configured) (start : s.StartLawful) :
    (s.event c).Configured := by
  cases c with
  | reset _ source => cases source <;> exact fun c loaded => by cases loaded
  | resetRelease _ straps =>
    show (s.release straps).Configured
    unfold State.release
    split
    · next sampling =>
      intro c loaded
      have unloaded := start.unloaded (by simp [sampling]) (by simp [sampling])
      have loaded : s.cfl.config = some c := loaded
      rw [unloaded] at loaded; cases loaded
    · exact h
  | loadEnd _ acks memory =>
    show (s.endLoad _).Configured
    unfold State.endLoad
    split
    · intro c loaded
      obtain rfl := Option.some.inj loaded
      exact loadedConfigurationIsInRange _ _
    · exact h
  | lampCheckTimerExpiry =>
    show s.run.Configured
    obtain ⟨-, begun⟩ | ⟨-, same⟩ := s.run_cases
    · rw [begun]
      exact State.Configured.congr (s := s.begun) h (State.firstEvaluation_cfl _)
    · rwa [same]
  | _ => exact h.congr (State.event_cfl rfl s)

/-- Settles O50: outside RUNNING no event reaches a block at rest, and the start state changes by its own commands only. -/
theorem stepKeepsTheStartLawful : Obligations.StepKeepsTheStartLawful := by
  intro s u inv next
  obtain ⟨pending, rfl⟩ | ⟨c, t, pending, moment, rfl⟩ := step_next_cases next
  · exact ⟨⟨fun h => { inv.quiet.1 h with }, inv.quiet.2⟩, { inv.start with }, inv.configured⟩
  · have start : ({ s with pending := pending } : State).StartLawful := { inv.start with }
    exact ⟨State.event_quiet ⟨fun h => { inv.quiet.1 h with }, inv.quiet.2⟩ start moment,
      State.event_startLawful c { start with }, State.event_configured c inv.configured { start with }⟩

end Sys2Proof.Machine
end

section
/-! PROOFS. What each operation makes of the block it belongs to: the SFU, the SDM, the ASU, the CRU and the SSV, one equation per
operation. -/

namespace Sys2Proof.Machine

open Sys2Proof

-- One proof after another: the many small proofs below, each on a thread of its own, would reserve more stacks than the check allows.
set_option Elab.async false

/-! ### The SFU (chapter 2) -/

theorem State.sfuCompute_sfu (s : State) : s.sfuCompute.sfu = s.sfu.computed s.cfg := by simp [State.sfuCompute]

theorem State.sfuPublished_sfu (s : State) (k : Fin 4) (after : EntryState) (payload : Option (List Byte)) :
    (s.sfuPublished k after payload).sfu =
      ({ s.sfu with slots := s.sfu.slots.set k ((s.sfu.slots.get k).published after payload) } : Sfu).computed s.cfg :=
  State.sfuCompute_sfu _

theorem State.sfuGrace_sfu (s : State) : s.sfuGrace.sfu = { s.sfu with
    graceExpired := true, noSpeedRaised := if s.sfu.speedState = .unknown then true else s.sfu.noSpeedRaised } := by
  unfold State.sfuGrace
  dsimp only
  split <;> simp

/-! ### The SDM (chapter 3) -/

/-- The level and the re-arm flag after an evaluation (R55, R61). -/
def Sdm.evaluated (c : Configuration) (d : Sdm) : Sdm :=
  let after := levelAfter c.warnBand c.returnHyst d.level d.fused d.limits.permitted
  { d with level := after, rearm := rearmAfter d.level after d.rearm }

/-- A fused speed taken (R44, R46, R49). -/
def Sdm.handed (mph : Bool) (c : Configuration) (fused : Option Nat) (d : Sdm) : Sdm :=
  let shown := displayedAfter mph c.standstill c.hysteresis d.displayed fused
  ({ d with fused := fused, displayed := shown, lit := litSegments c.arcScale shown } : Sdm).evaluated c

/-- New limits taken (R44, R50, R52, R53). -/
def Sdm.limited (mph : Bool) (c : Configuration) (limits : Limits) (d : Sdm) : Sdm :=
  ({ d with
    limits := limits
    permittedMarker := markerAt mph c.arcScale limits.permitted
    targetMarker := markerAt mph c.arcScale limits.target
    targetReadout := limits.target.map (inDisplayUnit mph)
    bar := barSegments c.barScale limits.distance } : Sdm).evaluated c

theorem State.evaluateOverspeed_sdm (s : State) : s.evaluateOverspeed.sdm = s.sdm.evaluated s.cfg := by
  unfold State.evaluateOverspeed
  simp only [State.toneIssueOpt_sdm]
  rfl

theorem State.sdmHandOff_sdm (s : State) (fused : Option Nat) :
    (s.sdmHandOff fused).sdm = s.sdm.handed s.mph s.cfg fused := State.evaluateOverspeed_sdm _

theorem State.sdmLimits_sdm (s : State) (limits : Limits) :
    (s.sdmLimits limits).sdm = s.sdm.limited s.mph s.cfg limits := State.evaluateOverspeed_sdm _

theorem State.sfuCompute_sdm (s : State) :
    s.sfuCompute.sdm = s.sdm.handed s.mph s.cfg (s.sfu.computed s.cfg).fused := by
  unfold State.sfuCompute
  rw [State.sdmHandOff_sdm, State.mph_of_cfl (State.requests_cfl _ _), State.cfg_of_cfl (State.requests_cfl _ _),
    State.requests_sdm]
  rfl

theorem State.sfuPublished_sdm (s : State) (k : Fin 4) (after : EntryState) (payload : Option (List Byte)) :
    (s.sfuPublished k after payload).sdm = s.sdm.handed s.mph s.cfg (s.sfuPublished k after payload).sfu.fused := by
  rw [State.sfuPublished_sfu]
  exact State.sfuCompute_sdm _

/-! ### The ASU (chapter 4) -/

theorem State.reselect_asu (s : State) : s.reselect.asu = s.asu.reselected s.own s.cfg s.now := by
  unfold State.reselect
  dsimp only
  rw [State.asuIndicate_asu]
  split <;> simp

theorem State.reselect_sdm (s : State) : s.reselect.sdm =
    if s.reselect.asu.shown.limits = s.asu.shown.limits then s.sdm
    else s.sdm.limited s.mph s.cfg s.reselect.asu.shown.limits := by
  rw [State.reselect_asu]
  unfold State.reselect
  dsimp only
  rw [State.asuIndicate_sdm]
  split
  · exact State.requests_sdm _ _
  · rw [State.sdmLimits_sdm, State.mph_of_cfl (State.requests_cfl _ _), State.cfg_of_cfl (State.requests_cfl _ _),
      State.requests_sdm]
    rfl

/-- The views after a publication (R67). -/
def Asu.withView (a : Asu) (secondary : Bool) (station : Nat) (after : EntryState) (payload : Option (List Byte)) : Asu :=
  if secondary then { a with secondary := a.secondary.published station after payload }
  else { a with primary := a.primary.published station after payload }

theorem State.asuPublished_eq (s : State) (secondary : Bool) (station : Nat) (after : EntryState)
    (payload : Option (List Byte)) : s.asuPublished secondary station after payload =
      ({ s with asu := s.asu.withView secondary station after payload } : State).reselect := by
  cases secondary <;> rfl

theorem State.disagreementExpiry_asu (s : State) :
    s.disagreementExpiry.asu = { s.asu with disagreeAt := none, disagreeRaised := true } := rfl

theorem State.closeRecord_asu (s : State) :
    s.closeRecord.asu = { s.asu with pendingAck := none, ackAt := none, repeatAt := none } := rfl

theorem State.announceOverdue_asu (s : State) (r : PendingAck) (time : Nat) :
    (s.announceOverdue r time).asu = { s.asu with repeatAt := some (s.now + ms overdueRepeatMs) } := by
  simp [State.announceOverdue, State.inMs]

/-- The repeat timer after an OVERDUE frame, where the role is ACTIVE. -/
def Asu.announced (a : Asu) (role : Role) (now : Time) : Asu :=
  if role = .active then { a with repeatAt := some (now + ms overdueRepeatMs) } else a

theorem State.acknowledgementExpiry_asu (s : State) : s.acknowledgementExpiry.asu =
    (match s.asu.pendingAck with
     | none => { s.asu with ackAt := none }
     | some r => ({ s.asu with pendingAck := some { r with overdue := true }, ackAt := none } : Asu).announced s.cru.role
         s.now) := by
  unfold State.acknowledgementExpiry Asu.announced
  cases s.asu.pendingAck with
  | none => rfl
  | some r =>
    dsimp only
    split
    · rw [State.announceOverdue_asu]; rfl
    · rfl

theorem State.repeatExpiry_asu (s : State) : s.repeatExpiry.asu =
    if s.asu.isOverdue = true ∧ s.cru.role = .active then { s.asu with repeatAt := some (s.now + ms overdueRepeatMs) }
    else { s.asu with repeatAt := none } := by
  unfold State.repeatExpiry Asu.isOverdue
  dsimp only
  cases s.asu.pendingAck with
  | none => simp
  | some r =>
    simp only [Bool.and_eq_true, beq_iff_eq]
    split
    · rw [State.announceOverdue_asu]
    · rfl

theorem State.asuEntersActive_asu (s : State) : s.asuEntersActive.asu =
    if s.asu.isOverdue = true then { s.asu with repeatAt := some (s.now + ms overdueRepeatMs) } else s.asu := by
  unfold State.asuEntersActive Asu.isOverdue
  cases s.asu.pendingAck with
  | none => simp
  | some r =>
    dsimp only
    split
    · rw [State.announceOverdue_asu]
    · rfl

/-- The record closed, or nothing (R81, R82). -/
theorem State.asuPress_asu (s : State) :
    s.asuPress.asu = { s.asu with pendingAck := none, ackAt := none, repeatAt := none } ∨ s.asuPress.asu = s.asu := by
  unfold State.asuPress
  split
  · exact .inr rfl
  · split
    · exact .inl (by rw [State.handFrame_asu]; rfl)
    · exact .inr rfl

theorem State.asuPeerAckn_asu (s : State) (station : Nat) (inst : InstanceNo) :
    (s.asuPeerAckn station inst).asu = { s.asu with pendingAck := none, ackAt := none, repeatAt := none } ∨
      (s.asuPeerAckn station inst).asu = s.asu := by
  unfold State.asuPeerAckn
  split
  · exact .inr rfl
  · split
    · exact .inl rfl
    · exact .inr rfl

/-- The repeat timer at a change of role (R80): started for an overdue record as the role enters ACTIVE, stopped as it leaves. -/
def Asu.roleChanged (a : Asu) (old role : Role) (now : Time) : Asu :=
  if role = .active then (if a.isOverdue = true then { a with repeatAt := some (now + ms overdueRepeatMs) } else a)
  else if old = .active then { a with repeatAt := none }
  else a

theorem State.enterRole_asu (s : State) (role : Role) :
    (s.enterRole role).asu = s.asu.roleChanged s.cru.role role s.now := by
  unfold State.enterRole Asu.roleChanged
  dsimp only
  split
  · rw [State.asuEntersActive_asu]; rfl
  · split
    · rw [State.pruneQueue_asu]; rfl
    · rfl

theorem State.evaluateRole_asu (s : State) (expiry : Bool) : (s.evaluateRole expiry).asu =
    if s.cru.nextRole expiry = s.cru.role then s.asu
    else s.asu.roleChanged s.cru.role (s.cru.nextRole expiry) s.now := by
  unfold State.evaluateRole
  dsimp only
  split
  · simp
  · simp [State.enterRole_asu]

theorem State.firstEvaluation_asu (s : State) : s.firstEvaluation.asu =
    if ({ s.cru with keyOn := s.diu.key.taken } : Cru).nextRole false = s.cru.role then s.asu
    else s.asu.roleChanged s.cru.role (({ s.cru with keyOn := s.diu.key.taken } : Cru).nextRole false) s.now := by
  unfold State.firstEvaluation
  dsimp only
  rw [State.handDesk_asu, apply_ite State.asu, State.flmRaise_asu, ite_self, State.peerConflictTest_asu]
  split
  · rfl
  · simp [State.enterRole_asu]

/-! ### The CRU (chapter 6) -/

theorem State.takeRole_cru (s : State) (role : Role) : (s.takeRole role).cru =
    { s.cru with role := role, claimAt := if role = .claiming then some (s.now + ms s.cfg.claimMs) else none } := rfl

theorem State.enterRole_cru (s : State) (role : Role) : (s.enterRole role).cru = (s.takeRole role).cru := by
  unfold State.enterRole
  dsimp only
  split
  · exact State.asuEntersActive_cru _
  · split
    · exact State.pruneQueue_cru _
    · rfl

theorem State.peerConflictTest_cru (s : State) :
    s.peerConflictTest.cru = { s.cru with peerConflictRaised := s.cru.seesConflict } := by
  unfold State.peerConflictTest
  dsimp only
  split
  · next same => rw [same]
  · split <;> simp

/-- The CRU after a change of role: the role, its claim window, the DESK period from now, the conflict flag. -/
def Cru.changed (c : Cru) (role : Role) (now : Time) (claimMs deskPeriodMs : Nat) : Cru :=
  let taken := { c with role := role, claimAt := if role = Role.claiming then some (now + ms claimMs) else none }
  { taken with
    peerConflictRaised := taken.seesConflict, deskAt := some (now + ms deskPeriodMs), deskDue := c.dueAt now }

theorem State.evaluateRole_cru (s : State) (expiry : Bool) : (s.evaluateRole expiry).cru =
    if s.cru.nextRole expiry = s.cru.role then { s.cru with peerConflictRaised := s.cru.seesConflict }
    else s.cru.changed (s.cru.nextRole expiry) s.now s.cfg.claimMs s.cfg.deskPeriodMs := by
  unfold State.evaluateRole
  dsimp only
  split
  · exact s.peerConflictTest_cru
  · simp only [State.handDesk_cru, State.peerConflictTest_cru, State.conflictRecord_cru, State.enterRole_cru,
      State.takeRole_cru, State.peerConflictTest_now, State.conflictRecord_now, State.enterRole_now]
    rw [State.cfg_of_cfl (t := ((s.enterRole _).conflictRecord _).peerConflictTest) (s := s) (by simp)]
    rfl

theorem State.firstEvaluation_cru (s : State) :
    s.firstEvaluation.cru =
      let keyed := { s.cru with keyOn := s.diu.key.taken }
      if keyed.nextRole false = s.cru.role then { keyed with
        peerConflictRaised := keyed.seesConflict, deskAt := some (s.now + ms s.cfg.deskPeriodMs), deskDue := keyed.dueAt s.now }
      else keyed.changed (keyed.nextRole false) s.now s.cfg.claimMs s.cfg.deskPeriodMs := by
  unfold State.firstEvaluation
  dsimp only
  rw [State.handDesk_cru]
  have keeps (r : State) : (if s.cfl.fallback then r.flmRaise 0xF060 .stop else r).cru = r.cru := by split <;> simp
  have keepsNow (r : State) : (if s.cfl.fallback then r.flmRaise 0xF060 .stop else r).now = r.now := by split <;> simp
  have keepsCfl (r : State) : (if s.cfl.fallback then r.flmRaise 0xF060 .stop else r).cfl = r.cfl := by split <;> simp
  rw [keeps, keepsNow, State.cfg_of_cfl (keepsCfl _)]
  split
  · rw [State.peerConflictTest_cru, State.cfg_of_cfl (State.peerConflictTest_cfl _)]
    simp only [State.peerConflictTest_now]
    rfl
  · rw [State.peerConflictTest_cru, State.cfg_of_cfl (State.peerConflictTest_cfl _)]
    simp only [State.conflictRecord_cru, State.enterRole_cru, State.takeRole_cru, State.peerConflictTest_now,
      State.conflictRecord_now, State.enterRole_now]
    rw [State.cfg_of_cfl (t := (State.enterRole _ _).conflictRecord _) (s := s) (by simp)]
    rfl

/-- The peers after a publication (R115). -/
def Cru.withPeer (c : Cru) (k : Fin 3) (after : EntryState) (payload : Option (List Byte)) : Cru :=
  { c with peers := c.peers.set k ((c.peers.get k).published after payload) }

/-! ### The SSV (chapter 1) -/

theorem State.entryEvent_ssv (s : State) (i : Fin 24) (r : EntryResult) (payload : List Byte) :
    (s.entryEvent i r payload).ssv = { s.ssv with entries := s.ssv.entries.set i r.entry } := by
  rw [State.entryEvent_cases]
  split <;> simp

end Sys2Proof.Machine
end

section
/-! PROOFS. The shape of a step from a state that meets the invariants: nothing, or an event at its moment; an event ends at rest,
begins RUNNING, or takes place in RUNNING. -/

namespace Sys2Proof.Machine

open Sys2Proof

-- One proof after another: the many small proofs below, each on a thread of its own, would reserve more stacks than the check allows.
set_option Elab.async false

/-! ### The invariants do not read the waiting commands, and hold on as time passes -/

theorem State.Inv.withPending {s : State} (h : s.Inv) (pending : List Instr) : ({ s with pending := pending } : State).Inv where
  quiet := ⟨fun still => { h.quiet.1 still with }, h.quiet.2⟩
  start := { h.start with }
  configured := h.configured
  sources := h.sources
  consumers := h.consumers
  fusion := { h.fusion with }
  ranges := { h.ranges with }
  display := { h.display with }
  aspect := { h.aspect with }
  faults := h.faults
  window := h.window
  role := { h.role with }
  inputs := { h.inputs with }
  indications := { h.indications with }
  tone := h.tone
  line := { h.line with }
  urgent := h.urgent
  latch := h.latch

theorem State.le_reach_now (s : State) (t : Time) : s.now ≤ (s.reach t).now := Nat.le_max_left ..

theorem State.Inv.reach {s : State} (h : s.Inv) (t : Time) : (s.reach t).Inv where
  quiet := ⟨fun still => { h.quiet.1 still with }, h.quiet.2⟩
  start := { h.start with }
  configured := h.configured
  sources := h.sources
  consumers := h.consumers
  fusion := { h.fusion with }
  ranges := { h.ranges with }
  display := { h.display with }
  aspect := { h.aspect with }
  faults := h.faults
  window := h.window
  role := { h.role with due := fun e due => ⟨(h.role.due e due).1, Nat.le_trans (h.role.due e due).2 (s.le_reach_now t)⟩ }
  inputs := { h.inputs with }
  indications := { h.indications with }
  tone := h.tone
  line := { h.line with
    entered := fun q mem => Nat.le_trans (h.line.entered q mem) (s.le_reach_now t)
    begun := ⟨fun e driven => Nat.le_trans (h.line.begun.1 e driven) (s.le_reach_now t),
      fun e idle => Nat.le_trans (h.line.begun.2 e idle) (s.le_reach_now t)⟩ }
  urgent := h.urgent
  latch := h.latch

/-- The moment of a command is reached, and is its moment still. -/
theorem State.moment_reach {s : State} {c : Instr} {t : Time} (h : s.moment c = some t) : (s.reach t).moment c = some t := by
  cases c with
  | acknowledgePress part =>
    cases part with
    | taking =>
      obtain rfl : s.now = t := Option.some.inj h
      rw [State.reach_now]
      rfl
    | _ => exact h
  | buttonRelease button => cases button <;> exact h
  | flashPhaseEnd g => cases g <;> exact h
  | _ => exact h

/-- What a step keeps: what holds of the invariants, and what every event gives at its moment. -/
theorem State.Inv.step {P : State → Prop} {s u : State} (inv : s.Inv) (next : Machine.step s = .next u)
    (idle : ∀ s : State, s.Inv → P s)
    (act : ∀ (c : Instr) (s : State) (t : Time), s.Inv → s.moment c = some t → t ≤ s.now → P (s.event c)) : P u := by
  obtain ⟨pending, rfl⟩ | ⟨c, t, pending, moment, rfl⟩ := step_next_cases next
  · exact idle _ (inv.withPending pending)
  · exact act c _ t ((inv.withPending pending).reach t) (State.moment_reach moment) (Nat.le_max_right ..)

/-! ### An event by the start state -/

/-- The commands of the start. -/
def isStart (c : Instr) : Bool :=
  match c with
  | .reset _ _ | .resetRelease _ _ | .loadEnd _ _ _ | .lampCheckTimerExpiry => true
  | _ => false

theorem State.event_cases {c : Instr} {s : State} {t : Time} (inv : s.Inv) (moment : s.moment c = some t) (reached : t ≤ s.now) :
    ((s.event c).cfl.start ≠ .running ∧ (s.event c).AtRest) ∨ s.event c = s ∨ (s.cfl.start = .lampCheck ∧ s.event c = s.begun.firstEvaluation) ∨
      (s.cfl.start = .running ∧ isStart c = false) := by
  have quiet : (s.event c).Quiet := by
    have same : s.reach t = s := by rw [State.reach, Nat.max_eq_left reached]
    rw [← same]
    exact State.event_quiet inv.quiet inv.start moment
  by_cases running : s.cfl.start = .running
  · cases start : isStart c with
    | false => exact .inr (.inr (.inr ⟨running, rfl⟩))
    | true =>
      cases c with
      | reset _ source => exact .inl ⟨by cases source <;> simp [State.event, State.holdReset, State.resetBlocks, State.reset, Cfl.reset], s.atRest_holdReset source⟩
      | resetRelease _ straps => exact .inr (.inl (by simp [State.event, State.release, running]))
      | loadEnd _ _ _ => exact .inr (.inl (by simp [State.event, State.endLoad, running]))
      | lampCheckTimerExpiry => exact .inr (.inl (by simp [State.event, State.run, running]))
      | _ => cases start
  · by_cases begins : (s.event c).cfl.start = .running
    · cases c with
      | lampCheckTimerExpiry =>
        obtain ⟨checking, begun⟩ | ⟨-, same⟩ := s.run_cases
        · exact .inr (.inr (.inl ⟨checking, begun⟩))
        · exact .inr (.inl same)
      | reset _ source => exact .inl ⟨by cases source <;> simp [State.event, State.holdReset, State.resetBlocks, State.reset, Cfl.reset], s.atRest_holdReset source⟩
      | resetRelease _ straps =>
        have off := s.running_release straps
        rw [State.running, State.running, beq_eq_false_iff_ne.2 running] at off
        exact absurd begins (beq_eq_false_iff_ne.1 off)
      | loadEnd _ _ _ =>
        have begins : (s.endLoad _).cfl.start = .running := begins
        unfold State.endLoad at begins
        split at begins
        · cases begins
        · exact absurd begins running
      | _ => exact absurd (by rwa [State.event_cfl rfl] at begins) running
    · exact .inl ⟨begins, quiet.1 begins⟩

end Sys2Proof.Machine
end

section
/-! PROOFS. What every step keeps of the source entries and of the consumers they feed (R4, R5, R9 to R23, R26, R67, R115). -/

namespace Sys2Proof.Machine

open Sys2Proof

-- One proof after another: the many small proofs below, each on a thread of its own, would reserve more stacks than the check allows.
set_option Elab.async false

/-! ### What each event makes of an entry -/

theorem Entry.lawful_reset (c : SourceConfig) : Entry.reset.Lawful c := ⟨fun _ => rfl, rfl⟩

section
variable {e : Entry} {c : SourceConfig}

/-- An entry with a running late timer is configured. -/
theorem Entry.Lawful.enabled (h : e.Lawful c) (timed : e.lateAt.isSome = true) : c.enabled = true := by
  refine Decidable.byContradiction fun disabled => ?_
  rw [h.1 (Bool.eq_false_iff.2 disabled)] at timed
  cases timed

theorem absurd_of_disabled {p : Prop} (enabled : c.enabled = true) (disabled : c.enabled = false) : p := by
  rw [enabled] at disabled
  cases disabled

theorem Entry.lawful_lose (enabled : c.enabled = true) {report : Bool} (reported : (e.lossReported || report) = true) :
    (e.lose report).entry.Lawful c := by
  refine ⟨fun disabled => absurd_of_disabled enabled disabled, ?_⟩
  simp [Entry.lose, reported, Entry.reset]

/-- A violation of a present entry: SUSPECT below the loss limit, LOST at it (R15). -/
theorem Entry.lawful_violate (enabled : c.enabled = true) (timed : e.lateAt.isSome = true) (seq : e.lastSeq.isSome = true)
    (accepted : e.lastAccepted.isSome = true) (below : e.violations < c.lossLimit) (unreported : e.lossReported = false)
    (used : Bool) : (e.violate c used).entry.Lawful c := by
  unfold Entry.violate
  split
  · exact Entry.lawful_lose enabled (Bool.or_true _)
  · next reached =>
    exact ⟨fun disabled => absurd_of_disabled enabled disabled,
      timed, seq, accepted, Nat.succ_pos _, Nat.lt_of_le_of_ne below reached, unreported⟩

/-- The qualifying progress reaches a number up to the qualifying count (R11, R13, R19). -/
theorem Entry.lawful_qualify (enabled : c.enabled = true) (timed : e.lateAt.isSome = true) (seq : e.lastSeq.isSome = true)
    (accepted : e.lastAccepted.isSome = true) (clean : e.violations = 0) {progress : Nat} (least : progress ≤ c.qualCount) :
    (e.qualify c progress).entry.Lawful c := by
  unfold Entry.qualify
  split
  · exact ⟨fun disabled => absurd_of_disabled enabled disabled, timed, seq, accepted, rfl, rfl⟩
  · exact ⟨fun disabled => absurd_of_disabled enabled disabled, timed, seq, accepted, clean,
      Nat.lt_of_le_of_ne least ‹_›⟩

/-- An accepted arrival is used, or counted, or a violation (R11, R13, R15, R16, R19). -/
theorem Entry.Lawful.accepted (h : e.Lawful c) (range : c.inRange) (enabled : c.enabled = true) (now : Time) (seq : Seq) :
    (e.accepted c now seq).entry.Lawful c := by
  obtain ⟨-, -, -, -, limit, qual, -⟩ := range
  obtain ⟨-, lawful⟩ := h
  unfold Entry.accepted
  dsimp only
  cases state : e.state with
  | absent =>
    rw [state] at lawful
    exact Entry.lawful_qualify (e := e.accept c now seq) enabled rfl rfl rfl (by rw [show e = _ from lawful]; rfl) qual
  | lost =>
    rw [state] at lawful
    exact Entry.lawful_qualify (e := e.accept c now seq) enabled rfl rfl rfl (by rw [show e = _ from lawful]; rfl) qual
  | qualifying =>
    rw [state] at lawful
    obtain ⟨-, -, -, clean, below⟩ := lawful
    dsimp only
    split
    · refine ⟨fun disabled => absurd_of_disabled enabled disabled, ?_⟩
      simp only [Entry.only, Entry.accept, state]
      exact ⟨rfl, rfl, rfl, clean, qual⟩
    · exact Entry.lawful_qualify (e := e.accept c now seq) enabled rfl rfl rfl clean below
  | valid =>
    rw [state] at lawful
    obtain ⟨-, -, -, clean, unreported⟩ := lawful
    dsimp only
    split
    · exact Entry.lawful_violate (e := e.accept c now seq) enabled rfl rfl rfl (show e.violations < _ by omega) unreported _
    · refine ⟨fun disabled => absurd_of_disabled enabled disabled, ?_⟩
      simp only [Entry.accept, state]
      exact ⟨rfl, rfl, rfl, clean, unreported⟩
  | suspect =>
    rw [state] at lawful
    obtain ⟨-, -, -, -, below, unreported⟩ := lawful
    dsimp only
    split
    · exact Entry.lawful_violate (e := e.accept c now seq) enabled rfl rfl rfl below unreported _
    · exact ⟨fun disabled => absurd_of_disabled enabled disabled, rfl, rfl, rfl, rfl, unreported⟩

/-- An early arrival sets the progress back or is a violation (R8). -/
theorem Entry.Lawful.tooEarly (h : e.Lawful c) (range : c.inRange) (enabled : c.enabled = true) :
    (e.tooEarly c).entry.Lawful c := by
  obtain ⟨-, -, -, -, limit, qual, -⟩ := range
  have lawful := h.2
  unfold Entry.tooEarly
  cases state : e.state with
  | qualifying =>
    rw [state] at lawful
    obtain ⟨timed, seq, accepted, clean, -⟩ := lawful
    refine ⟨fun disabled => absurd_of_disabled enabled disabled, ?_⟩
    simp only [Entry.only]
    exact ⟨timed, seq, accepted, clean, qual⟩
  | valid =>
    rw [state] at lawful
    obtain ⟨timed, seq, accepted, clean, unreported⟩ := lawful
    exact Entry.lawful_violate enabled timed seq accepted (by omega) unreported _
  | suspect =>
    rw [state] at lawful
    obtain ⟨timed, seq, accepted, -, below, unreported⟩ := lawful
    exact Entry.lawful_violate enabled timed seq accepted below unreported _
  | absent | lost => exact h

theorem Entry.Lawful.arrive (h : e.Lawful c) (range : c.inRange) (enabled : c.enabled = true) (now : Time) (seq : Seq) :
    (e.arrive c now seq).entry.Lawful c := by
  unfold Entry.arrive
  split
  · exact h
  · split
    · exact h.tooEarly range enabled
    · exact h.accepted range enabled now seq

/-- The expiry of a running late timer loses a QUALIFYING entry and is a violation of a present one (R14, R17). -/
theorem Entry.Lawful.late (h : e.Lawful c) (range : c.inRange) (timed : e.lateAt.isSome = true) (now : Time) :
    (e.late c now).entry.Lawful c := by
  have enabled := h.enabled timed
  obtain ⟨-, -, -, -, limit, -, -⟩ := range
  obtain ⟨-, lawful⟩ := h
  unfold Entry.late
  cases state : e.state with
  | qualifying => exact Entry.lawful_lose enabled (by cases e.lossReported <;> rfl)
  | valid =>
    rw [state] at lawful
    obtain ⟨-, seq, accepted, clean, unreported⟩ := lawful
    exact Entry.lawful_violate (e := { e with lateAt := some (now + ms c.upperMs) }) enabled rfl seq accepted (show e.violations < _ by omega)
      unreported _
  | suspect =>
    rw [state] at lawful
    obtain ⟨-, seq, accepted, -, below, unreported⟩ := lawful
    exact Entry.lawful_violate (e := { e with lateAt := some (now + ms c.upperMs) }) enabled rfl seq accepted below unreported _
  | absent => rw [state] at lawful; rw [show e = _ from lawful] at timed; cases timed
  | lost => rw [state] at lawful; rw [show e = _ from lawful] at timed; cases timed

end

/-! ### What a consumer holds of its entry -/

/-- The state that the consumer of an entry with these settings holds for it; the Fault List holds none. -/
def State.heldFor (s : State) (c : SourceConfig) : Option EntryState :=
  match c.kind with
  | .speed => some (s.sfu.slots.get (Fin.ofNat 4 c.roleIndex)).state
  | .aspect => some (if c.roleIndex ≠ 0 then s.asu.secondary.state else s.asu.primary.state)
  | .desk => some (s.cru.peers.get (Fin.ofNat 3 c.roleIndex)).state
  | .fault => none

theorem State.consumersFollow_iff {s : State} : s.ConsumersFollow ↔
    ∀ i : Fin 24, (s.source i).enabled = true → ∀ e, s.heldFor (s.source i) = some e → e = (s.ssv.entries.get i).state := by
  refine forall_congr' fun i => imp_congr_right fun _ => ?_
  unfold State.heldFor
  cases (s.source i).kind <;> simp

/-- Two states whose consumers hold the same of the entries' states. -/
structure State.SameHeld (s u : State) : Prop where
  slots     : ∀ k : Fin 4, (u.sfu.slots.get k).state = (s.sfu.slots.get k).state := by exact fun _ => rfl
  primary   : u.asu.primary.state = s.asu.primary.state := by rfl
  secondary : u.asu.secondary.state = s.asu.secondary.state := by rfl
  peers     : u.cru.peers = s.cru.peers := by rfl

theorem State.SameHeld.trans {s t u : State} (h : s.SameHeld t) (k : t.SameHeld u) : s.SameHeld u where
  slots i := (k.slots i).trans (h.slots i)
  primary := k.primary.trans h.primary
  secondary := k.secondary.trans h.secondary
  peers := k.peers.trans h.peers

theorem State.SameHeld.heldFor {s u : State} (h : s.SameHeld u) (c : SourceConfig) : u.heldFor c = s.heldFor c := by
  unfold State.heldFor
  cases c.kind <;> simp [h.slots, h.primary, h.secondary, h.peers]

theorem vector_get_set {α : Type} {n : Nat} (v : Vector α n) (i j : Fin n) (x : α) :
    (v.set i x).get j = if i = j then x else v.get j := by
  simp only [vector_get_eq_getElem, Vector.getElem_set]
  simp only [Fin.ext_iff]

theorem Sfu.computed_state (u : Sfu) (c : Configuration) (k : Fin 4) :
    ((u.computed c).slots.get k).state = (u.slots.get k).state := by
  simp [Sfu.computed, vector_get_eq_getElem]

theorem Slot.published_state (slot : Slot) (after : EntryState) (payload : Option (List Byte)) :
    (slot.published after payload).state = after := by
  unfold Slot.published; split <;> rfl

theorem SourceView.published_state (v : SourceView) (station : Nat) (after : EntryState) (payload : Option (List Byte)) :
    (v.published station after payload).state = after := by
  unfold SourceView.published; split <;> rfl

theorem PeerView.published_state (v : PeerView) (after : EntryState) (payload : Option (List Byte)) :
    (v.published after payload).state = after := by
  unfold PeerView.published; split <;> rfl

theorem State.sameHeld_reselect (s : State) : s.SameHeld s.reselect where
  slots k := by simp
  primary := by rw [State.reselect_asu]; rfl
  secondary := by rw [State.reselect_asu]; rfl
  peers := by simp

/-- Two states of the ASU with the same inputs and the same displayed aspect. -/
structure Asu.SameViews (a b : Asu) : Prop where
  primary      : b.primary = a.primary := by rfl
  secondary    : b.secondary = a.secondary := by rfl
  shown        : b.shown = a.shown := by rfl
  graceExpired : b.graceExpired = a.graceExpired := by rfl

theorem Asu.SameViews.trans {a b d : Asu} (h : a.SameViews b) (k : b.SameViews d) : a.SameViews d where
  primary := k.primary.trans h.primary
  secondary := k.secondary.trans h.secondary
  shown := k.shown.trans h.shown
  graceExpired := k.graceExpired.trans h.graceExpired

theorem Asu.roleChanged_sameViews (a : Asu) (old role : Role) (now : Time) : a.SameViews (a.roleChanged old role now) := by
  unfold Asu.roleChanged
  split <;> split <;> exact {}

theorem State.evaluateRole_sameViews (s : State) (expiry : Bool) : s.asu.SameViews (s.evaluateRole expiry).asu := by
  rw [State.evaluateRole_asu]
  split
  · exact {}
  · exact Asu.roleChanged_sameViews _ _ _ _

theorem State.firstEvaluation_sameViews (s : State) : s.asu.SameViews s.firstEvaluation.asu := by
  rw [State.firstEvaluation_asu]
  split
  · exact {}
  · exact Asu.roleChanged_sameViews _ _ _ _

theorem State.sameHeld_of_asu {s u : State} (sfu : u.sfu = s.sfu) (asu : s.asu.SameViews u.asu)
    (peers : u.cru.peers = s.cru.peers) : s.SameHeld u where
  slots k := by rw [sfu]
  primary := by rw [asu.primary]
  secondary := by rw [asu.secondary]
  peers := peers

theorem State.sameHeld_evaluateRole (s : State) (expiry : Bool) : s.SameHeld (s.evaluateRole expiry) :=
  State.sameHeld_of_asu (by simp) (s.evaluateRole_sameViews expiry) (by rw [State.evaluateRole_cru]; split <;> rfl)

theorem State.sameHeld_cruKey (s : State) (on : Bool) : s.SameHeld (s.cruKey on) :=
  .trans (t := { s with cru := { s.cru with keyOn := on } }) {} (State.sameHeld_evaluateRole _ _)

theorem State.sameHeld_firstEvaluation (s : State) : s.SameHeld s.firstEvaluation :=
  State.sameHeld_of_asu (by simp) s.firstEvaluation_sameViews
    (by rw [State.firstEvaluation_cru]; dsimp only; split <;> rfl)

theorem State.sameHeld_of_blocks {s u : State} (sfu : u.sfu = s.sfu) (asu : u.asu = s.asu) (cru : u.cru = s.cru) :
    s.SameHeld u where
  slots k := by rw [sfu]
  primary := by rw [asu]
  secondary := by rw [asu]
  peers := by rw [cru]

theorem State.sameHeld_requests (s : State) (qs : List FaultRequest) : s.SameHeld (s.requests qs) :=
  State.sameHeld_of_blocks (by simp) (by simp) (by simp)

/-- Two role indices of one kind that name the same input are the same. -/
theorem ofNat_inj {n a b : Nat} [NeZero n] (ha : a < n) (hb : b < n) (h : Fin.ofNat n a = Fin.ofNat n b) : a = b := by
  have := congrArg Fin.val h
  simpa [Fin.ofNat, Nat.mod_eq_of_lt ha, Nat.mod_eq_of_lt hb] using this

/-- A publication is held by the consumer it is for (R23). -/
theorem State.heldFor_publish_self (s : State) (c : SourceConfig) (after : EntryState) (payload : Option (List Byte)) :
    ∀ e, (s.publish c after payload).heldFor c = some e → e = after := by
  intro e held
  unfold State.publish State.heldFor at held
  cases kind : c.kind <;> simp only [kind] at held
  case fault => cases held
  case speed =>
    obtain rfl := Option.some.inj held
    rw [State.sfuPublished_sfu, Sfu.computed_state, vector_get_set, if_pos rfl, Slot.published_state]
  case aspect =>
    obtain rfl := Option.some.inj held
    rw [State.asuPublished_eq, (State.sameHeld_reselect _).primary, (State.sameHeld_reselect _).secondary]
    by_cases index : c.roleIndex = 0 <;> simp [Asu.withView, index, SourceView.published_state]
  case desk =>
    obtain rfl := Option.some.inj held
    rw [State.cruPublished, (State.sameHeld_evaluateRole _ _).peers]
    rw [vector_get_set, if_pos rfl, PeerView.published_state]

/-- A publication leaves what is held for entries of another kind or another input (R23). -/
theorem State.heldFor_publish_other (s : State) {c d : SourceConfig} (rc : c.inRange) (rd : d.inRange)
    (other : ¬(c.kind ≠ .fault ∧ c.kind = d.kind ∧ c.roleIndex = d.roleIndex)) (after : EntryState)
    (payload : Option (List Byte)) : (s.publish c after payload).heldFor d = s.heldFor d := by
  have lc := rc.1
  have ld := rd.1
  unfold State.publish
  cases kind : c.kind with
  | fault => exact (State.sameHeld_of_blocks (by simp) (by simp) (by simp)).heldFor d
  | speed =>
    unfold State.heldFor
    cases kind' : d.kind with
    | speed =>
      rw [kind] at lc; rw [kind'] at ld
      have index : ¬c.roleIndex = d.roleIndex := fun same => other ⟨by simp [kind], by rw [kind, kind'], same⟩
      have apart : (Fin.ofNat 4 c.roleIndex : Fin 4) ≠ Fin.ofNat 4 d.roleIndex := fun same => index (ofNat_inj (n := 4) lc ld same)
      simp only [State.sfuPublished_sfu, Sfu.computed_state, vector_get_set, if_neg apart]
    | aspect | desk | fault => simp
  | aspect =>
    unfold State.heldFor
    cases kind' : d.kind with
    | aspect =>
      rw [kind] at lc; rw [kind'] at ld
      have index : ¬c.roleIndex = d.roleIndex := fun same => other ⟨by simp [kind], by rw [kind, kind'], same⟩
      have bounds : c.roleIndex < 2 ∧ d.roleIndex < 2 := ⟨lc, ld⟩
      simp only [State.asuPublished_eq, (State.sameHeld_reselect _).primary, (State.sameHeld_reselect _).secondary]
      by_cases zero : c.roleIndex = 0
      · simp [Asu.withView, zero, show d.roleIndex ≠ 0 by omega]
      · simp [Asu.withView, zero, show d.roleIndex = 0 by omega]
    | speed | desk | fault => simp
  | desk =>
    unfold State.heldFor State.cruPublished
    have kept := State.sameHeld_evaluateRole ({ s with cru := { s.cru with
      peers := s.cru.peers.set (Fin.ofNat 3 c.roleIndex) ((s.cru.peers.get (Fin.ofNat 3 c.roleIndex)).published after payload)
      } } : State) false
    cases kind' : d.kind with
    | desk =>
      rw [kind] at lc; rw [kind'] at ld
      have index : ¬c.roleIndex = d.roleIndex := fun same => other ⟨by simp [kind], by rw [kind, kind'], same⟩
      have apart : (Fin.ofNat 3 c.roleIndex : Fin 3) ≠ Fin.ofNat 3 d.roleIndex := fun same => index (ofNat_inj (n := 3) lc ld same)
      simp only [kept.peers, vector_get_set, if_neg apart]
    | aspect => simp only [kept.primary, kept.secondary]
    | speed | fault => simp

/-! ### An event at an entry -/

/-- Entries lawful and consumers in step, in a configuration in range. -/
structure State.SourcesFollow (s : State) : Prop where
  lawful : s.SourcesLawful
  follow : s.ConsumersFollow
  range  : s.cfg.InRange s.own

theorem State.SourcesFollow.congr {s u : State} (h : s.SourcesFollow) (entries : u.ssv.entries = s.ssv.entries)
    (cfl : u.cfl = s.cfl) (held : s.SameHeld u) : u.SourcesFollow where
  lawful i := by rw [entries, State.source_of_cfl cfl]; exact h.lawful i
  follow := by
    rw [State.consumersFollow_iff]
    intro i
    rw [entries, State.source_of_cfl cfl, held.heldFor]
    exact State.consumersFollow_iff.1 h.follow i
  range := by rw [State.cfg_of_cfl cfl, State.own_of_cfl cfl]; exact h.range

/-- An event at an enabled entry leaves the consumer it feeds in step with it: a change of state is published. -/
theorem State.SourcesFollow.entryEvent {s : State} (h : s.SourcesFollow) {i : Fin 24} {r : EntryResult}
    (enabled : (s.source i).enabled = true) (lawful : r.entry.Lawful (s.source i)) (payload : List Byte) :
    (s.entryEvent i r payload).SourcesFollow where
  lawful j := by
    rw [State.entryEvent_ssv, State.source_of_cfl (State.entryEvent_cfl ..)]
    dsimp only
    rw [vector_get_set]
    split
    · next same => exact same ▸ lawful
    · exact h.lawful j
  follow := by
    rw [State.consumersFollow_iff]
    intro j on e
    rw [State.entryEvent_ssv, State.source_of_cfl (State.entryEvent_cfl ..)] at *
    dsimp only
    rw [State.entryEvent_cases, (State.sameHeld_requests _ _).heldFor, vector_get_set]
    have before := State.consumersFollow_iff.1 h.follow j on e
    by_cases same : i = j
    · subst same
      rw [if_pos rfl]
      split
      · exact State.heldFor_publish_self _ _ _ _ e
      · next kept =>
        have state : r.entry.state = (s.ssv.entries.get i).state := by
          simp only [Bool.or_eq_true, bne_iff_ne, not_or, Decidable.not_not] at kept
          exact kept.2
        rw [state]
        exact before
    · rw [if_neg same]
      split
      · rw [State.heldFor_publish_other (c := s.source i) (d := s.source j) _ (h.range.entries i) (h.range.entries j) (h.range.apart.2 i j same enabled on).2]
        exact before
      · exact before
  range := by
    rw [State.cfg_of_cfl (State.entryEvent_cfl ..), State.own_of_cfl (State.entryEvent_cfl ..)]
    exact h.range

theorem State.entryFor_enabled {s : State} {station : Nat} {kind : SourceKind} {i : Fin 24}
    (h : s.entryFor station kind = some i) : (s.source i).enabled = true := by
  have found := List.find?_some h
  simp only [Bool.and_eq_true] at found
  exact found.1.1

theorem State.SourcesFollow.ssvArrival {s : State} (h : s.SourcesFollow) (f : Frame) : (s.ssvArrival f).SourcesFollow := by
  unfold State.ssvArrival
  split
  · exact h
  · split
    · exact h
    · next i found =>
      have enabled := State.entryFor_enabled found
      exact h.entryEvent enabled ((h.lawful i).arrive (h.range.entries i) enabled _ _) _

theorem State.SourcesFollow.hearFrame {s : State} (h : s.SourcesFollow) (bytes : List Byte) :
    (s.hearFrame bytes).SourcesFollow :=
  h.congr (by simp) (by simp) (State.sameHeld_of_blocks (by simp) (by simp) (by simp))

theorem State.SourcesFollow.graceEntry {s : State} (h : s.SourcesFollow) (i : Fin 24) : (s.graceEntry i).SourcesFollow := by
  unfold State.graceEntry
  split
  · next absent =>
    have enabled : (s.source i).enabled = true := (Bool.and_eq_true_iff.1 absent).1
    exact h.entryEvent enabled (Entry.lawful_lose enabled (Bool.or_true _)) _
  · exact h

theorem State.SourcesFollow.sfuGrace {s : State} (h : s.SourcesFollow) : s.sfuGrace.SourcesFollow :=
  h.congr (by simp) (by simp)
    { slots := fun k => by rw [State.sfuGrace_sfu], primary := by simp, secondary := by simp, peers := by simp }

theorem State.SourcesFollow.asuGrace {s : State} (h : s.SourcesFollow) : s.asuGrace.SourcesFollow :=
  h.congr (by simp) (by simp)
    (.trans (t := { s with asu := { s.asu with graceExpired := true } }) {} (State.sameHeld_reselect _))

theorem State.SourcesFollow.graceExpiry {s : State} (h : s.SourcesFollow) : s.graceExpiry.SourcesFollow := by
  have entries (l : List (Fin 24)) {r : State} (h : r.SourcesFollow) :
      (l.foldl (fun s i => s.graceEntry i) r).SourcesFollow := by
    induction l generalizing r with
    | nil => exact h
    | cons i rest ih => exact ih (h.graceEntry i)
  have flagged : ({ s with ssv := { s.ssv with graceAt := none, graceExpired := true } } : State).SourcesFollow :=
    h.congr rfl rfl {}
  exact (entries (List.finRange 24) flagged).sfuGrace.asuGrace

/-! ### Every step -/

theorem Asu.announced_sameViews (a : Asu) (role : Role) (now : Time) : a.SameViews (a.announced role now) := by
  unfold Asu.announced; split <;> exact {}

theorem State.asuPress_sameViews (s : State) : s.asu.SameViews s.asuPress.asu := by
  obtain closed | same := s.asuPress_asu
  · rw [closed]; exact {}
  · rw [same]; exact {}

theorem State.asuPeerAckn_sameViews (s : State) (station : Nat) (inst : InstanceNo) :
    s.asu.SameViews (s.asuPeerAckn station inst).asu := by
  obtain closed | same := s.asuPeerAckn_asu station inst
  · rw [closed]; exact {}
  · rw [same]; exact {}

theorem State.takeRoutedPress_sameViews (s : State) : s.asu.SameViews s.takeRoutedPress.asu := by
  unfold State.takeRoutedPress
  split
  · next p _ =>
    cases route : p.route with
    | toAsu => exact State.asuPress_sameViews { s with routed := none }
    | toFlm n => rw [State.receivePress, State.flmPress_asu]; exact {}
  · exact {}

theorem State.routeAckPress_sameViews (s : State) : s.asu.SameViews s.routeAckPress.asu := by
  rw [State.routeAckPress_eq]
  exact s.takeRoutedPress_sameViews

theorem State.takeAcknFrame_sameViews (s : State) (f : Frame) : s.asu.SameViews (s.takeAcknFrame f).asu := by
  unfold State.takeAcknFrame State.ssvAckn State.takeAckn
  split
  · split
    · split
      · exact s.asuPeerAckn_sameViews _ _
      · rw [State.flmPeerAckn_asu]; exact {}
    · exact {}
  · exact {}

theorem State.acknowledgementExpiry_sameViews (s : State) : s.asu.SameViews s.acknowledgementExpiry.asu := by
  rw [State.acknowledgementExpiry_asu]
  split
  · exact {}
  · exact .trans (b := { s.asu with pendingAck := _, ackAt := none }) {} (Asu.announced_sameViews _ _ _)

theorem State.repeatExpiry_sameViews (s : State) : s.asu.SameViews s.repeatExpiry.asu := by
  rw [State.repeatExpiry_asu]
  split <;> exact {}

theorem State.cruKey_sameViews (s : State) (on : Bool) : s.asu.SameViews (s.cruKey on).asu :=
  State.evaluateRole_sameViews { s with cru := { s.cru with keyOn := on } } false

theorem State.takeKey_sameViews (s : State) : s.asu.SameViews s.takeKey.asu := by
  unfold State.takeKey
  dsimp only
  split
  · exact State.cruKey_sameViews { s with diu := { s.diu with key := s.diu.key.take } } _
  · exact {}

/-- An event that is none of an entry's leaves the inputs of the ASU and the displayed aspect. -/
theorem State.event_sameViews {c : Instr} (h : mayChange c .ssv = false) (s : State) : s.asu.SameViews (s.event c).asu := by
  cases c with
  | acknFrame _ frame =>
    show s.asu.SameViews (s.hearPeer frame _).asu
    unfold State.hearPeer
    split
    · exact (State.hearFrame_asu s frame) ▸ State.takeAcknFrame_sameViews (s.hearFrame frame) _
    · rw [State.hearFrame_asu]; exact {}
  | acknowledgementTimerExpiry => exact s.acknowledgementExpiry_sameViews
  | overdueRepeatTimerExpiry => exact s.repeatExpiry_sameViews
  | disagreementTimerExpiry => exact {}
  | acknowledgePress part =>
    cases part with
    | whole => exact s.routeAckPress_sameViews.trans s.routeAckPress.takeRoutedPress_sameViews
    | routing => exact s.routeAckPress_sameViews
    | taking => exact s.takeRoutedPress_sameViews
  | claimWindowExpiry => exact State.evaluateRole_sameViews { s with cru := { s.cru with claimAt := none } } true
  | keyChange => exact s.takeKey_sameViews
  | reset | lampCheckTimerExpiry | arrival | lateTimerExpiry | startupGraceExpiry => cases h
  | _ => rw [State.event_asu rfl]; exact {}

/-- It leaves the peers, too. -/
theorem State.event_peers {c : Instr} (h : mayChange c .ssv = false) (s : State) : (s.event c).cru.peers = s.cru.peers := by
  cases c with
  | claimWindowExpiry => exact (State.sameHeld_evaluateRole { s with cru := { s.cru with claimAt := none } } true).peers
  | keyChange =>
    show s.takeKey.cru.peers = _
    unfold State.takeKey
    dsimp only
    split
    · exact (State.sameHeld_cruKey _ _).peers
    · rfl
  | deskPeriodExpiry => show s.deskPeriod.cru.peers = _; rw [State.deskPeriod_cru]
  | reset | lampCheckTimerExpiry | arrival | lateTimerExpiry | startupGraceExpiry => cases h
  | _ => rw [State.event_cru rfl]

theorem State.event_sfu_of_ssv {c : Instr} (h : mayChange c .ssv = false) (s : State) : (s.event c).sfu = s.sfu := by
  cases c with
  | reset | lampCheckTimerExpiry | arrival | lateTimerExpiry | startupGraceExpiry => cases h
  | _ => exact State.event_sfu rfl s

/-- An event that is none of an entry's leaves what the consumers hold of the entries. -/
theorem State.event_sameHeld {c : Instr} (h : mayChange c .ssv = false) (s : State) : s.SameHeld (s.event c) :=
  State.sameHeld_of_asu (State.event_sfu_of_ssv h s) (State.event_sameViews h s) (State.event_peers h s)

theorem State.AtRest.sourcesLawful {s : State} (h : s.AtRest) : s.SourcesLawful := fun i => by
  rw [h.ssv]
  simpa [Ssv.reset, vector_get_eq_getElem] using Entry.lawful_reset _

theorem State.AtRest.consumersFollow {s : State} (h : s.AtRest) : s.ConsumersFollow := by
  rw [State.consumersFollow_iff]
  intro i _ e held
  unfold State.heldFor at held
  rw [h.sfu, h.asu, h.cru] at held
  rw [h.ssv]
  cases kind : (s.source i).kind <;> rw [kind] at held <;>
    simp_all [Sfu.reset, Slot.reset, Asu.reset, SourceView.reset, Cru.reset, PeerView.reset, Ssv.reset, Entry.reset,
      vector_get_eq_getElem]

/-- The configuration in use in RUNNING is the one loaded, and in range. -/
theorem State.Inv.range {s : State} (inv : s.Inv) (loaded : s.cfl.start = .lampCheck ∨ s.cfl.start = .running) :
    s.cfg.InRange s.own := by
  have config := inv.start.config
  have given : s.cfl.config.isSome = true := by
    rw [config]
    rcases loaded with h | h <;> simp [State.running, h]
  obtain ⟨c, same⟩ := Option.isSome_iff_exists.1 given
  have range := inv.configured c same
  simpa [State.cfg, same] using range

theorem State.event_sourcesFollow {c : Instr} {s : State} {t : Time} (h : s.SourcesFollow) (start : isStart c = false)
    (moment : s.moment c = some t) : (s.event c).SourcesFollow := by
  cases c with
  | arrival _ frame =>
    show (s.hearPeer frame _).SourcesFollow
    unfold State.hearPeer
    split
    · exact (h.hearFrame frame).ssvArrival _
    · exact h.hearFrame frame
  | lateTimerExpiry i =>
    have timed : (s.ssv.entries.get i).lateAt.isSome = true := by
      rw [show (s.ssv.entries.get i).lateAt = some t from moment]; rfl
    exact h.entryEvent ((h.lawful i).enabled timed) ((h.lawful i).late (h.range.entries i) timed _) _
  | startupGraceExpiry => exact h.graceExpiry
  | reset | resetRelease | loadEnd | lampCheckTimerExpiry => cases start
  | _ => exact h.congr (by rw [State.event_ssv rfl]) (State.event_cfl rfl s) (State.event_sameHeld rfl s)

theorem State.Inv.sourcesFollow {s : State} (inv : s.Inv) (loaded : s.cfl.start = .lampCheck ∨ s.cfl.start = .running) :
    s.SourcesFollow := ⟨inv.sources, inv.consumers, inv.range loaded⟩

/-- Settles O51: each event at an entry keeps its form and publishes a change of state to the consumer that it alone feeds. -/
theorem stepKeepsTheSourcesLawful : Obligations.StepKeepsTheSourcesLawful := by
  intro s u inv next
  refine inv.step (P := fun u => u.SourcesLawful ∧ u.ConsumersFollow) next (fun s inv => ⟨inv.sources, inv.consumers⟩)
    fun c s t inv moment reached => ?_
  obtain ⟨-, rest⟩ | same | ⟨checking, begun⟩ | ⟨running, start⟩ := State.event_cases inv moment reached
  · exact ⟨rest.sourcesLawful, rest.consumersFollow⟩
  · rw [same]; exact ⟨inv.sources, inv.consumers⟩
  · rw [begun]
    have follow : s.begun.SourcesFollow :=
      { lawful := inv.sources, follow := inv.consumers, range := inv.range (.inl checking) }
    have after := follow.congr (u := s.begun.firstEvaluation) (by simp) (by simp) (State.sameHeld_firstEvaluation _)
    exact ⟨after.lawful, after.follow⟩
  · have after := State.event_sourcesFollow (inv.sourcesFollow (.inr running)) start moment
    exact ⟨after.lawful, after.follow⟩

end Sys2Proof.Machine
end

section
/-! PROOFS. What every step keeps of the fused speed and of what the SDM shows (R26, R29 to R34, R44 to R55). -/

namespace Sys2Proof.Machine

open Sys2Proof

-- One proof after another: the many small proofs below, each on a thread of its own, would reserve more stacks than the check allows.
set_option Elab.async false

/-! ### A computation of the SFU -/

/-- What a computation reads of a slot does not depend on its outlier count. -/
theorem Sfu.computed_slots (u : Sfu) (c : Configuration) : (u.computed c).slots = u.slots.map (fun slot =>
    { slot with outliers := persist (slot.isOutlier c.tolerance u.reports.length (u.computed c).fused) slot.outliers }) := by
  ext i h : 1
  simp [Sfu.computed, vector_get_eq_getElem]

theorem Sfu.computed_reports (u : Sfu) (c : Configuration) : (u.computed c).reports = u.reports := by
  rw [Sfu.reports, Sfu.computed_slots, Vector.toList_map, List.filterMap_map]
  rfl

theorem Sfu.computed_anyDegraded (u : Sfu) (c : Configuration) : (u.computed c).anyDegraded = u.anyDegraded := by
  rw [Sfu.anyDegraded, Sfu.usableSlots, Sfu.computed_slots, Vector.toList_map, List.filter_map, List.any_map]
  rfl

theorem length_reports_le (u : Sfu) : u.reports.length ≤ 4 := by
  refine Nat.le_trans (List.length_filterMap_le _ _) ?_
  simp

/-- The reports of usable slots are reports of slots. -/
theorem Sfu.mem_reports {u : Sfu} {r : SpeedReport} (h : r ∈ u.reports) : ∃ k : Fin 4, (u.slots.get k).report = some r := by
  obtain ⟨slot, mem, usable⟩ := List.mem_filterMap.1 h
  obtain ⟨i, lt, rfl⟩ := List.getElem_of_mem mem
  refine ⟨⟨i, by simpa using lt⟩, ?_⟩
  simp only [Slot.usable] at usable
  split at usable
  · next r' held =>
    split at usable
    · rw [← Option.some.inj usable]
      simpa [vector_get_eq_getElem] using held
    · cases usable
  · cases usable

theorem ascending_perm (l : List Nat) : (ascending l).Perm l := by
  induction l with
  | nil => exact .nil
  | cons v rest ih => exact (placeNat_perm v _).trans (.cons v ih)

/-- The fused speed is at most the greatest usable one (R31). -/
theorem fuse_le {tolerance bound f : Nat} {v : List Nat} (h : ∀ x ∈ v, x ≤ bound) (fused : fuse tolerance v = some f) :
    f ≤ bound := by
  unfold fuse at fused
  split at fused
  · cases fused
  · obtain rfl := Option.some.inj fused
    exact h _ (by simp)
  · next v1 v2 =>
    have h1 := h v1 (by simp)
    have h2 := h v2 (by simp)
    obtain rfl := Option.some.inj fused
    split <;> omega
  · obtain rfl := Option.some.inj fused
    exact h _ (by simp)
  · next v2 v3 _ _ =>
    have h2 := h v2 (by simp)
    have h3 := h v3 (by simp)
    obtain rfl := Option.some.inj fused
    omega

theorem persist_le (holds : Bool) (count : Nat) : persist holds count ≤ 5 := by
  unfold persist persistCount; split <;> omega

/-- The slots hold capped speeds and capped counts (R26, R35). -/
def Sfu.InRange (u : Sfu) : Prop :=
  ∀ k : Fin 4, (u.slots.get k).outliers ≤ 5 ∧ ∀ r, (u.slots.get k).report = some r → r.speed ≤ 40000

theorem storedSpeed_le (payload : List Byte) : (storedSpeed payload).speed ≤ 40000 := Nat.min_le_left ..

theorem Sfu.InRange.published {u : Sfu} (h : u.InRange) (k : Fin 4) (after : EntryState) (payload : Option (List Byte)) :
    ({ u with slots := u.slots.set k ((u.slots.get k).published after payload) } : Sfu).InRange := by
  intro j
  dsimp only
  rw [vector_get_set]
  split
  · obtain ⟨outliers, report⟩ := h k
    unfold Slot.published
    split
    · exact ⟨outliers, fun r same => Option.some.inj same ▸ storedSpeed_le _⟩
    · exact ⟨outliers, fun r same => Option.some.inj same ▸ storedSpeed_le _⟩
    · exact ⟨outliers, nofun⟩
    · exact ⟨outliers, report⟩
  · exact h j

theorem Sfu.InRange.computed {u : Sfu} (h : u.InRange) (c : Configuration) : (u.computed c).InRange := by
  intro k
  have get : (u.computed c).slots.get k = { u.slots.get k with outliers := ((u.computed c).slots.get k).outliers } := by
    simp [Sfu.computed, vector_get_eq_getElem]
  refine ⟨?_, fun r held => (h k).2 r (by rw [get] at held; exact held)⟩
  simp only [Sfu.computed, vector_get_eq_getElem, Vector.getElem_ofFn]
  exact persist_le _ _

theorem Sfu.computed_fused_le {u : Sfu} (h : u.InRange) (c : Configuration) (f : Nat) (fused : (u.computed c).fused = some f) :
    f ≤ 40000 := by
  refine fuse_le (fun x mem => ?_) fused
  obtain ⟨r, mem, rfl⟩ := List.mem_map.1 ((ascending_perm _).mem_iff.1 mem)
  obtain ⟨k, held⟩ := Sfu.mem_reports ‹r ∈ u.reports›
  exact (h k).2 r held

/-! ### What the SDM shows -/

/-- What the SDM shows follows from the fused speed and the limits last handed. -/
structure Sdm.Follows (mph : Bool) (c : Configuration) (f : Option Nat) (l : Limits) (d : Sdm) : Prop where
  fused     : d.fused = f
  limits    : d.limits = l
  known     : d.displayed.isSome = f.isSome
  lit       : d.lit = litSegments c.arcScale d.displayed
  permitted : d.permittedMarker = markerAt mph c.arcScale l.permitted
  target    : d.targetMarker = markerAt mph c.arcScale l.target
  readout   : d.targetReadout = l.target.map (inDisplayUnit mph)
  bar       : d.bar = barSegments c.barScale l.distance
  level     : d.level = .notSupervised ↔ f = none ∨ l.permitted = none
  displayed : ∀ v, d.displayed = some v → v ≤ 400

section
variable {mph : Bool} {c : Configuration} {fused : Option Nat} {limits : Limits} {d : Sdm}

theorem isSome_displayedAfter (standstill hysteresis : Nat) (before : Option Nat) :
    (displayedAfter mph standstill hysteresis before fused).isSome = fused.isSome := by
  rw [Bool.eq_iff_iff, Option.isSome_iff_ne_none, Option.isSome_iff_ne_none]
  exact not_congr displayedAfter_eq_none_iff

theorem displayedAfter_le_400 {standstill hysteresis v : Nat} {before : Option Nat} (inRange : ∀ f, fused = some f → f ≤ 40000)
    (shown : ∀ d, before = some d → d ≤ 400) (h : displayedAfter mph standstill hysteresis before fused = some v) :
    v ≤ 400 := by
  cases fused with
  | none => cases h
  | some f =>
    obtain ⟨-, zero⟩ | ⟨-, moved⟩ | ⟨-, d, before', held, -⟩ := displayedAfter_known_cases mph standstill hysteresis f before
    · obtain rfl := Option.some.inj (zero.symm.trans h); exact Nat.zero_le _
    · obtain rfl := Option.some.inj (moved.symm.trans h)
      refine Nat.le_trans (candidate_inDisplayUnit_le (mph := mph) (inRange f rfl)) ?_
      cases mph <;> decide
    · obtain rfl := Option.some.inj (held.symm.trans h)
      exact shown d before'

theorem Sdm.Follows.handed (h : d.Follows mph c fused limits) (narrow : c.returnHyst ≤ c.warnBand) {fused' : Option Nat}
    (inRange : ∀ f, fused' = some f → f ≤ 40000) : (d.handed mph c fused').Follows mph c fused' limits where
  fused := rfl
  limits := h.limits
  known := isSome_displayedAfter _ _ _
  lit := rfl
  permitted := h.permitted
  target := h.target
  readout := h.readout
  bar := h.bar
  level := h.limits ▸ levelAfter_eq_notSupervised_iff narrow
  displayed _ shown := displayedAfter_le_400 inRange h.displayed shown

theorem Sdm.Follows.limited (h : d.Follows mph c fused limits) (narrow : c.returnHyst ≤ c.warnBand) (limits' : Limits) :
    (d.limited mph c limits').Follows mph c fused limits' where
  fused := h.fused
  limits := rfl
  known := h.known
  lit := h.lit
  permitted := rfl
  target := rfl
  readout := rfl
  bar := rfl
  level := h.fused ▸ levelAfter_eq_notSupervised_iff narrow
  displayed := h.displayed

end

/-! ### The invariant of the three -/

/-- The fused record, what the SDM shows, and the ranges, in a configuration in range. -/
structure State.SpeedFollows (s : State) : Prop where
  fusion   : s.FusionFollows
  display  : s.sdm.Follows s.mph s.cfg s.sfu.fused s.asu.shown.limits
  slots    : s.sfu.InRange
  fused    : ∀ f, s.sfu.fused = some f → f ≤ 40000
  disagree : s.sfu.disagreements ≤ 5
  narrow   : s.cfg.returnHyst ≤ s.cfg.warnBand

theorem State.SpeedFollows.ranges {s : State} (h : s.SpeedFollows) : s.Ranges where
  slots := h.slots
  fused := h.fused
  usable := h.fusion.usable ▸ length_reports_le _
  disagree := h.disagree
  copied f copied := h.fused f (h.display.fused ▸ copied)
  displayed := h.display.displayed

theorem State.SpeedFollows.displayFollows {s : State} (h : s.SpeedFollows) : s.DisplayFollows := by
  obtain ⟨fused, limits, known, lit, permitted, target, readout, bar, level, -⟩ := h.display
  rw [← fused] at known level
  rw [← limits] at permitted target readout bar level
  exact ⟨fused, limits, known, lit, permitted, target, readout, bar, level⟩

theorem State.Inv.speedFollows {s : State} (inv : s.Inv) (loaded : s.cfl.start = .lampCheck ∨ s.cfl.start = .running) :
    s.SpeedFollows where
  fusion := inv.fusion
  display := by
    obtain ⟨fused, limits, known, lit, permitted, target, readout, bar, level⟩ := inv.display
    rw [fused] at known level
    rw [limits] at permitted target readout bar level
    exact ⟨fused, limits, known, lit, permitted, target, readout, bar, level, inv.ranges.displayed⟩
  slots := inv.ranges.slots
  fused := inv.ranges.fused
  disagree := inv.ranges.disagree
  narrow := (inv.range loaded).returnHyst.2

/-- Two states that agree on what these read. -/
structure State.SameSpeed (s u : State) : Prop where
  slots         : u.sfu.slots = s.sfu.slots := by rfl
  fused         : u.sfu.fused = s.sfu.fused := by rfl
  usable        : u.sfu.usable = s.sfu.usable := by rfl
  state         : u.sfu.speedState = s.sfu.speedState := by rfl
  direction     : u.sfu.direction = s.sfu.direction := by rfl
  disagree      : u.sfu.disagree = s.sfu.disagree := by rfl
  disagreements : u.sfu.disagreements = s.sfu.disagreements := by rfl
  sdm           : u.sdm = s.sdm := by rfl
  limits        : u.asu.shown.limits = s.asu.shown.limits := by rfl
  cfg           : u.cfg = s.cfg := by rfl
  mph           : u.mph = s.mph := by rfl

theorem State.sameSpeed_of_blocks {s u : State} (sfu : u.sfu = s.sfu) (sdm : u.sdm = s.sdm) (asu : s.asu.SameViews u.asu)
    (cfl : u.cfl = s.cfl) : s.SameSpeed u where
  slots := by rw [sfu]
  fused := by rw [sfu]
  usable := by rw [sfu]
  state := by rw [sfu]
  direction := by rw [sfu]
  disagree := by rw [sfu]
  disagreements := by rw [sfu]
  sdm := sdm
  limits := by rw [asu.shown]
  cfg := State.cfg_of_cfl cfl
  mph := State.mph_of_cfl cfl

theorem State.SpeedFollows.congr {s u : State} (h : s.SpeedFollows) (same : s.SameSpeed u) : u.SpeedFollows where
  fusion := by
    obtain ⟨usable, fused, disagree, state, direction⟩ := h.fusion
    have reports : u.sfu.reports = s.sfu.reports := by rw [Sfu.reports, same.slots]; rfl
    have degraded : u.sfu.anyDegraded = s.sfu.anyDegraded := by
      rw [Sfu.anyDegraded, Sfu.usableSlots, same.slots]; rfl
    constructor <;> simp only [reports, degraded, same.fused, same.usable, same.state, same.direction, same.disagree, same.cfg] <;>
      assumption
  display := by rw [same.sdm, same.mph, same.cfg, same.fused, same.limits]; exact h.display
  slots := by rw [Sfu.InRange, same.slots]; exact h.slots
  fused := by rw [same.fused]; exact h.fused
  disagree := by rw [same.disagreements]; exact h.disagree
  narrow := by rw [same.cfg]; exact h.narrow

theorem Sfu.computed_fusionFollows {s u : State} (h : u.sfu = s.sfu.computed s.cfg) (cfg : u.cfg = s.cfg) :
    u.FusionFollows := by
  constructor <;> simp only [h, cfg, Sfu.computed_reports, Sfu.computed_anyDegraded] <;> rfl

/-- A computation on slots in range (R30), handed to the SDM. -/
theorem State.SpeedFollows.sfuCompute {s : State} (slots : s.sfu.InRange) {limits : Limits} {fused : Option Nat}
    (display : s.sdm.Follows s.mph s.cfg fused limits) (shown : s.asu.shown.limits = limits)
    (narrow : s.cfg.returnHyst ≤ s.cfg.warnBand) : s.sfuCompute.SpeedFollows where
  fusion := Sfu.computed_fusionFollows s.sfuCompute_sfu (State.cfg_of_cfl (by simp))
  display := by
    rw [State.sfuCompute_sdm, State.sfuCompute_sfu, State.sfuCompute_asu, State.mph_of_cfl (State.sfuCompute_cfl s),
      State.cfg_of_cfl (State.sfuCompute_cfl s), shown]
    exact display.handed narrow (Sfu.computed_fused_le slots s.cfg)
  slots := by rw [State.sfuCompute_sfu]; exact slots.computed _
  fused := by rw [State.sfuCompute_sfu]; exact Sfu.computed_fused_le slots _
  disagree := by rw [State.sfuCompute_sfu]; exact persist_le _ _
  narrow := by rw [State.cfg_of_cfl (State.sfuCompute_cfl s)]; exact narrow

theorem State.SpeedFollows.sfuPublished {s : State} (h : s.SpeedFollows) (k : Fin 4) (after : EntryState)
    (payload : Option (List Byte)) : (s.sfuPublished k after payload).SpeedFollows :=
  State.SpeedFollows.sfuCompute (h.slots.published k after payload) h.display rfl h.narrow

/-- A reselection hands the limits where they have changed (R75). -/
theorem State.SpeedFollows.reselect {s : State} (h : s.SpeedFollows) : s.reselect.SpeedFollows := by
  have kept : ({ s.reselect with sdm := s.sdm, asu := s.asu } : State).SpeedFollows :=
    h.congr (State.sameSpeed_of_blocks (by simp) rfl {} (by simp))
  refine ⟨{ kept.fusion with }, ?_, kept.slots, kept.fused, kept.disagree, kept.narrow⟩
  have mph := State.mph_of_cfl (State.reselect_cfl s)
  have cfg := State.cfg_of_cfl (State.reselect_cfl s)
  rw [State.reselect_sdm, mph, cfg, State.reselect_sfu]
  split
  · next same => rw [same]; exact h.display
  · exact h.display.limited h.narrow _

theorem State.SpeedFollows.asuPublished {s : State} (h : s.SpeedFollows) (secondary : Bool) (station : Nat)
    (after : EntryState) (payload : Option (List Byte)) : (s.asuPublished secondary station after payload).SpeedFollows := by
  rw [State.asuPublished_eq]
  have limits : (s.asu.withView secondary station after payload).shown = s.asu.shown := by cases secondary <;> rfl
  exact State.SpeedFollows.reselect (h.congr { limits := by dsimp only; rw [limits] })

theorem State.SpeedFollows.publish {s : State} (h : s.SpeedFollows) (c : SourceConfig) (after : EntryState)
    (payload : Option (List Byte)) : (s.publish c after payload).SpeedFollows := by
  unfold State.publish
  split
  · exact h.sfuPublished _ _ _
  · exact h.asuPublished _ _ _ _
  · exact h.congr (State.sameSpeed_of_blocks (by simp) (by simp) (by rw [State.flmPublished_asu]; exact {}) (by simp))
  · exact h.congr (State.sameSpeed_of_blocks (by simp) (by simp)
      (State.evaluateRole_sameViews { s with cru := s.cru.withPeer _ after payload } false) (by simp))

theorem State.SpeedFollows.entryEvent {s : State} (h : s.SpeedFollows) (i : Fin 24) (r : EntryResult) (payload : List Byte) :
    (s.entryEvent i r payload).SpeedFollows := by
  rw [State.entryEvent_cases]
  have told (u : State) (h : u.SpeedFollows) (qs : List FaultRequest) : (u.requests qs).SpeedFollows :=
    h.congr (State.sameSpeed_of_blocks (by simp) (by simp) (by rw [State.requests_asu]; exact {}) (by simp))
  refine told _ ?_ _
  split
  · exact State.SpeedFollows.publish (s := { s with ssv := _ }) (h.congr {}) _ _ _
  · exact h.congr {}

theorem State.SpeedFollows.ssvArrival {s : State} (h : s.SpeedFollows) (f : Frame) : (s.ssvArrival f).SpeedFollows := by
  unfold State.ssvArrival
  split
  · exact h
  · split
    · exact h
    · exact h.entryEvent _ _ _

theorem State.SpeedFollows.graceEntry {s : State} (h : s.SpeedFollows) (i : Fin 24) : (s.graceEntry i).SpeedFollows := by
  unfold State.graceEntry
  split
  · exact h.entryEvent _ _ _
  · exact h

theorem State.SpeedFollows.sfuGrace {s : State} (h : s.SpeedFollows) : s.sfuGrace.SpeedFollows := by
  have sfu := s.sfuGrace_sfu
  exact h.congr
    { slots := by rw [sfu], fused := by rw [sfu], usable := by rw [sfu], state := by rw [sfu], direction := by rw [sfu],
      disagree := by rw [sfu], disagreements := by rw [sfu], sdm := by simp, limits := by simp,
      cfg := State.cfg_of_cfl (by simp), mph := State.mph_of_cfl (by simp) }

theorem State.SpeedFollows.asuGrace {s : State} (h : s.SpeedFollows) : s.asuGrace.SpeedFollows :=
  State.SpeedFollows.reselect (s := { s with asu := { s.asu with graceExpired := true } }) (h.congr {})

theorem State.SpeedFollows.graceExpiry {s : State} (h : s.SpeedFollows) : s.graceExpiry.SpeedFollows := by
  have entries (l : List (Fin 24)) {r : State} (h : r.SpeedFollows) :
      (l.foldl (fun s i => s.graceEntry i) r).SpeedFollows := by
    induction l generalizing r with
    | nil => exact h
    | cons i rest ih => exact ih (h.graceEntry i)
  have flagged : ({ s with ssv := { s.ssv with graceAt := none, graceExpired := true } } : State).SpeedFollows := h.congr {}
  exact (entries (List.finRange 24) flagged).sfuGrace.asuGrace

theorem State.SpeedFollows.hearFrame {s : State} (h : s.SpeedFollows) (bytes : List Byte) : (s.hearFrame bytes).SpeedFollows :=
  h.congr (State.sameSpeed_of_blocks (by simp) (by simp) (by rw [State.hearFrame_asu]; exact {}) (by simp))

theorem State.event_speedFollows {c : Instr} {s : State} (h : s.SpeedFollows) (start : isStart c = false) :
    (s.event c).SpeedFollows := by
  cases c with
  | arrival _ frame =>
    show (s.hearPeer frame _).SpeedFollows
    unfold State.hearPeer
    split
    · exact (h.hearFrame frame).ssvArrival _
    · exact h.hearFrame frame
  | lateTimerExpiry i => exact h.entryEvent _ _ _
  | startupGraceExpiry => exact h.graceExpiry
  | reset | resetRelease | loadEnd | lampCheckTimerExpiry => cases start
  | _ =>
    exact h.congr (State.sameSpeed_of_blocks (State.event_sfu rfl s) (State.event_sdm rfl s) (State.event_sameViews rfl s)
      (State.event_cfl rfl s))

/-- At rest nothing is known and nothing shown (R41, R64). -/
theorem State.AtRest.speed {s : State} (h : s.AtRest) : s.FusionFollows ∧ s.DisplayFollows ∧ s.Ranges := by
  refine ⟨?_, ?_, ?_⟩
  · constructor <;> rw [h.sfu] <;> rfl
  · constructor <;> rw [h.sdm]
    case fused => rw [h.sfu]; rfl
    case limits => rw [h.asu]; rfl
    all_goals first | rfl | simp [Sdm.reset]
  · constructor <;> simp only [h.sfu, h.sdm] <;> simp [Sfu.reset, Sdm.reset, Slot.reset, vector_get_eq_getElem]

/-! ### Written out -/

/-- A marker by its formula (R50). -/
theorem markerAt_written (mph : Bool) (scale : Nat) (speed : Option Nat) :
    (speed = none → markerAt mph scale speed = none) ∧
    (∀ v, speed = some v → min 60 (inDisplayUnit mph v * 60 / scale) = 0 → markerAt mph scale speed = none) ∧
    (∀ v, speed = some v → 0 < min 60 (inDisplayUnit mph v * 60 / scale) →
      markerAt mph scale speed = some (min 60 (inDisplayUnit mph v * 60 / scale))) := by
  refine ⟨fun absent => by rw [absent]; rfl, fun v given zero => ?_, fun v given more => ?_⟩
  · rw [given]; exact if_pos zero
  · rw [given]; exact if_neg (Nat.ne_of_gt more)

/-- Settles O52: the SFU by its computation, the SDM by the hand-offs of fused speed and limits. -/
theorem stepKeepsSpeedAndDisplayInStep : Obligations.StepKeepsSpeedAndDisplayInStep := by
  intro s u inv next
  have follow : u.FusionFollows ∧ u.DisplayFollows ∧ u.Ranges := by
    refine inv.step (P := fun u => u.FusionFollows ∧ u.DisplayFollows ∧ u.Ranges) next
      (fun s inv => ⟨inv.fusion, inv.display, inv.ranges⟩) fun c s t inv moment reached => ?_
    have whole {u : State} (h : u.SpeedFollows) : u.FusionFollows ∧ u.DisplayFollows ∧ u.Ranges :=
      ⟨h.fusion, h.displayFollows, h.ranges⟩
    obtain ⟨-, rest⟩ | same | ⟨checking, begun⟩ | ⟨running, start⟩ := State.event_cases inv moment reached
    · exact rest.speed
    · rw [same]; exact ⟨inv.fusion, inv.display, inv.ranges⟩
    · rw [begun]
      have started : s.begun.SpeedFollows := (inv.speedFollows (.inl checking)).congr {}
      exact whole (started.congr (State.sameSpeed_of_blocks (by simp) (by simp) (State.firstEvaluation_sameViews _) (by simp)))
    · exact whole (State.event_speedFollows (inv.speedFollows (.inr running)) start)
  obtain ⟨fusion, display, ranges⟩ := follow
  refine ⟨fusion, display, ranges, ?_⟩
  obtain ⟨-, limits, -, lit, permitted, target, readout, bar, -⟩ := display
  rw [limits] at permitted target readout bar
  refine ⟨fun none => by rw [lit, none]; rfl, fun d shown => by rw [lit, shown]; rfl,
    permitted ▸ markerAt_written _ _ _, target ▸ markerAt_written _ _ _, fun k => ⟨fun held => ⟨fun lit => ?_, fun lit => ?_⟩,
      fun noP noT => if_neg fun held => held.elim noP noT⟩, fun none => by rw [readout, none]; rfl,
    fun v given => by rw [readout, given]; rfl, fun none => by rw [bar, none]; rfl, fun d given => by rw [bar, given]; rfl⟩
  · exact (if_pos held).trans (if_pos lit)
  · exact (if_pos held).trans (if_neg (Nat.not_le.2 lit))

end Sys2Proof.Machine
end

section
/-! PROOFS. What every step keeps of the displayed aspect, the pending acknowledgement record and their timers (R70 to R82). -/

namespace Sys2Proof.Machine

open Sys2Proof

-- One proof after another: the many small proofs below, each on a thread of its own, would reserve more stacks than the check allows.
set_option Elab.async false

/-! ### The ASU's own state -/

/-- The timers belong to the pending record, and the disagreement timer and its flag exclude one another. -/
structure Asu.Timed (c : Configuration) (role : Role) (a : Asu) : Prop where
  ackTimer : a.ackAt = (match a.pendingAck with
    | some r => if r.overdue then none else some (r.openedAt + ms c.ackMs)
    | none => none)
  repeats  : a.repeatAt.isSome = (a.isOverdue && role == .active)
  once     : ¬(a.disagreeAt.isSome = true ∧ a.disagreeRaised = true)

/-- With the displayed aspect and the disagreement that the inputs call for. -/
structure Asu.Lawful (own : Nat) (c : Configuration) (role : Role) (a : Asu) : Prop extends a.Timed c role where
  shown    : a.shown = selectAspect own c a.graceExpired (a.primary.usable c.catalogue) (a.secondary.usable c.catalogue)
  disagree : codesDiffer (a.primary.usable c.catalogue) (a.secondary.usable c.catalogue) =
    (a.disagreeAt.isSome || a.disagreeRaised)

theorem State.aspectLawful_iff {s : State} : s.AspectLawful ↔ s.asu.Lawful s.own s.cfg s.cru.role := by
  constructor
  · intro h
    exact ⟨⟨h.ackTimer, h.repeats, h.once⟩, h.shown, h.disagree⟩
  · intro h
    exact ⟨h.shown, h.ackTimer, h.repeats, h.disagree, h.once⟩

section
variable {own : Nat} {c : Configuration} {role : Role} {a : Asu}

theorem Asu.Timed.withView (h : a.Timed c role) (secondary : Bool) (station : Nat) (after : EntryState)
    (payload : Option (List Byte)) : (a.withView secondary station after payload).Timed c role := by
  cases secondary <;> exact { h with }

/-- An aspect change that opens or restarts the record starts its timer anew and ends the repeats (R77, R78). -/
theorem Asu.Timed.reselected (h : a.Timed c role) (own : Nat) (now : Time) : (a.reselected own c now).Lawful own c role := by
  obtain ⟨ackTimer, repeats, once⟩ := h
  refine ⟨⟨?_, ?_, ?_⟩, rfl, ?_⟩
  · simp only [Asu.reselected]
    split
    · rfl
    · exact ackTimer
  · simp only [Asu.reselected, Asu.isOverdue]
    split
    · rfl
    · exact repeats
  · simp only [Asu.reselected]
    intro ⟨runs, raised⟩
    obtain ⟨raised, differ⟩ := Bool.and_eq_true_iff.1 raised
    rw [if_pos differ] at runs
    cases timer : a.disagreeAt with
    | none => simp [timer, raised] at runs
    | some t => exact once ⟨by rw [timer]; rfl, raised⟩
  · simp only [Asu.reselected]
    cases codesDiffer (a.primary.usable c.catalogue) (a.secondary.usable c.catalogue) with
    | false => simp
    | true => cases a.disagreeAt <;> cases a.disagreeRaised <;> simp

theorem Asu.Lawful.closed (h : a.Lawful own c role) :
    ({ a with pendingAck := none, ackAt := none, repeatAt := none } : Asu).Lawful own c role :=
  { h with ackTimer := rfl, repeats := rfl }

/-- The expiry of the acknowledgement timer: the record is overdue, and the first OVERDUE frame starts the repeats (R79). -/
theorem Asu.Lawful.overdue (h : a.Lawful own c role) (r : PendingAck) (now : Time) :
    (({ a with pendingAck := some { r with overdue := true }, ackAt := none } : Asu).announced role now).Lawful own c role := by
  unfold Asu.announced
  split
  · next active => exact { h with ackTimer := rfl, repeats := by subst active; rfl }
  · next other =>
    have unrepeated : a.repeatAt.isSome = false := by rw [h.repeats, beq_eq_false_iff_ne.2 other, Bool.and_false]
    exact { h with ackTimer := rfl, repeats := unrepeated.trans (by simp [other]) }

theorem Asu.Lawful.repeated (h : a.Lawful own c role) (runs : a.repeatAt.isSome = true) (now : Time) :
    ({ a with repeatAt := some now } : Asu).Lawful own c role :=
  { h with ackTimer := h.ackTimer, repeats := by rw [h.repeats] at runs; exact runs.symm }

theorem Asu.Lawful.disagreed (h : a.Lawful own c role) (runs : a.disagreeAt.isSome = true) :
    ({ a with disagreeAt := none, disagreeRaised := true } : Asu).Lawful own c role :=
  { h with
    ackTimer := h.ackTimer
    once := fun ⟨runs, _⟩ => by cases runs
    disagree := h.disagree.trans (by rw [runs]; rfl) }

/-- A change of role starts or stops the repeats of an overdue record (R80). -/
theorem Asu.Lawful.roleChanged {old : Role} (h : a.Lawful own c old) (changed : role ≠ old) (now : Time) :
    (a.roleChanged old role now).Lawful own c role := by
  have repeats := h.repeats
  unfold Asu.roleChanged
  split
  · next active =>
    have before : a.repeatAt.isSome = false := by
      rw [repeats, beq_eq_false_iff_ne.2 fun same => changed (active.trans same.symm), Bool.and_false]
    split
    · next overdue => exact { h with ackTimer := h.ackTimer, repeats := by subst active; exact ((Bool.and_true _).trans overdue).symm }
    · next current =>
      exact { h with repeats := by rw [before, Bool.eq_false_iff.2 current, Bool.false_and] }
  · next other =>
    have off : (role == .active) = false := beq_eq_false_iff_ne.2 other
    split
    · exact { h with ackTimer := h.ackTimer, repeats := by rw [off, Bool.and_false]; rfl }
    · next notActive =>
      have before : a.repeatAt.isSome = false := by rw [repeats, beq_eq_false_iff_ne.2 notActive, Bool.and_false]
      exact { h with repeats := by rw [before, off, Bool.and_false] }

end

/-! ### Every event -/

theorem State.AspectLawful.congr {s u : State} (h : s.AspectLawful) (asu : u.asu = s.asu) (role : u.cru.role = s.cru.role)
    (cfg : u.cfg = s.cfg) (own : u.own = s.own) : u.AspectLawful := by
  rw [State.aspectLawful_iff] at h ⊢
  rw [asu, role, cfg, own]
  exact h

/-- An operation of the ASU, in the configuration and the role that it finds. -/
theorem State.aspectLawful_of_asu {s u : State} (h : u.asu.Lawful s.own s.cfg s.cru.role) (role : u.cru.role = s.cru.role)
    (cfl : u.cfl = s.cfl) : u.AspectLawful := by
  rw [State.aspectLawful_iff, role, State.cfg_of_cfl cfl, State.own_of_cfl cfl]
  exact h

theorem State.aspectLawful_reselect {s : State} (h : s.asu.Timed s.cfg s.cru.role) : s.reselect.AspectLawful := by
  refine State.aspectLawful_of_asu ?_ (by simp) (State.reselect_cfl s)
  rw [State.reselect_asu]
  exact h.reselected _ _

theorem State.AspectLawful.evaluateRole {s : State} (h : s.AspectLawful) (expiry : Bool) :
    (s.evaluateRole expiry).AspectLawful := by
  rw [State.aspectLawful_iff] at h ⊢
  rw [State.evaluateRole_asu, State.evaluateRole_cru, State.cfg_of_cfl (State.evaluateRole_cfl s expiry),
    State.own_of_cfl (State.evaluateRole_cfl s expiry)]
  split
  · exact h
  · next changed => exact h.roleChanged changed _

theorem State.AspectLawful.firstEvaluation {s : State} (h : s.AspectLawful) : s.firstEvaluation.AspectLawful := by
  rw [State.aspectLawful_iff] at h ⊢
  rw [State.firstEvaluation_asu, State.firstEvaluation_cru, State.cfg_of_cfl (State.firstEvaluation_cfl s),
    State.own_of_cfl (State.firstEvaluation_cfl s)]
  dsimp only
  split
  · exact h
  · next changed => exact h.roleChanged changed _

theorem State.AspectLawful.publish {s : State} (h : s.AspectLawful) (c : SourceConfig) (after : EntryState)
    (payload : Option (List Byte)) : (s.publish c after payload).AspectLawful := by
  unfold State.publish
  split
  · exact h.congr (by simp) (by simp) (State.cfg_of_cfl (by simp)) (State.own_of_cfl (by simp))
  · rw [State.asuPublished_eq]
    exact State.aspectLawful_reselect
      (s := { s with asu := _ }) ((State.aspectLawful_iff.1 h).toTimed.withView _ _ _ _)
  · exact h.congr (by simp) (by simp) (State.cfg_of_cfl (by simp)) (State.own_of_cfl (by simp))
  · exact State.AspectLawful.evaluateRole (s := { s with cru := s.cru.withPeer _ after payload }) (h.congr rfl rfl rfl rfl) _

theorem State.AspectLawful.requests {s : State} (h : s.AspectLawful) (qs : List FaultRequest) : (s.requests qs).AspectLawful :=
  h.congr (by simp) (by simp) (State.cfg_of_cfl (by simp)) (State.own_of_cfl (by simp))

theorem State.AspectLawful.entryEvent {s : State} (h : s.AspectLawful) (i : Fin 24) (r : EntryResult) (payload : List Byte) :
    (s.entryEvent i r payload).AspectLawful := by
  rw [State.entryEvent_cases]
  have written : ({ s with ssv := { s.ssv with entries := s.ssv.entries.set i r.entry } } : State).AspectLawful :=
    h.congr rfl rfl rfl rfl
  split
  · exact (written.publish _ _ _).requests _
  · exact written.requests _

theorem State.AspectLawful.ssvArrival {s : State} (h : s.AspectLawful) (f : Frame) : (s.ssvArrival f).AspectLawful := by
  unfold State.ssvArrival
  split
  · exact h
  · split
    · exact h
    · exact h.entryEvent _ _ _

theorem State.AspectLawful.graceEntry {s : State} (h : s.AspectLawful) (i : Fin 24) : (s.graceEntry i).AspectLawful := by
  unfold State.graceEntry
  split
  · exact h.entryEvent _ _ _
  · exact h

theorem State.AspectLawful.sfuGrace {s : State} (h : s.AspectLawful) : s.sfuGrace.AspectLawful :=
  h.congr (by simp) (by simp) (State.cfg_of_cfl (by simp)) (State.own_of_cfl (by simp))

theorem State.AspectLawful.asuGrace {s : State} (h : s.AspectLawful) : s.asuGrace.AspectLawful :=
  State.aspectLawful_reselect (s := { s with asu := { s.asu with graceExpired := true } })
    { (State.aspectLawful_iff.1 h).toTimed with }

theorem State.AspectLawful.graceExpiry {s : State} (h : s.AspectLawful) : s.graceExpiry.AspectLawful := by
  have entries (l : List (Fin 24)) {r : State} (h : r.AspectLawful) :
      (l.foldl (fun s i => s.graceEntry i) r).AspectLawful := by
    induction l generalizing r with
    | nil => exact h
    | cons i rest ih => exact ih (h.graceEntry i)
  have flagged : ({ s with ssv := { s.ssv with graceAt := none, graceExpired := true } } : State).AspectLawful :=
    h.congr rfl rfl rfl rfl
  exact (entries (List.finRange 24) flagged).sfuGrace.asuGrace

theorem State.AspectLawful.hearFrame {s : State} (h : s.AspectLawful) (bytes : List Byte) : (s.hearFrame bytes).AspectLawful :=
  h.congr (by simp) (by simp) (State.cfg_of_cfl (by simp)) (State.own_of_cfl (by simp))

theorem State.AspectLawful.asuPress {s : State} (h : s.AspectLawful) : s.asuPress.AspectLawful := by
  refine State.aspectLawful_of_asu ?_ (by simp) (State.asuPress_cfl s)
  obtain closed | same := s.asuPress_asu
  · rw [closed]; exact (State.aspectLawful_iff.1 h).closed
  · rw [same]; exact State.aspectLawful_iff.1 h

theorem State.AspectLawful.asuPeerAckn {s : State} (h : s.AspectLawful) (station : Nat) (inst : InstanceNo) :
    (s.asuPeerAckn station inst).AspectLawful := by
  refine State.aspectLawful_of_asu ?_ (by simp) (State.asuPeerAckn_cfl s station inst)
  obtain closed | same := s.asuPeerAckn_asu station inst
  · rw [closed]; exact (State.aspectLawful_iff.1 h).closed
  · rw [same]; exact State.aspectLawful_iff.1 h

theorem State.AspectLawful.takeRoutedPress {s : State} (h : s.AspectLawful) : s.takeRoutedPress.AspectLawful := by
  unfold State.takeRoutedPress
  split
  · next p _ =>
    have taken : ({ s with routed := none } : State).AspectLawful := h.congr rfl rfl rfl rfl
    cases route : p.route with
    | toAsu => exact taken.asuPress
    | toFlm n =>
      exact taken.congr (by simp [State.receivePress]) (by simp) (State.cfg_of_cfl (by simp)) (State.own_of_cfl (by simp))
  · exact h

theorem State.AspectLawful.routeAckPress {s : State} (h : s.AspectLawful) : s.routeAckPress.AspectLawful := by
  rw [State.routeAckPress_eq]
  exact h.takeRoutedPress.congr rfl rfl rfl rfl

theorem State.AspectLawful.takeAcknFrame {s : State} (h : s.AspectLawful) (f : Frame) : (s.takeAcknFrame f).AspectLawful := by
  unfold State.takeAcknFrame State.ssvAckn State.takeAckn
  split
  · split
    · split
      · exact h.asuPeerAckn _ _
      · exact h.congr (by simp) (by simp) (State.cfg_of_cfl (by simp)) (State.own_of_cfl (by simp))
    · exact h
  · exact h

theorem State.AspectLawful.acknowledgementExpiry {s : State} (h : s.AspectLawful) : s.acknowledgementExpiry.AspectLawful := by
  have lawful := State.aspectLawful_iff.1 h
  refine State.aspectLawful_of_asu ?_ (by simp) (State.acknowledgementExpiry_cfl s)
  rw [State.acknowledgementExpiry_asu]
  split
  · next none => exact { lawful with ackTimer := by rw [none] }
  · exact lawful.overdue _ _

theorem State.AspectLawful.repeatExpiry {s : State} (h : s.AspectLawful) (runs : s.asu.repeatAt.isSome = true) :
    s.repeatExpiry.AspectLawful := by
  have lawful := State.aspectLawful_iff.1 h
  refine State.aspectLawful_of_asu ?_ (by simp) (State.repeatExpiry_cfl s)
  have due : s.asu.isOverdue = true ∧ s.cru.role = .active := by
    have repeats := lawful.repeats
    rw [runs] at repeats
    simpa using repeats.symm
  rw [State.repeatExpiry_asu, if_pos due]
  exact lawful.repeated runs _

theorem State.event_aspectLawful {c : Instr} {s : State} {t : Time} (h : s.AspectLawful) (start : isStart c = false)
    (moment : s.moment c = some t) : (s.event c).AspectLawful := by
  cases c with
  | arrival _ frame =>
    show (s.hearPeer frame _).AspectLawful
    unfold State.hearPeer
    split
    · exact (h.hearFrame frame).ssvArrival _
    · exact h.hearFrame frame
  | acknFrame _ frame =>
    show (s.hearPeer frame _).AspectLawful
    unfold State.hearPeer
    split
    · exact (h.hearFrame frame).takeAcknFrame _
    · exact h.hearFrame frame
  | lateTimerExpiry i => exact h.entryEvent _ _ _
  | startupGraceExpiry => exact h.graceExpiry
  | acknowledgementTimerExpiry => exact h.acknowledgementExpiry
  | overdueRepeatTimerExpiry => exact h.repeatExpiry (by rw [show s.asu.repeatAt = some t from moment]; rfl)
  | disagreementTimerExpiry =>
    refine State.aspectLawful_of_asu (s := s) ?_ (by simp [State.event]) (State.event_cfl rfl s)
    exact (State.aspectLawful_iff.1 h).disagreed (by rw [show s.asu.disagreeAt = some t from moment]; rfl)
  | claimWindowExpiry =>
    exact State.AspectLawful.evaluateRole (s := { s with cru := { s.cru with claimAt := none } }) (h.congr rfl rfl rfl rfl) _
  | keyChange =>
    show s.takeKey.AspectLawful
    unfold State.takeKey
    dsimp only
    split
    · exact State.AspectLawful.evaluateRole (s := { s with
        diu := { s.diu with key := s.diu.key.take }, cru := { s.cru with keyOn := s.diu.key.level } }) (h.congr rfl rfl rfl rfl) _
    · exact h.congr rfl rfl rfl rfl
  | deskPeriodExpiry =>
    show s.deskPeriod.AspectLawful
    exact h.congr (by simp) (by simp) (State.cfg_of_cfl (by simp)) (State.own_of_cfl (by simp))
  | acknowledgePress part =>
    cases part with
    | whole => exact h.routeAckPress.takeRoutedPress
    | routing => exact h.routeAckPress
    | taking => exact h.takeRoutedPress
  | reset | resetRelease | loadEnd | lampCheckTimerExpiry => cases start
  | _ =>
    exact h.congr (State.event_asu rfl s) (by rw [State.event_cru rfl]) (State.cfg_of_cfl (State.event_cfl rfl s))
      (State.own_of_cfl (State.event_cfl rfl s))

/-- At rest nothing is displayed and nothing pending (R86). -/
theorem State.AtRest.aspectLawful {s : State} (h : s.AtRest) : s.AspectLawful := by
  rw [State.aspectLawful_iff, h.asu]
  exact ⟨⟨rfl, rfl, by simp [Asu.reset]⟩, rfl, rfl⟩

/-- Settles O53: the aspect by its reselections, the timers with the record and the role. -/
theorem stepKeepsTheAspectLawful : Obligations.StepKeepsTheAspectLawful := by
  intro s u inv next
  refine inv.step next (fun s inv => inv.aspect) fun c s t inv moment reached => ?_
  obtain ⟨-, rest⟩ | same | ⟨-, begun⟩ | ⟨-, start⟩ := State.event_cases inv moment reached
  · exact rest.aspectLawful
  · rw [same]; exact inv.aspect
  · rw [begun]
    exact State.AspectLawful.firstEvaluation (s := s.begun) (inv.aspect.congr rfl rfl rfl rfl)
  · exact State.event_aspectLawful inv.aspect start moment

end Sys2Proof.Machine
end

section
/-! PROOFS. What every step keeps of the role and its timers (R116 to R131). -/

namespace Sys2Proof.Machine

open Sys2Proof

-- One proof after another: the many small proofs below, each on a thread of its own, would reserve more stacks than the check allows.
set_option Elab.async false

/-! ### The decision -/

theorem PeerView.claims_of_claiming {v : PeerView} (h : v.counted = .claiming) : v.claims = true := by
  simp [PeerView.claims, h]

theorem PeerView.claims_of_active {v : PeerView} (h : v.counted = .active) : v.claims = true := by
  simp [PeerView.claims, h]

/-- A peer that claims counts as CLAIMING, ACTIVE or CONFLICT. -/
theorem PeerView.counted_of_claims {v : PeerView} (h : v.claims = true) :
    (v.counted != .idle && v.counted != .mirror) = true := by
  unfold PeerView.claims at h
  cases counted : v.counted with
  | idle | mirror => rw [counted] at h; cases h
  | claiming | active | conflict => rfl

theorem Cru.anyPeer_mono {c : Cru} {p q : PeerView → Bool} (h : ∀ v, p v = true → q v = true) (some : c.anyPeer p = true) :
    c.anyPeer q = true := by
  rw [Cru.anyPeer, List.any_eq_true] at some ⊢
  obtain ⟨v, mem, holds⟩ := some
  exact ⟨v, mem, h v holds⟩

theorem Cru.anyPeer_false_mono {c : Cru} {p q : PeerView → Bool} (h : ∀ v, p v = true → q v = true)
    (none : c.anyPeer q = false) : c.anyPeer p = false :=
  Bool.eq_false_iff.2 fun some => Bool.eq_false_iff.1 none (Cru.anyPeer_mono h some)

/-- The role after an evaluation is the role after a further one (6.2). -/
theorem Cru.nextRole_nextRole (c : Cru) (expiry : Bool) :
    ({ c with role := c.nextRole expiry } : Cru).nextRole false = c.nextRole expiry := by
  have seen (role : Role) (test : PeerView → Bool) : ({ c with role := role } : Cru).anyPeer test = c.anyPeer test := rfl
  have active (none : c.anyPeer (fun v => v.counted == .claiming || v.counted == .active) = false) :
      c.anyPeer (fun v => v.counted == .active) = false :=
    Cru.anyPeer_false_mono (fun v h => by simp only [h, Bool.or_true]) none
  have unclaimed (none : c.anyPeer PeerView.claims = false) :
      c.anyPeer (fun v => v.counted == .claiming || v.counted == .active) = false :=
    Cru.anyPeer_false_mono (fun v h => by
      obtain h | h := Bool.or_eq_true_iff.1 h
      · exact PeerView.claims_of_claiming (beq_iff_eq.1 h)
      · exact PeerView.claims_of_active (beq_iff_eq.1 h)) none
  have claimed (some : c.anyPeer PeerView.claims = true) :
      c.anyPeer (fun v => v.counted != .idle && v.counted != .mirror) = true :=
    Cru.anyPeer_mono (fun v => PeerView.counted_of_claims) some
  have contended (some : c.anyPeer (fun v => v.counted == .claiming || v.counted == .active) = true) :
      c.anyPeer (fun v => v.counted != .idle && v.counted != .mirror) = true :=
    Cru.anyPeer_mono (fun v h => by
      obtain h | h := Bool.or_eq_true_iff.1 h <;> rw [beq_iff_eq.1 h] <;> rfl) some
  have rival (some : c.anyPeer (fun v => v.counted == .active) = true) :
      c.anyPeer (fun v => v.counted != .idle && v.counted != .mirror) = true :=
    Cru.anyPeer_mono (fun v h => by rw [beq_iff_eq.1 h]; rfl) some
  have uncontended (none : c.anyPeer (fun v => v.counted != .idle && v.counted != .mirror) = false) :
      c.anyPeer (fun v => v.counted == .claiming || v.counted == .active) = false :=
    Bool.eq_false_iff.2 fun some => Bool.eq_false_iff.1 none (contended some)
  unfold Cru.nextRole
  simp only [seen]
  cases key : c.keyOn with
  | false => simp
  | true =>
    simp only [if_true]
    cases c.role with
    | idle | mirror =>
      cases claims : c.anyPeer PeerView.claims with
      | true => simp [claimed claims]
      | false => simp [unclaimed claims]
    | claiming =>
      cases rivals : c.anyPeer (fun v => v.counted == .claiming || v.counted == .active) with
      | true => simp [contended rivals]
      | false => cases expiry <;> simp [active rivals]
    | active =>
      cases rivals : c.anyPeer (fun v => v.counted == .active) with
      | true => simp [rival rivals]
      | false => simp
    | conflict =>
      cases rivals : c.anyPeer (fun v => v.counted != .idle && v.counted != .mirror) with
      | true => simp
      | false => simp [uncontended rivals]

/-- At the expiry of the claim window no role goes on claiming (R120). -/
theorem Cru.nextRole_expiry {c : Cru} (h : c.role = .claiming) : c.nextRole true ≠ .claiming := by
  unfold Cru.nextRole
  rw [h]
  split
  · simp only [if_true]
    split <;> simp
  · split <;> simp

/-! ### The CRU's own state -/

/-- The claim window with the role, the DESK period with RUNNING, and an expiry still to be taken reached (R118, R124). -/
structure Cru.Timed (c : Cru) (running : Bool) (now : Time) : Prop where
  claim  : c.claimAt.isSome = (c.role == .claiming)
  period : c.deskAt.isSome = running
  due    : ∀ e, c.deskDue = some e → running = true ∧ e ≤ now

/-- With the role settled and the flag of 0xF051 with the peers. -/
structure Cru.Lawful (c : Cru) (running : Bool) (now : Time) : Prop extends c.Timed running now where
  settled  : c.nextRole false = c.role
  conflict : c.peerConflictRaised = c.seesConflict

theorem State.roleLawful_iff {s : State} :
    s.RoleLawful ↔ s.cru.Lawful s.running s.now ∧ (s.running = true → s.cru.keyOn = s.diu.key.taken) :=
  ⟨fun h => ⟨⟨⟨h.claim, h.period, h.due⟩, h.settled, h.conflict⟩, h.key⟩,
    fun ⟨h, key⟩ => ⟨h.settled, h.claim, h.period, h.due, h.conflict, key⟩⟩

theorem Cru.Timed.dueAt {c : Cru} {now : Time} (h : c.Timed true now) (e : Time) (due : c.dueAt now = some e) : e ≤ now := by
  obtain ⟨e', waited, same⟩ | ⟨-, e', -, reached, same⟩ | ⟨-, -, none⟩ := c.dueAt_cases now
  · rw [same] at due; cases due; exact (h.due _ waited).2
  · rw [same] at due; cases due; exact reached
  · rw [none] at due; cases due

/-- A change to the role that an evaluation gives. -/
theorem Cru.Timed.changed {c : Cru} {now : Time} (h : c.Timed true now) (expiry : Bool) (claimMs deskPeriodMs : Nat) :
    (c.changed (c.nextRole expiry) now claimMs deskPeriodMs).Lawful true now where
  claim := by
    simp only [Cru.changed]
    split
    · next claiming => rw [claiming]; rfl
    · next other => rw [beq_eq_false_iff_ne.2 other]; rfl
  period := rfl
  due e due := ⟨rfl, h.dueAt e due⟩
  settled := c.nextRole_nextRole expiry
  conflict := rfl

theorem Cru.Timed.evaluated {c : Cru} {now : Time} (h : c.Timed true now) (claimMs deskPeriodMs : Nat) :
    (if c.nextRole false = c.role then { c with peerConflictRaised := c.seesConflict }
      else c.changed (c.nextRole false) now claimMs deskPeriodMs).Lawful true now := by
  split
  · next same => exact { h with claim := h.claim, settled := same, conflict := rfl }
  · exact h.changed _ _ _

/-! ### Every event -/

theorem State.RoleLawful.congr {s u : State} (h : s.RoleLawful) (cru : u.cru = s.cru) (cfl : u.cfl = s.cfl)
    (now : u.now = s.now) (key : u.diu.key.taken = s.diu.key.taken) : u.RoleLawful := by
  rw [State.roleLawful_iff] at h ⊢
  rwa [cru, State.running_of_cfl cfl, now, key]

theorem State.RoleLawful.timed {s : State} (h : s.RoleLawful) (running : s.running = true) : s.cru.Timed true s.now := by
  rw [← running]
  exact (State.roleLawful_iff.1 h).1.toTimed

/-- An evaluation settles the role, whatever the peers and the key are. -/
theorem State.roleLawful_evaluateRole {s : State} (timed : s.cru.Timed true s.now) (running : s.running = true)
    (key : s.cru.keyOn = s.diu.key.taken) : (s.evaluateRole false).RoleLawful := by
  rw [State.roleLawful_iff, State.running_of_cfl (State.evaluateRole_cfl s false), running, State.evaluateRole_now,
    (State.evaluateRole_course s false).sameInputs.key, State.evaluateRole_cru]
  refine ⟨timed.evaluated _ _, fun _ => key.symm ▸ ?_⟩
  split
  · rfl
  · rfl

theorem State.RoleLawful.claimExpiry {s : State} (h : s.RoleLawful) (running : s.running = true)
    (runs : s.cru.claimAt.isSome = true) : s.claimExpiry.RoleLawful := by
  have claiming : s.cru.role = .claiming := by
    rw [h.claim] at runs
    exact beq_iff_eq.1 runs
  have changes : ({ s.cru with claimAt := none } : Cru).nextRole true ≠ s.cru.role := by
    rw [claiming]
    exact Cru.nextRole_expiry (c := { s.cru with claimAt := none }) claiming
  have timed := h.timed running
  rw [State.roleLawful_iff, State.running_of_cfl (State.claimExpiry_cfl s), running, State.claimExpiry_now,
    s.claimExpiry_course.sameInputs.key, State.claimExpiry, State.evaluateRole_cru, if_neg changes]
  exact ⟨timed.changed (c := s.cru) true _ _, fun _ => h.key running⟩

theorem State.RoleLawful.publish {s : State} (h : s.RoleLawful) (running : s.running = true) (c : SourceConfig)
    (after : EntryState) (payload : Option (List Byte)) : (s.publish c after payload).RoleLawful := by
  by_cases desk : c.kind = .desk
  · rw [show s.publish c after payload = s.cruPublished (Fin.ofNat 3 c.roleIndex) after payload by
      simp only [State.publish, desk]]
    exact State.roleLawful_evaluateRole (s := { s with cru := s.cru.withPeer _ after payload })
      { h.timed running with } running (h.key running)
  · exact h.congr (State.publish_cru s desk) (State.publish_cfl ..) (State.publish_now ..)
      (congrArg Contact.taken (State.publish_course s c after payload).sameInputs.key)

theorem State.RoleLawful.entryEvent {s : State} (h : s.RoleLawful) (running : s.running = true) (i : Fin 24) (r : EntryResult)
    (payload : List Byte) : (s.entryEvent i r payload).RoleLawful := by
  have written : ({ s with ssv := { s.ssv with entries := s.ssv.entries.set i r.entry } } : State).RoleLawful :=
    h.congr rfl rfl rfl rfl
  have told {u : State} (h : u.RoleLawful) (qs : List FaultRequest) : (u.requests qs).RoleLawful :=
    h.congr (by simp) (by simp) (by simp) (congrArg Contact.taken (Course.sameInputs (State.requests_acts u qs).course).key)
  rw [State.entryEvent_cases]
  split
  · exact told (written.publish running _ _ _) _
  · exact told written _

theorem State.RoleLawful.ssvArrival {s : State} (h : s.RoleLawful) (running : s.running = true) (f : Frame) :
    (s.ssvArrival f).RoleLawful := by
  unfold State.ssvArrival
  split
  · exact h
  · split
    · exact h
    · exact h.entryEvent running _ _ _

theorem State.RoleLawful.graceExpiry {s : State} (h : s.RoleLawful) (running : s.running = true) :
    s.graceExpiry.RoleLawful := by
  have entries (l : List (Fin 24)) {r : State} (h : r.RoleLawful) (running : r.running = true) :
      (l.foldl (fun s i => s.graceEntry i) r).RoleLawful := by
    induction l generalizing r with
    | nil => exact h
    | cons i rest ih =>
      refine ih ?_ ((State.running_of_cfl (State.graceEntry_cfl r i)).trans running)
      show (r.graceEntry i).RoleLawful
      unfold State.graceEntry
      split
      · exact h.entryEvent running _ _ _
      · exact h
  have flagged : ({ s with ssv := { s.ssv with graceAt := none, graceExpired := true } } : State).RoleLawful :=
    h.congr rfl rfl rfl rfl
  have told {u : State} (h : u.RoleLawful) : u.sfuGrace.asuGrace.RoleLawful :=
    h.congr (by simp) (by simp) (by simp)
      (congrArg Contact.taken (Course.sameInputs (u.sfuGrace_course.trans u.sfuGrace.asuGrace_course)).key)
  exact told (entries (List.finRange 24) flagged running)

/-- Only a key change takes another key. -/
theorem State.event_key {c : Instr} (start : isStart c = false) (other : c ≠ .keyChange) (s : State) :
    (s.event c).diu.key.taken = s.diu.key.taken := by
  cases shared : isCourse c with
  | true => exact congrArg Contact.taken (State.event_course shared s).sameInputs.key
  | false =>
    cases c with
    | acknowledgePress part =>
      have routed : s.routeAckPress.diu.key.taken = s.diu.key.taken := by
        rw [State.routeAckPress_eq]
        exact congrArg Contact.taken s.takeRoutedPress_course.sameInputs.key
      cases part with
      | whole =>
        exact (congrArg Contact.taken (State.takeRoutedPress_course s.routeAckPress).sameInputs.key).trans routed
      | routing => exact routed
      | taking => cases shared
    | scrollPress =>
      show s.takeScrollPress.diu.key.taken = _
      unfold State.takeScrollPress State.scrollWindow
      dsimp only
      split
      · split <;> rfl
      · rfl
    | inputLevelChange _ level =>
      cases level with
      | keyon high => show (s.diu.key.change _ _ _ _).taken = _; unfold Contact.change; split <;> rfl
      | _ => rfl
    | buttonRelease button => cases button <;> rfl
    | keyChange => exact absurd rfl other
    | reminderTimerExpiry | flashPhaseEnd _ | oneShotEnd => rw [State.event_diu rfl]
    | testPress | testRelease | dimmerChange | scrollReturnExpiry => rfl
    | reset | resetRelease | loadEnd | lampCheckTimerExpiry => cases start
    | _ => cases shared

theorem State.event_roleLawful {c : Instr} {s : State} {t : Time} (h : s.RoleLawful) (running : s.running = true)
    (start : isStart c = false) (moment : s.moment c = some t) : (s.event c).RoleLawful := by
  cases c with
  | arrival _ frame =>
    show (s.hearPeer frame _).RoleLawful
    have heard : (s.hearFrame frame).RoleLawful := h.congr (by simp) (by simp) (by simp) (by simp)
    unfold State.hearPeer
    split
    · exact heard.ssvArrival ((State.running_of_cfl (State.hearFrame_cfl s frame)).trans running) _
    · exact heard
  | lateTimerExpiry i => exact h.entryEvent running _ _ _
  | startupGraceExpiry => exact h.graceExpiry running
  | claimWindowExpiry => exact h.claimExpiry running (by rw [show s.cru.claimAt = some t from moment]; rfl)
  | keyChange =>
    show s.takeKey.RoleLawful
    unfold State.takeKey
    rw [if_pos running]
    exact State.roleLawful_evaluateRole (s := { s with
      diu := { s.diu with key := s.diu.key.take }, cru := { s.cru with keyOn := s.diu.key.level } })
      { h.timed running with } running rfl
  | deskPeriodExpiry =>
    show s.deskPeriod.RoleLawful
    rw [State.roleLawful_iff] at h ⊢
    rw [State.deskPeriod_cru, State.running_of_cfl (State.deskPeriod_cfl s), State.deskPeriod_now,
      s.deskPeriod_course.sameInputs.key]
    exact ⟨{ h.1 with period := running.symm, due := fun e due => nomatch due }, h.2⟩
  | reset | resetRelease | loadEnd | lampCheckTimerExpiry => cases start
  | _ =>
    refine h.congr ?_ ?_ (State.event_now _ s) ?_
    · exact State.event_cru rfl s
    · exact State.event_cfl rfl s
    · exact State.event_key rfl (by simp) s

/-- The role at rest is IDLE, with no timer and no peer (R131). -/
theorem State.AtRest.roleLawful {s : State} (h : s.AtRest) (still : s.running = false) : s.RoleLawful := by
  rw [State.roleLawful_iff, h.cru, still]
  exact ⟨⟨⟨rfl, rfl, fun e due => nomatch due⟩, rfl, rfl⟩, fun running => nomatch running⟩

/-- The first evaluation, at rest, with the key as it was taken (R131). -/
theorem State.AtRest.roleLawful_firstEvaluation {s : State} (h : s.begun.cru = Cru.reset) :
    s.begun.firstEvaluation.RoleLawful := by
  have running : s.begun.running = true := rfl
  rw [State.roleLawful_iff, State.running_of_cfl (State.firstEvaluation_cfl _), running, State.firstEvaluation_now,
    (State.firstEvaluation_course _).sameInputs.key, State.firstEvaluation_cru, h]
  let keyed : Cru := { Cru.reset with keyOn := s.begun.diu.key.taken }
  dsimp only
  split
  · next same => exact ⟨⟨⟨rfl, rfl, fun e due => nomatch due⟩, same, rfl⟩, fun _ => rfl⟩
  · refine ⟨⟨⟨?_, rfl, fun e due => nomatch due⟩, keyed.nextRole_nextRole false, rfl⟩, fun _ => rfl⟩
    simp only [Cru.changed]
    split
    · next claiming => rw [claiming]; rfl
    · next other => rw [beq_eq_false_iff_ne.2 other]; rfl

/-- Settles O56: a role is left only for the one that an evaluation gives, and an evaluation is settled. -/
theorem stepKeepsTheRoleLawful : Obligations.StepKeepsTheRoleLawful := by
  intro s u inv next
  refine inv.step next (fun s inv => inv.role) fun c s t inv moment reached => ?_
  obtain ⟨still, rest⟩ | same | ⟨checking, begun⟩ | ⟨running, start⟩ := State.event_cases inv moment reached
  · exact rest.roleLawful (beq_eq_false_iff_ne.2 still)
  · rw [same]; exact inv.role
  · have still : s.cfl.start ≠ .running := by rw [checking]; simp
    rw [begun]
    exact State.AtRest.roleLawful_firstEvaluation (inv.quiet.1 still).cru
  · exact State.event_roleLawful inv.role (beq_iff_eq.2 running) start moment

end Sys2Proof.Machine
end

section
/-! PROOFS. The transmit queue (R175, R176): where a frame handed to it goes, what stays lawful of it, and what it holds. -/

namespace Sys2Proof.Machine

open Sys2Proof

-- One proof after another: the many small proofs below, each on a thread of its own, would reserve more stacks than the check allows.
set_option Elab.async false

/-! ### Where a frame goes -/

/-- A frame that is no DESK frame, or finds no other in the queue. -/
def Lif.Fresh (l : Lif) (content : TxContent) : Prop :=
  content.isDesk = true → l.headIsDesk = false ∧ ∀ q ∈ l.waiting, q.content.isDesk = false

/-- The five places of a frame handed to the queue (R175). -/
inductive Lif.Places (l : Lif) (now : Time) (content : TxContent) : Placed → Prop
  | held (c : DeskContent) (desk : content = .desk c) (head : l.headIsDesk = true) :
    Places l now content { lif := { l with hold := some c }, lost := none }
  | refreshed (desk : content.isDesk = true) (head : l.headIsDesk = false) (queued : ∃ q ∈ l.waiting, q.content.isDesk = true) :
    Places l now content { lif := { l with waiting := refreshDesk content l.waiting }, lost := none }
  | entered (fresh : l.Fresh content) (room : l.length < queueCapacity) :
    Places l now content { lif := { l with waiting := enterQueue { content := content, entered := now } l.waiting }, lost := none }
  | replaced (fresh : l.Fresh content) (full : queueCapacity ≤ l.length) (front back : List QueuedFrame) (q : QueuedFrame)
      (waiting : l.waiting = front ++ q :: back) (normal : q.content.urgent = false) :
    Places l now content {
      lif := { l with waiting := enterQueue { content := content, entered := now } (front ++ back) }, lost := some q.content }
  | dropped (full : queueCapacity ≤ l.length) : Places l now content { lif := l, lost := some content }

theorem Lif.places_enterFor {l : Lif} {now : Time} {content : TxContent} (fresh : l.Fresh content)
    (full : queueCapacity ≤ l.length) {test : TxContent → Bool} (normal : ∀ c, test c = true → c.urgent = false) :
    l.Places now content (l.enterFor { content := content, entered := now } test) := by
  obtain ⟨-, dropped⟩ | ⟨front, q, back, waiting, passes, -, replaced⟩ := l.enterFor_cases { content := content, entered := now } test
  · rw [dropped]; exact .dropped full
  · rw [replaced]; exact .replaced fresh full front back q waiting (normal _ passes)

theorem TxContent.urgent_of_isSnap {c : TxContent} (h : c.isSnap = true) : c.urgent = false := by
  cases c with
  | snapState | snapFaults => rfl
  | _ => cases h

theorem TxContent.urgent_of_isDesk {c : TxContent} (h : c.isDesk = true) : c.urgent = false := by
  cases c with
  | desk => rfl
  | _ => cases h

/-- A handed frame goes to one of the five places. -/
theorem Lif.places (l : Lif) (now : Time) (content : TxContent) : l.Places now content (l.place now content) := by
  have ordinary (normal : content.isDesk = false) {p : Placed} (full : queueCapacity ≤ l.length → l.Places now content p) :
      l.Places now content (if decide (l.length < queueCapacity) then
        { lif := { l with waiting := enterQueue { content := content, entered := now } l.waiting }, lost := none } else p) := by
    split
    · next room => exact .entered (fun desk => absurd desk (Bool.eq_false_iff.1 normal)) (of_decide_eq_true room)
    · next none => exact full (Nat.not_lt.1 fun room => none (decide_eq_true room))
  have pressing (normal : content.isDesk = false) (full : queueCapacity ≤ l.length) :
      l.Places now content (l.enterFor { content := content, entered := now } fun c => !c.urgent) :=
    Lif.places_enterFor (fun desk => absurd desk (Bool.eq_false_iff.1 normal)) full fun c passes => by simpa using passes
  unfold Lif.place
  cases content with
  | desk c =>
    dsimp only
    split
    · next head => exact .held c rfl head
    · next head =>
      split
      · next queued => exact .refreshed rfl (Bool.eq_false_iff.2 head) (List.any_eq_true.1 queued)
      · next unqueued =>
        have fresh : l.Fresh (.desk c) := fun _ =>
          ⟨Bool.eq_false_iff.2 head, fun q mem => Bool.eq_false_iff.2 fun desk => unqueued (List.any_eq_true.2 ⟨q, mem, desk⟩)⟩
        split
        · next room => exact .entered fresh (of_decide_eq_true room)
        · next none =>
          exact Lif.places_enterFor fresh (Nat.not_lt.1 fun room => none (decide_eq_true room)) fun c => TxContent.urgent_of_isSnap
  | snapState _ | snapFaults _ => exact ordinary rfl .dropped
  | acknAspect _ _ | acknFault _ _ | overdue _ _ _ => exact ordinary rfl (pressing rfl)

/-! ### What stays lawful of the queue -/

/-- The frames that wait and the head, within the room and in their order (R173 to R175). -/
structure Lif.Queued (l : Lif) (now : Time) : Prop where
  room     : l.length ≤ queueCapacity
  oneDesk  : (l.contents.filter TxContent.isDesk).length ≤ 1
  ordered  : l.waiting.Pairwise queuedBefore
  entered  : ∀ q ∈ l.waiting, q.entered ≤ now
  attempts : ∀ h, l.head = some h → h.attempts < attemptLimit
  hold     : l.hold.isSome = true → l.headIsDesk = true

/-- The driver and the line (R165, R173, R176, R178). -/
structure Lif.Driven (l : Lif) (own : Nat) (now : Time) : Prop where
  driving  : l.drive = .head → l.head.isSome = true ∧ l.driven = l.headBytes own
  pruned   : l.drive = .pruned → l.head = none
  silent   : l.drive = .released → l.driven = []
  idle     : l.drive ≠ .released → l.idleSince = none
  timed    : l.drivenAt.isSome = (l.drive != .released)
  begun    : (∀ t, l.drivenAt = some t → t ≤ now) ∧ ∀ t, l.idleSince = some t → t ≤ now

theorem State.lineLawful_iff {s : State} : s.LineLawful ↔ s.lif.Queued s.now ∧ s.lif.Driven s.own s.now :=
  ⟨fun h => ⟨⟨h.room, h.oneDesk, h.ordered, h.entered, h.attempts, h.hold⟩,
      ⟨h.driving, h.pruned, h.silent, h.idle, h.timed, h.begun⟩⟩,
    fun ⟨q, d⟩ => ⟨q.room, q.oneDesk, q.ordered, q.entered, q.attempts, q.hold, d.driving, d.pruned, d.silent, d.idle, d.timed,
      d.begun⟩⟩

/-- The content of the head, in a list of its own. -/
def Lif.headContents (l : Lif) : List TxContent :=
  match l.head with
  | some h => [h.content]
  | none => []

theorem Lif.contents_eq (l : Lif) : l.contents = l.headContents ++ l.waiting.map (·.content) := rfl

theorem Lif.headContents_eq_nil {l : Lif} (h : l.head = none) : l.headContents = [] := by
  unfold Lif.headContents; rw [h]

theorem Lif.headIsDesk_eq (l : Lif) : l.headIsDesk = l.headContents.any TxContent.isDesk := by
  unfold Lif.headIsDesk Lif.headContents
  cases l.head <;> simp

section
variable {l : Lif} {now : Time}

/-- Fewer frames wait. -/
theorem Lif.Queued.sublist (h : l.Queued now) {waiting : List QueuedFrame} (sub : waiting.Sublist l.waiting) :
    ({ l with waiting := waiting } : Lif).Queued now where
  room := Nat.le_trans (Nat.add_le_add_right sub.length_le _) h.room
  oneDesk := Nat.le_trans
    ((List.Sublist.append_left (sub.map _) l.headContents).filter TxContent.isDesk).length_le h.oneDesk
  ordered := h.ordered.sublist sub
  entered q mem := h.entered q (sub.subset mem)
  attempts := h.attempts
  hold := h.hold

theorem pairwise_enterQueue {f : QueuedFrame} {waiting : List QueuedFrame} (ordered : waiting.Pairwise queuedBefore)
    (newest : ∀ q ∈ waiting, q.entered ≤ f.entered) : (enterQueue f waiting).Pairwise queuedBefore := by
  unfold enterQueue
  split
  · next urgent =>
    refine List.pairwise_append.2 ⟨ordered.filter _, List.pairwise_cons.2 ⟨fun q mem => ?_, ordered.filter _⟩,
      fun a amem b bmem => ?_⟩
    · exact .inl ⟨urgent, by simpa using (List.mem_filter.1 mem).2⟩
    · obtain ⟨amem, aurgent⟩ := List.mem_filter.1 amem
      obtain rfl | bmem := List.mem_cons.1 bmem
      · exact .inr ⟨aurgent.trans urgent.symm, newest a amem⟩
      · exact .inl ⟨aurgent, by simpa using (List.mem_filter.1 bmem).2⟩
  · next normal =>
    refine List.pairwise_append.2 ⟨ordered, List.pairwise_singleton _ _, fun a amem b bmem => ?_⟩
    obtain rfl := List.mem_singleton.1 bmem
    cases aurgent : a.content.urgent with
    | true => exact .inl ⟨aurgent, Bool.eq_false_iff.2 normal⟩
    | false => exact .inr ⟨aurgent.trans (Bool.eq_false_iff.2 normal).symm, newest a amem⟩

/-- A frame enters a queue with room. -/
theorem Lif.Queued.enter (h : l.Queued now) {content : TxContent} (fresh : l.Fresh content) (room : l.length < queueCapacity) :
    ({ l with waiting := enterQueue { content := content, entered := now } l.waiting } : Lif).Queued now where
  room := by
    have grown : ({ l with waiting := enterQueue { content := content, entered := now } l.waiting } : Lif).length = l.length + 1 := by
      simp only [Lif.length, length_enterQueue]
      omega
    rw [grown]
    exact room
  oneDesk := by
    have counts := ((enterQueue_perm { content := content, entered := now } l.waiting).map (·.content)).append_left l.headContents
    show ((l.headContents ++ (enterQueue _ l.waiting).map (·.content)).filter TxContent.isDesk).length ≤ 1
    rw [(counts.filter TxContent.isDesk).length_eq]
    cases desk : content.isDesk with
    | false =>
      have one := h.oneDesk
      rw [Lif.contents_eq] at one
      simpa [List.filter_append, List.filter_cons, desk] using one
    | true =>
      obtain ⟨head, waiting⟩ := fresh desk
      have noHead : l.headContents.filter TxContent.isDesk = [] := by
        rw [Lif.headIsDesk_eq, List.any_eq_false] at head
        exact List.filter_eq_nil_iff.2 head
      have noneWait : (l.waiting.map (·.content)).filter TxContent.isDesk = [] := by
        refine List.filter_eq_nil_iff.2 fun c mem => ?_
        obtain ⟨q, qmem, rfl⟩ := List.mem_map.1 mem
        rw [waiting q qmem]
        exact Bool.false_ne_true
      simp [List.filter_append, desk, noHead, noneWait]
  ordered := pairwise_enterQueue h.ordered h.entered
  entered q mem := by
    obtain rfl | mem := mem_enterQueue.1 mem
    · exact Nat.le_refl now
    · exact h.entered q mem
  attempts := h.attempts
  hold := h.hold

theorem isDesk_refreshed {content : TxContent} (desk : content.isDesk = true) (q : QueuedFrame) :
    (if q.content.isDesk then { q with content := content } else q).content.isDesk = q.content.isDesk := by
  split
  · next is => rw [is]; exact desk
  · rfl

/-- The queued DESK frame takes another content in its place. -/
theorem Lif.Queued.refresh (h : l.Queued now) {content : TxContent} (desk : content.isDesk = true) :
    ({ l with waiting := refreshDesk content l.waiting } : Lif).Queued now where
  room := by
    rw [show ({ l with waiting := refreshDesk content l.waiting } : Lif).length = l.length by simp [Lif.length]]
    exact h.room
  oneDesk := by
    have same : (fun q : QueuedFrame => (if q.content.isDesk then { q with content := content } else q).content.isDesk) =
        fun q => q.content.isDesk := funext fun q => isDesk_refreshed desk q
    have one := h.oneDesk
    rw [← List.countP_eq_length_filter, Lif.contents_eq, List.countP_append, List.countP_map] at one
    rw [← List.countP_eq_length_filter, Lif.contents_eq, List.countP_append, refreshDesk, List.map_map, List.countP_map]
    exact Nat.le_trans (Nat.le_of_eq (congrArg (fun p => l.headContents.countP TxContent.isDesk + l.waiting.countP p) same)) one
  ordered := by
    refine h.ordered.map _ fun a b before => ?_
    have same (q : QueuedFrame) :
        (if q.content.isDesk then { q with content := content } else q : QueuedFrame).content.urgent = q.content.urgent ∧
          (if q.content.isDesk then { q with content := content } else q : QueuedFrame).entered = q.entered := by
      split
      · next is => exact ⟨(TxContent.urgent_of_isDesk desk).trans (TxContent.urgent_of_isDesk is).symm, rfl⟩
      · exact ⟨rfl, rfl⟩
    unfold queuedBefore
    rw [(same a).1, (same b).1, (same a).2, (same b).2]
    exact before
  entered q mem := by
    obtain ⟨r, rmem, rfl⟩ := List.mem_map.1 mem
    have entered := h.entered r rmem
    split <;> exact entered
  attempts := h.attempts
  hold := h.hold

theorem Lif.Queued.place (h : l.Queued now) (content : TxContent) : (l.place now content).lif.Queued now := by
  have placed := l.places now content
  generalize l.place now content = placement at placed ⊢
  cases placed with
  | held c desk head => exact { h with hold := fun _ => head }
  | refreshed desk _ _ => exact h.refresh desk
  | entered fresh room => exact h.enter fresh room
  | dropped => exact h
  | replaced fresh full front back q waiting normal =>
    have sub : (front ++ back).Sublist l.waiting := by
      rw [waiting]
      exact List.Sublist.append_left (List.sublist_cons_self q back) front
    have room : ({ l with waiting := front ++ back } : Lif).length < queueCapacity := by
      have within := h.room
      simp only [Lif.length, waiting, List.length_append, List.length_cons] at within ⊢
      omega
    exact (h.sublist sub).enter (l := { l with waiting := front ++ back })
      (fun desk => ⟨(fresh desk).1, fun r mem => (fresh desk).2 r (sub.subset mem)⟩) room

theorem Lif.Driven.place {own : Nat} (h : l.Driven own now) (content : TxContent) : (l.place now content).lif.Driven own now := by
  rw [Lif.place_lif]
  exact { h with driving := h.driving }

end

/-! ### What the queue holds -/

/-- How many frames of the queue pass a test. -/
def Lif.count (l : Lif) (p : TxContent → Bool) : Nat := l.contents.countP p

theorem Lif.count_eq (l : Lif) (p : TxContent → Bool) :
    l.count p = l.headContents.countP p + l.waiting.countP (fun q => p q.content) := by
  rw [Lif.count, Lif.contents_eq, List.countP_append, List.countP_map]
  rfl

/-- One frame counted by a test. -/
def counted (p : TxContent → Bool) (c : TxContent) : Nat := if p c then 1 else 0

theorem countP_cons_counted (p : TxContent → Bool) (q : QueuedFrame) (l : List QueuedFrame) :
    (q :: l).countP (fun q => p q.content) = l.countP (fun q => p q.content) + counted p q.content := by
  rw [List.countP_cons, counted]

/-- A test that passes no DESK frame counts what was handed, less what was lost (R175). -/
theorem Lif.count_place (l : Lif) (now : Time) (content : TxContent) {p : TxContent → Bool}
    (desks : ∀ c : TxContent, c.isDesk = true → p c = false) :
    (l.place now content).lif.count p + ((l.place now content).lost.elim 0 (counted p)) = l.count p + counted p content := by
  have placed := l.places now content
  generalize l.place now content = placement at placed ⊢
  cases placed with
  | held c desk head =>
    subst desk
    simp only [Option.elim_none, counted, desks (.desk c) rfl]
    rfl
  | refreshed desk _ _ =>
    simp only [Option.elim_none, counted, desks content desk, Lif.count_eq, refreshDesk, List.countP_map]
    congr 3
    funext q
    simp only [Function.comp]
    split
    · next is => rw [desks content desk, desks q.content is]
    · rfl
  | entered fresh room =>
    rw [Lif.count_eq, Lif.count_eq]
    dsimp only
    rw [(enterQueue_perm _ _).countP_eq, countP_cons_counted]
    simp only [Option.elim_none, Lif.headContents]
    omega
  | dropped => rfl
  | replaced fresh full front back q waiting normal =>
    rw [Lif.count_eq, Lif.count_eq]
    dsimp only
    rw [(enterQueue_perm _ _).countP_eq, countP_cons_counted, waiting, List.countP_append, List.countP_append,
      countP_cons_counted]
    simp only [Option.elim_some, Lif.headContents]
    omega

/-- Nothing stands in the queue after a frame was handed but the frame and what stood there. -/
theorem Lif.mem_place {l : Lif} {now : Time} {content c : TxContent} (h : c ∈ (l.place now content).lif.contents) :
    c = content ∨ c ∈ l.contents := by
  have entering {w waiting : List QueuedFrame} (sub : waiting ⊆ l.waiting)
      (mem : c ∈ l.headContents ++ (enterQueue { content := content, entered := now } waiting).map (·.content)) :
      c = content ∨ c ∈ l.contents := by
    obtain head | wait := List.mem_append.1 mem
    · exact .inr (List.mem_append_left _ head)
    · obtain ⟨q, qmem, rfl⟩ := List.mem_map.1 wait
      obtain rfl | qmem := mem_enterQueue.1 qmem
      · exact .inl rfl
      · exact .inr (List.mem_append_right _ (List.mem_map.2 ⟨q, sub qmem, rfl⟩))
  have placed := l.places now content
  generalize l.place now content = placement at placed h
  revert h
  cases placed with
  | held => exact .inr
  | refreshed desk _ _ =>
    intro h
    obtain head | wait := List.mem_append.1 h
    · exact .inr (List.mem_append_left _ head)
    · obtain ⟨q, qmem, rfl⟩ := List.mem_map.1 wait
      obtain ⟨r, rmem, rfl⟩ := List.mem_map.1 qmem
      split
      · exact .inl rfl
      · exact .inr (List.mem_append_right _ (List.mem_map.2 ⟨r, rmem, rfl⟩))
  | entered => exact entering (w := []) (List.Subset.refl _)
  | dropped => exact .inr
  | replaced fresh full front back q waiting normal =>
    refine entering (w := []) fun r mem => ?_
    rw [waiting]
    exact (List.Sublist.append_left (List.sublist_cons_self q back) front).subset mem

end Sys2Proof.Machine
end

section
/-! PROOFS. What every step keeps of the transmit queue, the driver and the snapshot latch (R165, R173 to R176, R189, R191). -/

namespace Sys2Proof.Machine

open Sys2Proof

-- One proof after another: the many small proofs below, each on a thread of its own, would reserve more stacks than the check allows.
set_option Elab.async false

/-! ### What a handed frame leaves at the LIF and the SNU -/

theorem State.queueLoss_lif (s : State) : s.queueLoss.lif = { s.lif with queueLossRaised := true } := by
  unfold State.queueLoss
  split
  · next raised => rw [← raised]
  · rw [State.flmRaise_lif]

theorem State.queueEased_lif (s : State) : s.queueEased.lif =
    { s.lif with queueLossRaised := s.lif.queueLossRaised && !decide (s.lif.length ≤ 4) } := by
  unfold State.queueEased
  split
  · next eased =>
    obtain ⟨raised, few⟩ := Bool.and_eq_true_iff.1 eased
    rw [State.flmClear_lif, raised, few]
    rfl
  · next kept =>
    have same : (s.lif.queueLossRaised && !decide (s.lif.length ≤ 4)) = s.lif.queueLossRaised := by
      cases raised : s.lif.queueLossRaised <;> simp_all
    rw [same]

theorem State.handFrame_lif (s : State) (content : TxContent) : (s.handFrame content).lif =
    { (s.lif.place s.now content).lif with
      queueLossRaised := s.lif.queueLossRaised || (s.lif.place s.now content).lost.isSome } := by
  obtain ⟨kept, same⟩ | ⟨c, lost, same⟩ := s.handFrame_cases content
  · rw [same, kept, Option.isSome_none, Bool.or_false, Lif.place_lif]
  · rw [same, State.queueLoss_lif, lost, Option.isSome_some, Bool.or_true]

theorem State.handFrame_snu (s : State) (content : TxContent) :
    (s.handFrame content).snu = (s.lif.place s.now content).lost.elim s.snu s.snu.notice := by
  obtain ⟨kept, same⟩ | ⟨c, lost, same⟩ := s.handFrame_cases content
  · rw [same, kept]; rfl
  · rw [same, State.queueLoss_snu, lost]; rfl

/-! ### The latch and its frames -/

def TxContent.isSnapState (c : TxContent) : Bool := c.isSnap && match c with
  | .snapState _ => true
  | _ => false

def TxContent.isSnapFaults (c : TxContent) : Bool := c.isSnap && match c with
  | .snapFaults _ => true
  | _ => false

theorem Lif.snapStates_eq (l : Lif) : l.snapStates = l.count TxContent.isSnapState := by
  rw [Lif.snapStates, Lif.count, List.countP_eq_length_filter]
  congr 2
  funext c
  cases c <;> rfl

theorem Lif.snapFaults_eq (l : Lif) : l.snapFaults = l.count TxContent.isSnapFaults := by
  rw [Lif.snapFaults, Lif.count, List.countP_eq_length_filter]
  congr 2
  funext c
  cases c <;> rfl

/-- The latch is held for these numbers of SNAPSTATE and SNAPFAULTS frames (R189, R191). -/
def Snu.Accounts (u : Snu) (states faults : Nat) : Prop :=
  match u.latch with
  | none => states = 0 ∧ faults = 0
  | some l =>
    (l.outstanding.state = true ∨ l.outstanding.faults = true) ∧
    states = (if l.outstanding.state then 1 else 0) ∧ faults = (if l.outstanding.faults then 1 else 0)

theorem State.latchLawful_iff {s : State} :
    s.LatchLawful ↔ s.snu.Accounts (s.lif.count TxContent.isSnapState) (s.lif.count TxContent.isSnapFaults) := by
  have same : s.LatchLawful ↔ s.snu.Accounts s.lif.snapStates s.lif.snapFaults := by
    unfold State.LatchLawful Snu.Accounts
    cases s.snu.latch <;> exact Iff.rfl
  rw [← Lif.snapStates_eq, ← Lif.snapFaults_eq]
  exact same

/-- A snapshot frame that has left is no longer outstanding; with the last the latch is free (R191). -/
theorem Snu.Accounts.notice {u : Snu} {c : TxContent} {states faults : Nat}
    (h : u.Accounts (states + counted TxContent.isSnapState c) (faults + counted TxContent.isSnapFaults c)) :
    (u.notice c).Accounts states faults := by
  have other (plain : c.isSnap = false) : (u.notice c).Accounts states faults := by
    rw [Snu.notice_of_not_snap plain]
    simpa [counted, TxContent.isSnapState, TxContent.isSnapFaults, plain] using h
  cases latch : u.latch with
  | none =>
    have none : (u.notice c).latch = none := by simp [Snu.notice, latch]
    rw [Snu.Accounts, latch] at h
    rw [Snu.Accounts, none]
    exact ⟨Nat.eq_zero_of_add_eq_zero_right h.1, Nat.eq_zero_of_add_eq_zero_right h.2⟩
  | some l =>
    rw [Snu.Accounts, latch] at h
    obtain ⟨-, stateCount, faultCount⟩ := h
    cases c with
    | snapState _ =>
      simp only [counted, TxContent.isSnapState, TxContent.isSnapFaults, TxContent.isSnap] at stateCount faultCount
      cases state : l.outstanding.state <;> cases fault : l.outstanding.faults <;>
        simp [Snu.Accounts, Snu.notice, latch, TxContent.isSnap, state, fault] at stateCount faultCount ⊢ <;> omega
    | snapFaults _ =>
      simp only [counted, TxContent.isSnapState, TxContent.isSnapFaults, TxContent.isSnap] at stateCount faultCount
      cases state : l.outstanding.state <;> cases fault : l.outstanding.faults <;>
        simp [Snu.Accounts, Snu.notice, latch, TxContent.isSnap, state, fault] at stateCount faultCount ⊢ <;> omega
    | _ => exact other rfl

theorem TxContent.isSnapState_of_isDesk {c : TxContent} (h : c.isDesk = true) : c.isSnapState = false := by
  cases c with
  | desk => rfl
  | _ => cases h

theorem TxContent.isSnapFaults_of_isDesk {c : TxContent} (h : c.isDesk = true) : c.isSnapFaults = false := by
  cases c with
  | desk => rfl
  | _ => cases h

theorem counted_of_not_snap {c : TxContent} (h : c.isSnap = false) :
    counted TxContent.isSnapState c = 0 ∧ counted TxContent.isSnapFaults c = 0 := by
  simp [counted, TxContent.isSnapState, TxContent.isSnapFaults, h]

/-! ### What the line keeps -/

/-- The queue, the driver and the latch. -/
structure State.LinePlaced (s : State) : Prop where
  queue  : s.lif.Queued s.now
  driver : s.lif.Driven s.own s.now
  latch  : s.snu.Accounts (s.lif.count TxContent.isSnapState) (s.lif.count TxContent.isSnapFaults)

/-- With urgent frames in ACTIVE only. -/
structure State.LineKept (s : State) : Prop extends s.LinePlaced where
  urgent : s.UrgentOnlyActive

theorem State.lineKept_iff {s : State} : s.LineKept ↔ s.LineLawful ∧ s.UrgentOnlyActive ∧ s.LatchLawful := by
  rw [State.lineLawful_iff, State.latchLawful_iff]
  exact ⟨fun h => ⟨⟨h.queue, h.driver⟩, h.urgent, h.latch⟩, fun ⟨⟨queue, driver⟩, urgent, latch⟩ => ⟨⟨queue, driver, latch⟩, urgent⟩⟩

theorem State.LinePlaced.congr {s u : State} (h : s.LinePlaced) (lif : u.lif = s.lif) (snu : u.snu = s.snu)
    (cfl : u.cfl = s.cfl) (now : u.now = s.now) : u.LinePlaced where
  queue := by rw [lif, now]; exact h.queue
  driver := by rw [lif, now, State.own_of_cfl cfl]; exact h.driver
  latch := by rw [lif, snu]; exact h.latch

theorem State.LineKept.congr {s u : State} (h : s.LineKept) (lif : u.lif = s.lif) (snu : u.snu = s.snu)
    (role : u.cru.role = s.cru.role) (cfl : u.cfl = s.cfl) (now : u.now = s.now) : u.LineKept where
  toLinePlaced := h.toLinePlaced.congr lif snu cfl now
  urgent := by rw [State.UrgentOnlyActive, lif, role]; exact h.urgent

/-- A frame handed for which the latch accounts already, and for others still to be handed (R190, R191). -/
theorem State.accounts_handFrame {s : State} {content : TxContent} {states faults : Nat}
    (h : s.snu.Accounts (s.lif.count TxContent.isSnapState + counted TxContent.isSnapState content + states)
      (s.lif.count TxContent.isSnapFaults + counted TxContent.isSnapFaults content + faults)) :
    (s.handFrame content).snu.Accounts ((s.handFrame content).lif.count TxContent.isSnapState + states)
      ((s.handFrame content).lif.count TxContent.isSnapFaults + faults) := by
  have stateCount := s.lif.count_place s.now content @TxContent.isSnapState_of_isDesk
  have faultCount := s.lif.count_place s.now content @TxContent.isSnapFaults_of_isDesk
  rw [← stateCount, ← faultCount] at h
  rw [State.handFrame_lif, State.handFrame_snu]
  cases lost : (s.lif.place s.now content).lost with
  | none => rw [lost] at h; exact h
  | some c =>
    rw [lost, Option.elim_some, Option.elim_some, Nat.add_right_comm _ _ states, Nat.add_right_comm _ _ faults] at h
    exact h.notice

theorem State.queued_handFrame {s : State} (h : s.lif.Queued s.now) (content : TxContent) :
    (s.handFrame content).lif.Queued (s.handFrame content).now := by
  rw [State.handFrame_lif, State.handFrame_now]
  exact { h.place content with }

theorem State.driven_handFrame {s : State} (h : s.lif.Driven s.own s.now) (content : TxContent) :
    (s.handFrame content).lif.Driven (s.handFrame content).own (s.handFrame content).now := by
  rw [State.handFrame_lif, State.handFrame_now, State.own_of_cfl (State.handFrame_cfl s content)]
  exact { h.place content with driving := (h.place content).driving }

theorem State.UrgentOnlyActive.handFrame {s : State} (h : s.UrgentOnlyActive) {content : TxContent}
    (urgent : content.urgent = true → s.cru.role = .active) : (s.handFrame content).UrgentOnlyActive := by
  intro other c mem
  rw [State.handFrame_cru] at other
  rw [State.handFrame_lif] at mem
  obtain rfl | mem := Lif.mem_place (l := s.lif) mem
  · exact Bool.eq_false_iff.2 fun is => other (urgent is)
  · exact h other c mem

theorem State.LineKept.handFrame {s : State} (h : s.LineKept) {content : TxContent} (plain : content.isSnap = false)
    (urgent : content.urgent = true → s.cru.role = .active) : (s.handFrame content).LineKept where
  queue := State.queued_handFrame h.queue content
  driver := State.driven_handFrame h.driver content
  latch := by
    obtain ⟨states, faults⟩ := counted_of_not_snap plain
    refine State.accounts_handFrame (states := 0) (faults := 0) ?_
    rw [states, faults]
    exact h.latch
  urgent := h.urgent.handFrame urgent

theorem State.LineKept.handDesk {s : State} (h : s.LineKept) (before between after : FlmView) :
    (s.handDesk before between after).LineKept :=
  State.LineKept.handFrame (s := { s with
    cru := { s.cru with deskAt := s.inMs s.cfg.deskPeriodMs, deskDue := s.cru.dueAt s.now }
    freeIndex := s.freeIndex + 1 }) (h.congr rfl rfl rfl rfl rfl) rfl (fun urgent => nomatch urgent)

theorem State.LineKept.announceOverdue {s : State} (h : s.LineKept) (active : s.cru.role = .active) (r : PendingAck)
    (time : Nat) : (s.announceOverdue r time).LineKept :=
  State.LineKept.handFrame (s := { s with asu := { s.asu with repeatAt := s.inMs overdueRepeatMs } })
    (h.congr rfl rfl rfl rfl rfl) rfl fun _ => active

theorem State.LinePlaced.queueEased {s : State} (h : s.LinePlaced) : s.queueEased.LinePlaced where
  queue := by
    rw [State.queueEased_lif, State.queueEased_now]
    exact { h.queue with }
  driver := by
    rw [State.queueEased_lif, State.queueEased_now, State.own_of_cfl (State.queueEased_cfl s)]
    exact { h.driver with driving := h.driver.driving }
  latch := by
    rw [State.queueEased_lif, State.queueEased_snu]
    exact h.latch

theorem State.LineKept.queueEased {s : State} (h : s.LineKept) : s.queueEased.LineKept where
  toLinePlaced := h.toLinePlaced.queueEased
  urgent := by
    rw [State.UrgentOnlyActive, State.queueEased_lif, State.queueEased_cru]
    exact h.urgent

/-! ### The head leaves -/

/-- The queue without its head and with the DESK hold emptied, the SNU told. -/
theorem State.LineKept.headGone {s : State} (h : s.LineKept) (released : s.lif.drive = .released) {f : HeadFrame}
    (head : s.lif.head = some f) :
    ({ s with lif := { s.lif with head := none, hold := none }, snu := s.snu.notice f.content } : State).LineKept := by
  have contents : s.lif.contents = f.content :: s.lif.waiting.map (·.content) := by
    rw [Lif.contents_eq, Lif.headContents, head]; rfl
  have counts (p : TxContent → Bool) :
      s.lif.count p = ({ s.lif with head := none, hold := none } : Lif).count p + counted p f.content := by
    rw [Lif.count, contents, List.countP_cons, counted]
    rfl
  refine ⟨⟨?_, ?_, ?_⟩, ?_⟩
  · exact {
      room := Nat.le_trans (Nat.le_add_right _ _) h.queue.room
      oneDesk := by
        have one := h.queue.oneDesk
        rw [contents] at one
        exact Nat.le_trans ((List.sublist_cons_self _ _).filter _).length_le one
      ordered := h.queue.ordered
      entered := h.queue.entered
      attempts := fun _ head => nomatch head
      hold := fun some => nomatch some }
  · exact { h.driver with
      driving := fun driving => absurd (released.symm.trans driving) (by decide)
      pruned := fun _ => rfl }
  · refine Snu.Accounts.notice ?_
    have latch := h.latch
    rw [counts, counts] at latch
    exact latch
  · intro other c mem
    exact h.urgent other c (by rw [contents]; exact List.mem_cons_of_mem _ mem)

theorem State.LineKept.headLeaves {s : State} (h : s.LineKept) (released : s.lif.drive = .released) :
    s.headLeaves.LineKept := by
  unfold State.headLeaves
  split
  · exact h
  · next f head =>
    have gone := h.headGone released head
    refine State.LineKept.queueEased ?_
    unfold State.enterHold
    split
    · exact gone.handFrame rfl fun urgent => nomatch urgent
    · next none => exact gone.congr (by rw [← none]) rfl rfl rfl rfl

theorem State.idleStart_le_now (s : State) : s.idleStart ≤ s.now := by
  unfold State.idleStart
  split
  · exact Nat.min_le_left _ _
  · exact Nat.le_refl _

theorem State.LineKept.releaseLine {s : State} (h : s.LineKept) : s.releaseLine.LineKept where
  queue := { h.queue with }
  driver := {
    driving := fun driving => nomatch driving
    pruned := fun pruned => nomatch pruned
    silent := fun _ => rfl
    idle := fun driving => absurd rfl driving
    timed := rfl
    begun := ⟨fun _ driven => (nomatch driven), fun _ idle => Option.some.inj idle ▸ s.idleStart_le_now⟩ }
  latch := h.latch
  urgent := h.urgent

theorem State.LineKept.sendSucceeded {s : State} (h : s.LineKept) : s.sendSucceeded.LineKept := by
  have cleared : ({ s with lif := { s.lif with failedSendRaised := false } } : State).LineKept :=
    ⟨⟨{ h.queue with }, { h.driver with driving := h.driver.driving }, h.latch⟩, h.urgent⟩
  unfold State.sendSucceeded
  split
  · exact cleared.congr (by simp) (by simp) (by simp) (by simp) (by simp)
  · exact h

theorem State.LineKept.sendFailed {s : State} (h : s.LineKept) : s.sendFailed.LineKept := by
  have flagged : ({ s with lif := { s.lif with failedSendRaised := true } } : State).LineKept :=
    ⟨⟨{ h.queue with }, { h.driver with driving := h.driver.driving }, h.latch⟩, h.urgent⟩
  unfold State.sendFailed
  split
  · exact h
  · exact flagged.congr (by simp) (by simp) (by simp) (by simp) (by simp)

theorem State.LineKept.attemptSucceeds {s : State} (h : s.LineKept) : s.attemptSucceeds.LineKept := by
  unfold State.attemptSucceeds
  split
  · exact (h.releaseLine.headLeaves rfl).sendSucceeded
  · exact h

theorem State.LineKept.attemptCounted {s : State} (h : s.LineKept) (released : s.lif.drive = .released) :
    s.attemptCounted.LineKept := by
  unfold State.attemptCounted
  split
  · exact h
  · next f head =>
    split
    · next below =>
      have same : ({ s.lif with head := some { f with attempts := f.attempts + 1 } } : Lif).contents = s.lif.contents := by
        rw [Lif.contents_eq, Lif.contents_eq, Lif.headContents, Lif.headContents, head]
      have desk : ({ s.lif with head := some { f with attempts := f.attempts + 1 } } : Lif).headIsDesk = s.lif.headIsDesk := by
        rw [Lif.headIsDesk, Lif.headIsDesk, head]
      refine ⟨⟨?_, ?_, ?_⟩, ?_⟩
      · exact { h.queue with
          room := by have room := h.queue.room; simpa [Lif.length, head] using room
          oneDesk := by rw [same]; exact h.queue.oneDesk
          attempts := fun g some => by cases some; exact below
          hold := fun held => desk.trans (h.queue.hold held) }
      · exact { h.driver with
          driving := fun driving => absurd (released.symm.trans driving) (by decide)
          pruned := fun driving => absurd (released.symm.trans driving) (by decide) }
      · rw [Lif.count, Lif.count, same]; exact h.latch
      · rw [State.UrgentOnlyActive, same]; exact h.urgent
    · exact (h.headLeaves released).sendFailed

theorem State.LineKept.attemptFails {s : State} (h : s.LineKept) : s.attemptFails.LineKept := by
  unfold State.attemptFails
  split
  · exact h.releaseLine.attemptCounted rfl
  · exact h

theorem State.LineKept.prunedFrameEnds {s : State} (h : s.LineKept) : s.prunedFrameEnds.LineKept := by
  unfold State.prunedFrameEnds
  split
  · exact h.releaseLine
  · exact h

/-! ### An attempt starts -/

/-- The frame first in order becomes the head: the queue holds what it held. -/
theorem Lif.withHead_cases (l : Lif) :
    (l.withHead = l ∧ (l.head.isSome = true ∨ l.waiting = [])) ∨
    (∃ q rest, l.head = none ∧ l.waiting = q :: rest ∧ l.withHead = { l with
      head := some { content := q.content, entered := q.entered, seq := l.counters.of q.content, attempts := 0 }
      waiting := rest, counters := l.counters.advance q.content }) := by
  unfold Lif.withHead
  cases head : l.head with
  | some f => exact .inl ⟨rfl, .inl rfl⟩
  | none =>
    cases waiting : l.waiting with
    | nil => exact .inl ⟨rfl, .inr rfl⟩
    | cons q rest => exact .inr ⟨q, rest, rfl, rfl, rfl⟩

theorem Lif.withHead_contents (l : Lif) : l.withHead.contents = l.contents := by
  obtain ⟨same, -⟩ | ⟨q, rest, head, waiting, same⟩ := l.withHead_cases
  · rw [same]
  · rw [same, Lif.contents_eq, Lif.contents_eq, Lif.headContents_eq_nil head, waiting]
    rfl

theorem Lif.Queued.withHead {l : Lif} {now : Time} (h : l.Queued now) : l.withHead.Queued now := by
  obtain ⟨same, -⟩ | ⟨q, rest, head, waiting, same⟩ := l.withHead_cases
  · rwa [same]
  · have contents := l.withHead_contents
    rw [same] at contents ⊢
    exact {
      room := by have room := h.room; simpa [Lif.length, head, waiting] using room
      oneDesk := by rw [contents]; exact h.oneDesk
      ordered := (List.pairwise_cons.1 (waiting ▸ h.ordered)).2
      entered := fun r mem => h.entered r (waiting ▸ List.mem_cons_of_mem _ mem)
      attempts := fun f some => by cases some; exact Nat.zero_lt_succ 15
      hold := fun held => by
        have desk := h.hold held
        rw [Lif.headIsDesk, head] at desk
        cases desk }

/-- An attempt may start only where there is a first frame, and nothing is driven (R173). -/
theorem State.mayAttempt_iff {s : State} : s.mayAttempt = true ↔ ∃ c since, s.lif.first = some c ∧ s.lif.idleSince = some since ∧
    s.running = true ∧ s.lif.drive = .released ∧ since + accessGap s.own c * s.bitTime ≤ s.now := by
  unfold State.mayAttempt
  cases s.lif.first with
  | none => simp
  | some c => cases s.lif.idleSince with
    | none => simp
    | some since => simp [and_assoc]

theorem Lif.withHead_head {l : Lif} {c : TxContent} (h : l.first = some c) : l.withHead.head.isSome = true := by
  obtain ⟨same, head | waiting⟩ | ⟨q, rest, -, -, same⟩ := l.withHead_cases
  · rw [same]; exact head
  · rw [same]
    cases head : l.head with
    | some f => rfl
    | none => rw [Lif.first, head, waiting] at h; cases h
  · rw [same]; rfl

theorem State.LineKept.startAttempt {s : State} (h : s.LineKept) : s.startAttempt.LineKept := by
  unfold State.startAttempt
  split
  · next may =>
    obtain ⟨c, since, first, -, -, -, -⟩ := State.mayAttempt_iff.1 may
    refine ⟨⟨{ h.queue.withHead with }, ?_, ?_⟩, ?_⟩
    · exact {
        driving := fun _ => ⟨Lif.withHead_head first, rfl⟩
        pruned := fun driving => nomatch driving
        silent := fun driving => nomatch driving
        idle := fun _ => rfl
        timed := rfl
        begun := ⟨fun _ driven => by cases driven; exact Nat.le_refl _, fun _ idle => nomatch idle⟩ }
    · have latch := h.latch
      rw [Lif.count, Lif.count, ← Lif.withHead_contents] at latch
      exact latch
    · intro other c mem
      exact h.urgent other c (by rw [← Lif.withHead_contents]; exact mem)
  · exact h

/-! ### What is heard -/

/-- The receiver's own events change the line's idle state only, and nothing while the part drives. -/
theorem State.LineKept.heard {s : State} (h : s.LineKept) (released : s.lif.drive = .released) (idleSince : Option Time)
    (busyUntil : Time) (ignoring : Bool) (begun : ∀ t, idleSince = some t → t ≤ s.now) :
    ({ s with lif := { s.lif with idleSince := idleSince, busyUntil := busyUntil, ignoring := ignoring } } : State).LineKept where
  queue := { h.queue with }
  driver := { h.driver with
    driving := h.driver.driving
    idle := fun driving => absurd released driving
    begun := ⟨h.driver.begun.1, begun⟩ }
  latch := h.latch
  urgent := h.urgent

theorem State.LineKept.hearFrame {s : State} (h : s.LineKept) (bytes : List Byte) : (s.hearFrame bytes).LineKept := by
  unfold State.hearFrame
  split
  · next released => exact h.heard released _ _ _ fun t idle => by cases idle; exact Nat.le_refl _
  · exact h

theorem State.LineKept.hearStartBit {s : State} (h : s.LineKept) : s.hearStartBit.LineKept := by
  unfold State.hearStartBit
  split
  · next released => exact h.heard released none _ _ fun _ idle => nomatch idle
  · exact h

theorem State.LineKept.discardFrame {s : State} (h : s.LineKept) (bytes : List Byte) (ending : FrameEnding) :
    (s.discardFrame bytes ending).LineKept := by
  unfold State.discardFrame
  split
  · next released =>
    refine h.heard released.1 _ _ _ fun t idle => ?_
    cases ending with
    | whole => cases idle; exact Nat.le_refl _
    | badStopBit => cases idle
    | cutShort => cases idle; exact Nat.sub_le _ _
  · exact h

theorem State.LineKept.becomeReady {s : State} (h : s.LineKept) : s.becomeReady.LineKept := by
  unfold State.becomeReady
  split
  · next ready =>
    have released : s.lif.drive = .released := by simp_all
    refine h.heard released _ _ _ fun t idle => ?_
    cases since : s.lif.idleSince with
    | none => rw [since] at idle; cases idle; exact Nat.sub_le _ _
    | some e => rw [since] at idle; cases idle; exact h.driver.begun.2 e since
  · exact h

theorem State.LineKept.clash {s : State} (h : s.LineKept) : s.clash.LineKept := by
  have timed : ({ s with lif := { s.lif with clashAt := s.inMs clashMs } } : State).LineKept :=
    ⟨⟨{ h.queue with }, { h.driver with driving := h.driver.driving }, h.latch⟩, h.urgent⟩
  have flagged : ({ s with lif := { s.lif with clashAt := s.inMs clashMs, clashRaised := true } } : State).LineKept :=
    ⟨⟨{ h.queue with }, { h.driver with driving := h.driver.driving }, h.latch⟩, h.urgent⟩
  unfold State.clash
  dsimp only
  split
  · exact timed
  · exact flagged.congr (by simp) (by simp) (by simp) (by simp) (by simp)

theorem State.LineKept.clashOver {s : State} (h : s.LineKept) : s.clashOver.LineKept := by
  have cleared : ({ s with lif := { s.lif with clashAt := none, clashRaised := false } } : State).LineKept :=
    ⟨⟨{ h.queue with }, { h.driver with driving := h.driver.driving }, h.latch⟩, h.urgent⟩
  exact cleared.congr (by simp [State.clashOver]) (by simp) (by simp) (by simp) (by simp)

end Sys2Proof.Machine
end

section
/-! PROOFS. Every event on the transmit queue, the driver and the latch, event by event. -/

namespace Sys2Proof.Machine

open Sys2Proof

-- One proof after another: the many small proofs below, each on a thread of its own, would reserve more stacks than the check allows.
set_option Elab.async false

/-! ### Pruning -/

/-- Pruned, the queue holds what is not urgent of what it held (R128). -/
theorem Lif.pruned_contents (l : Lif) : l.pruned.contents = l.contents.filter (fun c => !c.urgent) := by
  rw [Lif.contents_eq, Lif.contents_eq, List.filter_append, List.filter_map]
  congr 1
  unfold Lif.headContents Lif.pruned Lif.headUrgent
  cases l.head with
  | none => rfl
  | some f => cases urgent : f.content.urgent <;> simp [urgent]

theorem Lif.pruned_length_le (l : Lif) : l.pruned.length ≤ l.length := by
  have waiting : l.pruned.waiting.length ≤ l.waiting.length := List.length_filter_le ..
  have head : l.pruned.head = if l.headUrgent then none else l.head := rfl
  unfold Lif.length
  rw [head]
  cases l.headUrgent with
  | true => exact Nat.le_trans waiting (Nat.le_add_right _ _)
  | false => exact Nat.add_le_add_right waiting _

theorem TxContent.urgent_of_isSnapState {c : TxContent} (h : c.isSnapState = true) : c.urgent = false :=
  TxContent.urgent_of_isSnap (Bool.and_eq_true_iff.1 h).1

theorem TxContent.urgent_of_isSnapFaults {c : TxContent} (h : c.isSnapFaults = true) : c.urgent = false :=
  TxContent.urgent_of_isSnap (Bool.and_eq_true_iff.1 h).1

/-- A test that passes no urgent frame counts the same after a pruning. -/
theorem Lif.pruned_count (l : Lif) {p : TxContent → Bool} (normal : ∀ c, p c = true → c.urgent = false) :
    l.pruned.count p = l.count p := by
  rw [Lif.count, Lif.count, Lif.pruned_contents, List.countP_filter]
  refine List.countP_congr fun c _ => ?_
  constructor
  · intro h; exact (Bool.and_eq_true_iff.1 h).1
  · intro h; exact Bool.and_eq_true_iff.2 ⟨h, by rw [normal c h]; rfl⟩

theorem Lif.Queued.pruned {l : Lif} {now : Time} (h : l.Queued now) : l.pruned.Queued now where
  room := Nat.le_trans l.pruned_length_le h.room
  oneDesk := by
    rw [Lif.pruned_contents]
    exact Nat.le_trans ((List.filter_sublist).filter _).length_le h.oneDesk
  ordered := h.ordered.filter _
  entered q mem := h.entered q (List.mem_filter.1 mem).1
  attempts f some := by
    simp only [Lif.pruned] at some
    split at some
    · cases some
    · exact h.attempts f some
  hold held := by
    have desk := h.hold held
    have normal : l.headUrgent = false := by
      unfold Lif.headIsDesk at desk
      unfold Lif.headUrgent
      cases head : l.head with
      | none => rfl
      | some f => rw [head] at desk; exact TxContent.urgent_of_isDesk desk
    rw [Lif.headIsDesk, Lif.pruned, normal]
    exact desk

theorem Lif.driven_pruned {l : Lif} {own : Nat} {now : Time} (h : l.Driven own now) : l.pruned.Driven own now := by
  have leaves : l.pruned.drive = .released ↔ l.drive = .released := by
    simp only [Lif.pruned]
    split
    · next urgent =>
      have driving : l.drive = .head := beq_iff_eq.1 (Bool.and_eq_true_iff.1 urgent).2
      simp [driving]
    · exact Iff.rfl
  constructor
  · intro driving
    simp only [Lif.pruned] at driving
    split at driving
    · cases driving
    · next kept =>
      have normal : l.headUrgent = false := by
        cases urgent : l.headUrgent with
        | false => rfl
        | true => exact absurd (by rw [urgent, driving]; rfl) kept
      obtain ⟨some, bytes⟩ := h.driving driving
      rw [Lif.headBytes, Lif.pruned, normal]
      exact ⟨some, bytes⟩
  · intro pruned
    simp only [Lif.pruned] at pruned ⊢
    split at pruned
    · next urgent => rw [if_pos (Bool.and_eq_true_iff.1 urgent).1]
    · rw [h.pruned pruned, ite_self]
  · exact fun released => h.silent (leaves.1 released)
  · exact fun driving => h.idle fun released => driving (leaves.2 released)
  · rw [show l.pruned.drivenAt = l.drivenAt from rfl, h.timed]
    cases drive : l.drive with
    | released => rw [leaves.2 drive]
    | _ =>
      have other : l.pruned.drive ≠ .released := fun released => by rw [leaves.1 released] at drive; cases drive
      rw [bne_iff_ne.2 other]; rfl
  · exact h.begun

/-- After a pruning no urgent frame is left, whatever the role is. -/
theorem State.LinePlaced.pruneQueue {s : State} (h : s.LinePlaced) : s.pruneQueue.LineKept := by
  have pruned : ({ s with lif := s.lif.pruned } : State).LineKept := by
    refine ⟨⟨h.queue.pruned, Lif.driven_pruned h.driver, ?_⟩, fun _ c mem => ?_⟩
    · show s.snu.Accounts (s.lif.pruned.count _) (s.lif.pruned.count _)
      rw [s.lif.pruned_count @TxContent.urgent_of_isSnapState, s.lif.pruned_count @TxContent.urgent_of_isSnapFaults]
      exact h.latch
    · rw [Lif.pruned_contents] at mem
      simpa using (List.mem_filter.1 mem).2
  unfold State.pruneQueue
  dsimp only
  split
  · exact pruned.queueEased
  · exact pruned

/-! ### The role -/

theorem State.LineKept.asuEntersActive {s : State} (h : s.LineKept) (active : s.cru.role = .active) :
    s.asuEntersActive.LineKept := by
  unfold State.asuEntersActive
  split
  · exact h
  · split
    · exact h.announceOverdue active _ _
    · exact h

theorem State.LineKept.enterRole {s : State} (h : s.LineKept) (role : Role) : (s.enterRole role).LineKept := by
  have taken : (s.takeRole role).LinePlaced := h.toLinePlaced.congr (by simp) (by simp) (by simp) (by simp)
  unfold State.enterRole
  dsimp only
  split
  · next active => exact State.LineKept.asuEntersActive ⟨taken, fun other => absurd active other⟩ active
  · split
    · exact State.LinePlaced.pruneQueue (s := (s.takeRole role).asuLeavesActive) (taken.congr rfl rfl rfl rfl)
    · next other => exact ⟨taken, fun _ => h.urgent other⟩

theorem State.LineKept.conflictRecord {s : State} (h : s.LineKept) (old : Role) : (s.conflictRecord old).LineKept :=
  h.congr (by simp) (by simp) (by simp) (by simp) (by simp)

theorem State.LineKept.peerConflictTest {s : State} (h : s.LineKept) : s.peerConflictTest.LineKept :=
  h.congr (by simp) (by simp) (by rw [State.peerConflictTest_cru]) (by simp) (by simp)

theorem State.LineKept.evaluateRole {s : State} (h : s.LineKept) (expiry : Bool) : (s.evaluateRole expiry).LineKept := by
  unfold State.evaluateRole
  dsimp only
  split
  · exact h.peerConflictTest
  · exact ((h.enterRole _).conflictRecord _).peerConflictTest.handDesk _ _ _

theorem State.LineKept.firstEvaluation {s : State} (h : s.LineKept) : s.firstEvaluation.LineKept := by
  have keyed : ({ s with cru := { s.cru with keyOn := s.diu.key.taken } } : State).LineKept := h.congr rfl rfl rfl rfl rfl
  unfold State.firstEvaluation
  dsimp only
  refine State.LineKept.handDesk ?_ _ _ _
  have tested {r e : State} (entered : e.LineKept) (recorded : r.LineKept) {p : Prop} [Decidable p] :
      (if p then e else r).peerConflictTest.LineKept := by
    split
    · exact entered.peerConflictTest
    · exact recorded.peerConflictTest
  have raised {r : State} (h : r.LineKept) : (if s.cfl.fallback then r.flmRaise 0xF060 .stop else r).LineKept := by
    split
    · exact h.congr (by simp) (by simp) (by simp) (by simp) (by simp)
    · exact h
  refine raised ?_
  split
  · exact keyed.peerConflictTest
  · exact ((keyed.enterRole _).conflictRecord _).peerConflictTest

/-! ### The sources -/

theorem State.LineKept.publish {s : State} (h : s.LineKept) (c : SourceConfig) (after : EntryState)
    (payload : Option (List Byte)) : (s.publish c after payload).LineKept := by
  by_cases desk : c.kind = .desk
  · rw [show s.publish c after payload = s.cruPublished (Fin.ofNat 3 c.roleIndex) after payload by
      simp only [State.publish, desk]]
    exact State.LineKept.evaluateRole (s := { s with cru := s.cru.withPeer _ after payload }) (h.congr rfl rfl rfl rfl rfl) _
  · exact h.congr (State.publish_lif s desk) (State.publish_snu s desk) (by rw [State.publish_cru s desk])
      (State.publish_cfl ..) (State.publish_now ..)

theorem State.LineKept.entryEvent {s : State} (h : s.LineKept) (i : Fin 24) (r : EntryResult) (payload : List Byte) :
    (s.entryEvent i r payload).LineKept := by
  have written : ({ s with ssv := { s.ssv with entries := s.ssv.entries.set i r.entry } } : State).LineKept :=
    h.congr rfl rfl rfl rfl rfl
  have told {u : State} (h : u.LineKept) (qs : List FaultRequest) : (u.requests qs).LineKept :=
    h.congr (by simp) (by simp) (by simp) (by simp) (by simp)
  rw [State.entryEvent_cases]
  split
  · exact told (written.publish _ _ _) _
  · exact told written _

theorem State.LineKept.ssvArrival {s : State} (h : s.LineKept) (f : Frame) : (s.ssvArrival f).LineKept := by
  unfold State.ssvArrival
  split
  · exact h
  · split
    · exact h
    · exact h.entryEvent _ _ _

theorem State.LineKept.graceExpiry {s : State} (h : s.LineKept) : s.graceExpiry.LineKept := by
  have entries (l : List (Fin 24)) {r : State} (h : r.LineKept) : (l.foldl (fun s i => s.graceEntry i) r).LineKept := by
    induction l generalizing r with
    | nil => exact h
    | cons i rest ih =>
      refine ih ?_
      show (r.graceEntry i).LineKept
      unfold State.graceEntry
      split
      · exact h.entryEvent _ _ _
      · exact h
  have flagged : ({ s with ssv := { s.ssv with graceAt := none, graceExpired := true } } : State).LineKept :=
    h.congr rfl rfl rfl rfl rfl
  have told {u : State} (h : u.LineKept) : u.sfuGrace.asuGrace.LineKept :=
    h.congr (by simp) (by simp) (by simp) (by simp) (by simp)
  exact told (entries (List.finRange 24) flagged)

/-! ### The acknowledgements -/

theorem State.LineKept.asuPress {s : State} (h : s.LineKept) : s.asuPress.LineKept := by
  unfold State.asuPress
  split
  · exact h
  · split
    · next active =>
      exact State.LineKept.handFrame (s := s.closeRecord) (h.congr rfl rfl rfl rfl rfl) rfl fun _ => active
    · exact h

theorem State.LineKept.flmPress {s : State} (h : s.LineKept) (origin : Nat) (code : FaultCode) :
    (s.flmPress origin code).LineKept := by
  unfold State.flmPress
  split
  · exact h
  · split
    · next active =>
      exact State.LineKept.handFrame (s := s.flmAcknowledge (FaultRecord.is origin code)) (h.congr rfl rfl rfl rfl rfl) rfl
        fun _ => active.1
    · exact h

theorem State.LineKept.takeRoutedPress {s : State} (h : s.LineKept) : s.takeRoutedPress.LineKept := by
  have taken : ({ s with routed := none } : State).LineKept := h.congr rfl rfl rfl rfl rfl
  unfold State.takeRoutedPress
  split
  · next p _ =>
    cases route : p.route with
    | toAsu => exact taken.asuPress
    | toFlm n => exact taken.flmPress _ _
  · exact h

theorem State.LineKept.routeAckPress {s : State} (h : s.LineKept) : s.routeAckPress.LineKept := by
  rw [State.routeAckPress_eq]
  exact h.takeRoutedPress.congr rfl rfl rfl rfl rfl

theorem State.LineKept.acknowledgementExpiry {s : State} (h : s.LineKept) : s.acknowledgementExpiry.LineKept := by
  unfold State.acknowledgementExpiry
  split
  · exact h.congr rfl rfl rfl rfl rfl
  · next r _ =>
    have late : ({ s with asu := { s.asu with pendingAck := some { r with overdue := true }, ackAt := none } } :
        State).asuIndicate.LineKept := h.congr rfl rfl rfl rfl rfl
    dsimp only
    split
    · next active => exact late.announceOverdue active _ _
    · exact late

theorem State.LineKept.repeatExpiry {s : State} (h : s.LineKept) : s.repeatExpiry.LineKept := by
  have stopped : ({ s with asu := { s.asu with repeatAt := none } } : State).LineKept := h.congr rfl rfl rfl rfl rfl
  unfold State.repeatExpiry
  dsimp only
  split
  · exact stopped
  · split
    · next due => exact stopped.announceOverdue (beq_iff_eq.1 (Bool.and_eq_true_iff.1 due).2) _ _
    · exact stopped

/-! ### The snapshot -/

/-- A SNAPREQ frame that passes the tests asks for a part (R168, R169). -/
theorem asked_of_fits {payload : List Byte} (h : payloadFits .snapreq payload = true) :
    (snapPartsOf payload).state = true ∨ (snapPartsOf payload).faults = true := by
  simpa [payloadFits, snapPartsOf] using (Bool.and_eq_true_iff.1 h).2

theorem parseFrame_fits {bytes : List Byte} {f : Frame} (h : parseFrame bytes = some f) : payloadFits f.kind f.payload = true := by
  unfold parseFrame at h
  split at h
  · split at h
    · cases h
    · dsimp only at h
      split at h
      · next passes => cases h; exact passes.2.2.2.1
      · cases h
  · cases h

theorem State.fromPeer_fits {s : State} {bytes : List Byte} {f : Frame} (h : s.fromPeer bytes = some f) :
    payloadFits f.kind f.payload = true := by
  unfold State.fromPeer State.assembled at h
  split at h
  · next g assembled =>
    split at assembled
    · split at h
      · cases h; exact parseFrame_fits assembled
      · cases h
    · cases assembled
  · cases h

/-- The latched frames, handed one after the other, account for the latch throughout (R189 to R191). -/
theorem State.LineKept.latchSnapshot {s : State} (h : s.LineKept) (free : s.snu.latch = none) (requester : Nat)
    {parts : SnapParts} (asked : parts.state = true ∨ parts.faults = true) : (s.latchSnapshot requester parts).LineKept := by
  have none := h.latch
  rw [Snu.Accounts, free] at none
  obtain ⟨noStates, noFaults⟩ := none
  let latched : State := { s with snu := { s.snu with latch := some { requester := requester, asked := parts, outstanding := parts } } }
  let first := latched.handIf parts.state (.snapState (s.snapStateContent requester))
  have firstKept : first.lif.Queued first.now ∧ first.lif.Driven first.own first.now ∧ first.UrgentOnlyActive ∧
      first.snu.Accounts (first.lif.count TxContent.isSnapState)
        (first.lif.count TxContent.isSnapFaults + if parts.faults then 1 else 0) := by
    cases state : parts.state with
    | false =>
      have same : first = latched := by simp only [first, state]; rfl
      rw [same]
      exact ⟨h.queue, h.driver, h.urgent, asked, by rw [state]; exact noStates,
        (congrArg (· + _) noFaults).trans (Nat.zero_add _)⟩
    | true =>
      have same : first = latched.handFrame (.snapState (s.snapStateContent requester)) := by simp only [first, state]; rfl
      rw [same]
      refine ⟨State.queued_handFrame (s := latched) h.queue _, State.driven_handFrame (s := latched) h.driver _,
        State.UrgentOnlyActive.handFrame (s := latched) h.urgent (fun urgent => nomatch urgent),
        State.accounts_handFrame (states := 0) ?_⟩
      exact ⟨asked, by rw [state]; exact congrArg (· + 1) noStates, (congrArg (· + _) noFaults).trans (Nat.zero_add _)⟩
  obtain ⟨queue, driver, urgent, accounts⟩ := firstKept
  show (first.handIf parts.faults (.snapFaults (s.snapFaultsContent requester))).LineKept
  unfold State.handIf
  split
  · next faults =>
    rw [faults] at accounts
    exact ⟨⟨State.queued_handFrame queue _, State.driven_handFrame driver _,
      State.accounts_handFrame (states := 0) (faults := 0) accounts⟩, urgent.handFrame fun urgent => nomatch urgent⟩
  · next faults =>
    rw [Bool.eq_false_iff.2 faults] at accounts
    exact ⟨⟨queue, driver, accounts⟩, urgent⟩

theorem State.LineKept.takeSnapreq {s : State} (h : s.LineKept) {f : Frame} (fits : payloadFits f.kind f.payload = true) :
    (s.takeSnapreq f).LineKept := by
  unfold State.takeSnapreq
  split
  · next own =>
    unfold State.snuRequest
    split
    · exact h
    · next free => exact h.latchSnapshot free _ (asked_of_fits (own.1 ▸ fits))
  · exact h

/-! ### Every event -/

theorem State.LineKept.takeKey {s : State} (h : s.LineKept) : s.takeKey.LineKept := by
  unfold State.takeKey
  dsimp only
  split
  · exact State.LineKept.evaluateRole (s := { s with
      diu := { s.diu with key := s.diu.key.take }, cru := { s.cru with keyOn := s.diu.key.level } }) (h.congr rfl rfl rfl rfl rfl) _
  · exact h.congr rfl rfl rfl rfl rfl

theorem State.LineKept.hearPeer {s : State} (h : s.LineKept) (bytes : List Byte) {act : Frame → State → State}
    (acts : ∀ f r, payloadFits f.kind f.payload = true → State.LineKept r → (act f r).LineKept) : (s.hearPeer bytes act).LineKept := by
  unfold State.hearPeer
  split
  · next f heard => exact acts f _ (State.fromPeer_fits heard) (h.hearFrame bytes)
  · exact h.hearFrame bytes

theorem State.LineKept.hearClash {s : State} (h : s.LineKept) (bytes : List Byte) : (s.hearClash bytes).LineKept := by
  unfold State.hearClash
  split
  · split
    · exact (h.hearFrame bytes).clash
    · exact h.hearFrame bytes
  · exact h.hearFrame bytes

theorem State.LineKept.holdReset {s : State} (h : s.LineKept) (source : ResetSource) : (s.holdReset source).LineKept := by
  have begun (t : Time) (idle : (if s.lif.drive = .released then s.lif.idleSince else some s.idleStart) = some t) : t ≤ s.now := by
    split at idle
    · exact h.driver.begun.2 t idle
    · cases idle; exact s.idleStart_le_now
  have reset : s.resetBlocks.LineKept := ⟨⟨
    { room := Nat.zero_le _, oneDesk := Nat.zero_le _, ordered := List.Pairwise.nil, entered := fun _ mem => (nomatch mem),
      attempts := fun _ head => (nomatch head), hold := fun held => (nomatch held) },
    { driving := fun driving => (nomatch driving), pruned := fun driving => (nomatch driving), silent := fun _ => rfl,
      idle := fun driving => absurd rfl driving, timed := rfl, begun := ⟨fun _ driven => (nomatch driven), begun⟩ },
    ⟨rfl, rfl⟩⟩, fun _ _ mem => nomatch mem⟩
  cases source with
  | supok => exact reset.congr rfl rfl rfl rfl rfl
  | rstn => exact reset.congr rfl rfl rfl rfl rfl

/-- The release of reset: the station is sampled while nothing is driven. -/
theorem State.LineKept.release {s : State} (h : s.LineKept) (rest : s.cfl.start = .sampling → s.lif.drive = .released)
    (straps : Straps) : (s.release straps).LineKept := by
  unfold State.release
  split
  · next sampling => exact ⟨⟨h.queue, { h.driver with
      driving := fun driving => absurd ((rest sampling).symm.trans driving) (by decide) }, h.latch⟩, h.urgent⟩
  · exact h

theorem State.LineKept.endLoad {s : State} (h : s.LineKept) (memory : MemoryAnswer) : (s.endLoad memory).LineKept := by
  have own : (s.endLoad memory).own = s.own := by unfold State.endLoad; split <;> rfl
  exact ⟨⟨by rw [State.endLoad_lif, State.endLoad_now]; exact h.queue,
    by rw [State.endLoad_lif, State.endLoad_now, own]; exact h.driver,
    by rw [State.endLoad_lif, State.endLoad_snu]; exact h.latch⟩,
    by rw [State.UrgentOnlyActive, State.endLoad_lif, State.endLoad_cru]; exact h.urgent⟩

theorem State.LineKept.run {s : State} (h : s.LineKept) : s.run.LineKept := by
  obtain ⟨-, begun⟩ | ⟨-, same⟩ := s.run_cases
  · rw [begun]
    exact State.LineKept.firstEvaluation (s := s.begun) ⟨⟨h.queue, h.driver, h.latch⟩, h.urgent⟩
  · rwa [same]

theorem State.event_lineKept (c : Instr) {s : State} (h : s.LineKept) (rest : s.cfl.start = .sampling → s.lif.drive = .released) :
    (s.event c).LineKept := by
  cases c with
  | reset _ source => exact h.holdReset source
  | resetRelease _ straps => exact h.release rest straps
  | loadEnd _ acks memory => exact h.endLoad _
  | lampCheckTimerExpiry => exact h.run
  | arrival _ frame => exact h.hearPeer frame fun f r _ kept => kept.ssvArrival f
  | acknFrame _ frame =>
    exact h.hearPeer frame fun f r _ kept => kept.congr (by simp) (by simp) (by simp) (by simp) (by simp)
  | snapreq _ frame => exact h.hearPeer frame fun f r fits kept => kept.takeSnapreq fits
  | stationClash _ frame => exact h.hearClash frame
  | lateTimerExpiry i => exact h.entryEvent _ _ _
  | startupGraceExpiry => exact h.graceExpiry
  | acknowledgementTimerExpiry => exact h.acknowledgementExpiry
  | overdueRepeatTimerExpiry => exact h.repeatExpiry
  | claimWindowExpiry =>
    exact State.LineKept.evaluateRole (s := { s with cru := { s.cru with claimAt := none } }) (h.congr rfl rfl rfl rfl rfl) _
  | keyChange => exact h.takeKey
  | deskPeriodExpiry =>
    exact State.LineKept.handDesk (s := { s with cru := { s.cru with deskAt := none, deskDue := none } })
      (h.congr rfl rfl rfl rfl rfl) _ _ _
  | stationClashTimerExpiry => exact h.clashOver
  | acknowledgePress part =>
    cases part with
    | whole => exact h.routeAckPress.takeRoutedPress
    | routing => exact h.routeAckPress
    | taking => exact h.takeRoutedPress
  | attemptStart _ => exact h.startAttempt
  | attemptSuccess _ => exact h.attemptSucceeds
  | attemptFailure _ => exact h.attemptFails
  | prunedHeadEnd _ => exact h.prunedFrameEnds
  | startBitHeard _ => exact h.hearStartBit
  | frameDiscard _ frame ending => exact h.discardFrame frame ending
  | receiverReady _ => exact h.becomeReady
  | frameDropped _ frame => exact h.hearFrame frame
  | _ =>
    refine h.congr ?_ ?_ ?_ ?_ (State.event_now _ s)
    · exact State.event_lif rfl s
    · exact State.event_snu rfl s
    · rw [State.event_cru rfl s]
    · exact State.event_cfl rfl s

theorem State.Inv.lineKept {s : State} (inv : s.Inv) : s.LineKept := State.lineKept_iff.2 ⟨inv.line, inv.urgent, inv.latch⟩

theorem State.Inv.step_lineKept {s u : State} (inv : s.Inv) (next : Machine.step s = .next u) : u.LineKept :=
  inv.step next (fun s inv => inv.lineKept) fun c s t inv _ _ =>
    State.event_lineKept c inv.lineKept fun sampling => (inv.quiet.1 (by rw [sampling]; decide)).released

/-- Settles O59: every operation on the queue keeps its order and room, and an urgent frame is handed in ACTIVE only. -/
theorem stepKeepsTheLineLawful : Obligations.StepKeepsTheLineLawful := by
  intro s u inv next
  obtain ⟨line, urgent, -⟩ := State.lineKept_iff.1 (inv.step_lineKept next)
  exact ⟨line, urgent⟩

/-- Settles O60: a snapshot frame enters the queue only as it is latched, and the SNU is told of every one that leaves. -/
theorem stepKeepsTheLatchLawful : Obligations.StepKeepsTheLatchLawful := by
  intro s u inv next
  exact (State.lineKept_iff.1 (inv.step_lineKept next)).2.2

end Sys2Proof.Machine
end

section
/-! PROOFS. The start: the power-on reset, a reset, its release, and the move to RUNNING (chapter 10). -/

namespace Sys2Proof.Machine

open Sys2Proof

-- One proof after another: the many small proofs below, each on a thread of its own, would reserve more stacks than the check allows.
set_option Elab.async false

/-! ### The power-on reset -/

/-- Settles O5: the reset values, field by field. -/
theorem powerOnResetValues : Obligations.PowerOnResetValues := by
  unfold Obligations.PowerOnResetValues
  refine ⟨rfl, ?_⟩
  repeat' apply And.intro
  all_goals rfl

theorem State.atRest_reset : State.reset.AtRest := by
  constructor <;> first | rfl | exact ⟨rfl, rfl⟩ | exact ⟨rfl, rfl, rfl, rfl, rfl, rfl⟩

/-- Settles O49: the power-on reset is at rest, with nothing configured. -/
theorem resetStateMeetsTheInvariants : Obligations.ResetStateMeetsTheInvariants := by
  have rest := State.atRest_reset
  obtain ⟨fusion, display, ranges⟩ := rest.speed
  exact {
    quiet := ⟨fun _ => rest, fun _ _ => rfl⟩
    start := {
      lampCheck := rfl, running := rfl, flash1 := rfl, flash2 := rfl, straps := rfl, config := rfl, pins := rfl
      station := fun p straps => nomatch (show none = some p from straps)
      fallback := fun fallback => nomatch fallback }
    configured := fun c config => nomatch config
    sources := rest.sourcesLawful
    consumers := rest.consumersFollow
    fusion := fusion
    ranges := ranges
    display := display
    aspect := rest.aspectLawful
    faults := by constructor <;> decide
    window := rfl
    role := rest.roleLawful rfl
    inputs := by constructor <;> rfl
    indications := rest.indicationsFollow
    tone := Arbiter.lawful_reset _
    line := State.lineLawful_iff.2 ⟨
      { room := Nat.zero_le _, oneDesk := Nat.zero_le _, ordered := List.Pairwise.nil, entered := fun _ mem => (nomatch mem),
        attempts := fun _ head => (nomatch head), hold := fun held => (nomatch held) },
      { driving := fun driving => (nomatch driving), pruned := fun driving => (nomatch driving), silent := fun _ => rfl,
        idle := fun driving => absurd rfl driving, timed := rfl,
        begun := ⟨fun _ driven => (nomatch driven), fun t idle => Option.some.inj idle ▸ Nat.le_refl 0⟩ }⟩
    urgent := fun _ c mem => nomatch mem
    latch := ⟨rfl, rfl⟩ }

/-! ### A reset and its release -/

theorem resetLif_of_driving {l : Lif} (driving : l.drive ≠ .released) (idleStart : Time) :
    resetLif idleStart l = { Lif.reset with idleSince := some idleStart, busyUntil := l.busyUntil } := by
  rw [resetLif, if_neg driving]

theorem State.idleStart_of_drivenAt {s : State} {d : Time} (driven : s.lif.drivenAt = some d) :
    s.idleStart = min s.now (d + 10 * s.lif.driven.length * s.bitTime) := by
  simp only [State.idleStart, State.driveEnd, driven, Option.map_some, State.bytesTime, byteBits]

/-- Settles O6: the reset values, with the levels at the inputs and the line's own state kept. -/
theorem resetReturnsEveryBlock : Obligations.ResetReturnsEveryBlock := by
  intro t source s
  refine ⟨_, exec_of_moment (c := .reset t source) rfl, ?_⟩
  have line : ((s.reach t).holdReset source).lif = resetLif (s.reach t).idleStart s.lif := by cases source <;> rfl
  have idle (released : s.lif.drive = .released) :
      resetLif (s.reach t).idleStart s.lif = { Lif.reset with idleSince := s.lif.idleSince, busyUntil := s.lif.busyUntil } := by
    rw [resetLif, if_pos released]
  have cutOff (d : Time) (driving : s.lif.drive ≠ .released) (driven : s.lif.drivenAt = some d) :
      resetLif (s.reach t).idleStart s.lif = { Lif.reset with
        idleSince := some (min (max s.now t) (d + 10 * s.lif.driven.length * s.bitTime)), busyUntil := s.lif.busyUntil } := by
    rw [resetLif_of_driving driving, State.idleStart_of_drivenAt (s := s.reach t) driven]
    rfl
  cases source with
  | supok => exact ⟨rfl, rfl, rfl, rfl, rfl, rfl, rfl, rfl, rfl, fun released => line.trans (idle released),
      fun d driving driven => line.trans (cutOff d driving driven), rfl, rfl, rfl, rfl, rfl, fun _ => ⟨rfl, rfl⟩,
      (fun other => nomatch other), rfl, rfl⟩
  | rstn => exact ⟨rfl, rfl, rfl, rfl, rfl, rfl, rfl, rfl, rfl, fun released => line.trans (idle released),
      fun d driving driven => line.trans (cutOff d driving driven), rfl, rfl, rfl, rfl, rfl, (fun other => nomatch other),
      fun _ => ⟨rfl, rfl⟩, rfl, rfl⟩

theorem intervalFrom_bne {α : Type} [BEq α] [LawfulBEq α] [DecidableEq α] (level taken : α) (now : Time) (lengthMs : Nat) :
    intervalFrom true (level != taken) now lengthMs = if level = taken then none else some (now + ms lengthMs) := by
  unfold intervalFrom
  by_cases same : level = taken <;> simp [same]

/-- Settles O7: the release of reset, where the part is held in it. -/
theorem releaseSamplesTheStraps : Obligations.ReleaseSamplesTheStraps := by
  intro t p s sampling
  refine ⟨_, exec_of_moment (c := .resetRelease t p) rfl, ?_⟩
  have released : (s.reach t).event (.resetRelease t p) = { s.reach t with
      supokHigh := true
      rstnHigh := true
      cfl := { s.cfl with
        straps := some p
        start := if p.station = 0 then .strapFault else .loading
        busReleased := p.station == 0 }
      diu := debouncedFrom s.diu (max s.now t) } := if_pos sampling
  rw [released]
  refine ⟨rfl, rfl, rfl, ?_, intervalFrom_bne _ _ _ _, intervalFrom_bne _ _ _ _, intervalFrom_bne _ _ _ _, intervalFrom_bne _ _ _ _,
    intervalFrom_bne _ _ _ _, rfl, rfl, rfl, rfl⟩
  rfl

/-! ### The move to RUNNING -/

/-- What a course leaves of the Indication Driver. -/
structure State.SameFlash (s u : State) : Prop where
  f1         : u.idr.f1 = s.idr.f1 := by rfl
  f2         : u.idr.f2 = s.idr.f2 := by rfl
  brightness : u.idr.brightness = s.idr.brightness := by rfl

theorem State.SameFlash.trans {s t u : State} (h : s.SameFlash t) (k : t.SameFlash u) : s.SameFlash u where
  f1 := k.f1.trans h.f1
  f2 := k.f2.trans h.f2
  brightness := k.brightness.trans h.brightness

theorem State.sameFlash_toneIssueOpt (s : State) (p : Option Pattern) : s.SameFlash (s.toneIssueOpt p) := by
  cases p <;> exact {}

theorem Act.sameFlash {loose : Bool} {s u : State} (h : Act loose s u) : s.SameFlash u := by
  cases h with
  | beside h => exact { f1 := by rw [h.idr], f2 := by rw [h.idr], brightness := by rw [h.idr] }
  | evaluate => exact .trans (t := State.toneHold _ _ _) {} (State.sameFlash_toneIssueOpt _ _)
  | event | indicate | role | compute => exact {}

theorem Course.sameFlash {s u : State} (h : Course s u) : s.SameFlash u :=
  h.keeps (P := s.SameFlash) (fun _ _ act same => same.trans act.sameFlash) {}

/-- With nothing lost a DESK frame handed changes nothing but the queue, the CRU's timers and the free value's counter. -/
theorem State.handFrame_of_room {s : State} (h : s.lif.length < queueCapacity) (content : TxContent) :
    s.handFrame content = { s with lif := (s.lif.place s.now content).lif } := by
  rw [State.handFrame, Lif.place_lost_of_room s.now content h]

/-- A frame handed to an empty queue stands there alone. -/
theorem Lif.place_of_empty {l : Lif} (head : l.head = none) (waiting : l.waiting = []) (now : Time) (content : TxContent) :
    (l.place now content).lif = { l with waiting := [{ content := content, entered := now }] } := by
  have noDesk : l.headIsDesk = false := by rw [Lif.headIsDesk, head]
  have room : decide (l.length < queueCapacity) = true := by rw [Lif.length, head, waiting]; decide
  cases content <;> simp [Lif.place, noDesk, room, waiting, enterQueue, TxContent.urgent]

/-- The CRU at rest, with the key as it was taken, claims where the key is on (R131). -/
theorem Cru.nextRole_of_reset (keyOn expiry : Bool) :
    ({ Cru.reset with keyOn := keyOn } : Cru).nextRole expiry = if keyOn then .claiming else .idle := by
  cases keyOn <;> rfl

/-- The state that the first evaluation hands its DESK frame from, where the part was at rest: the role, then the record of the
fallback (R131, R186). -/
def State.firstRole (s : State) : State :=
  let keyed : State := { s with cru := { s.cru with keyOn := s.diu.key.taken } }
  if s.diu.key.taken then keyed.takeRole .claiming else keyed

def State.firstRaised (s : State) : State :=
  if s.cfl.fallback then s.firstRole.flmRaise 0xF060 .stop else s.firstRole

theorem State.firstEvaluation_of_rest {s : State} (cru : s.cru = Cru.reset) :
    s.firstEvaluation = s.firstRaised.handDesk s.firstRole.flm.view s.firstRole.flm.view s.firstRaised.flm.view := by
  have role : ({ s.cru with keyOn := s.diu.key.taken } : Cru).nextRole false = if s.diu.key.taken then .claiming else .idle := by
    rw [cru, Cru.nextRole_of_reset]
  have idle : s.cru.role = .idle := by rw [cru]; rfl
  have untested {r : State} (sees : r.cru.seesConflict = r.cru.peerConflictRaised) : r.peerConflictTest = r := by
    rw [State.peerConflictTest, if_pos sees]
  unfold State.firstEvaluation State.firstRaised State.firstRole
  dsimp only
  rw [role, idle]
  cases key : s.diu.key.taken with
  | false =>
    simp only [Bool.false_eq_true, if_false, if_true]
    rw [untested (by rw [cru]; rfl)]
  | true =>
    have entered (r : State) (idle : r.cru.role = .idle) : r.enterRole .claiming = r.takeRole .claiming := by
      unfold State.enterRole
      rw [if_neg (by decide), if_neg (by rw [idle]; decide)]
    have unmarked (r : State) (claiming : r.cru.role = .claiming) : r.conflictRecord .idle = r := by
      rw [State.conflictRecord, if_neg (by rw [claiming]; decide), if_neg (by decide)]
    simp only [if_true]
    rw [if_neg (by decide), if_neg (by decide), entered _ rfl, unmarked _ rfl, untested (by rw [State.takeRole_cru, cru]; rfl)]

/-- Settles O9: from rest, the first evaluation decides by the key alone, and its DESK frame enters an empty queue. -/
theorem lampCheckExpiryStartsRunning : Obligations.LampCheckExpiryStartsRunning := by
  intro t s inv due
  have checking : s.cfl.start = .lampCheck := by
    have timed := inv.start.lampCheck
    rw [due] at timed
    exact beq_iff_eq.1 timed.symm
  have rest : s.AtRest := inv.quiet.1 (by rw [checking]; decide)
  let b := (s.reach t).begun
  have cru : b.cru = Cru.reset := rest.cru
  have event : (s.reach t).event .lampCheckTimerExpiry = b.firstEvaluation := by
    obtain ⟨-, begun⟩ | ⟨other, -⟩ := (s.reach t).run_cases
    · exact begun
    · exact absurd checking other
  refine ⟨_, exec_of_moment (c := .lampCheckTimerExpiry) due, ?_⟩
  rw [event]
  have flash := b.firstEvaluation_course.sameFlash
  have cfl : b.firstEvaluation.cfl = b.cfl := State.firstEvaluation_cfl b
  have ssv : b.firstEvaluation.ssv = b.ssv := State.firstEvaluation_ssv b
  have now : b.firstEvaluation.now = b.now := State.firstEvaluation_now b
  have decided := State.firstEvaluation_of_rest cru
  let f := b.firstRaised
  have firstCru : f.cru = b.firstRole.cru := by simp only [f, State.firstRaised]; split <;> simp
  have firstLif : f.lif = s.lif := by
    have role : b.firstRole.lif = s.lif := by unfold State.firstRole; dsimp only; split <;> rfl
    rw [← role]
    simp only [f, State.firstRaised]
    split <;> simp
  have firstCfl : f.cfl = b.cfl := by
    have role : b.firstRole.cfl = b.cfl := by unfold State.firstRole; dsimp only; split <;> rfl
    rw [← role]
    simp only [f, State.firstRaised]
    split <;> simp
  have firstNow : f.now = b.now := by
    have role : b.firstRole.now = b.now := by unfold State.firstRole; dsimp only; split <;> rfl
    rw [← role]
    simp only [f, State.firstRaised]
    split <;> simp
  have firstSdm : f.sdm = Sdm.reset := by
    have role : b.firstRole.sdm = Sdm.reset := by
      rw [← rest.sdm]; unfold State.firstRole; dsimp only; split <;> rfl
    rw [← role]
    simp only [f, State.firstRaised]
    split <;> simp
  have roleCru : b.firstRole.cru = if s.diu.key.taken then
      { Cru.reset with keyOn := true, role := .claiming, claimAt := some (max s.now t + ms s.cfg.claimMs) } else Cru.reset := by
    unfold State.firstRole
    rw [show b.diu = s.diu from rfl]
    dsimp only
    cases s.diu.key.taken with
    | false => simp only [Bool.false_eq_true, if_false]; rw [cru]; rfl
    | true => simp only [if_true]; rw [State.takeRole_cru, cru]; rfl
  have empty : f.lif.head = none ∧ f.lif.waiting = [] := by rw [firstLif]; exact ⟨rest.queue.1, rest.queue.2.1⟩
  have room : f.lif.length < queueCapacity := by rw [Lif.length, empty.1, empty.2]; decide
  obtain ⟨c, handed, role, key, cab, fallback, displayed⟩ : ∃ c : DeskContent,
      f.handDesk b.firstRole.flm.view b.firstRole.flm.view f.flm.view = { f with
        lif := { f.lif with waiting := [{ content := .desk c, entered := f.now }] }
        cru := { f.cru with deskAt := f.inMs f.cfg.deskPeriodMs, deskDue := f.cru.dueAt f.now }
        freeIndex := f.freeIndex + 1 } ∧
      c.role = f.cru.role ∧ c.keyOn = f.cru.keyOn ∧ c.cabEndB = f.cabEndB ∧ c.fallback = f.cfl.fallback ∧
      c.displayed = f.sdm.displayed := by
    refine ⟨f.deskContent (f.deskReading b.firstRole.flm.view b.firstRole.flm.view f.flm.view), ?_, rfl, rfl, rfl, rfl, rfl⟩
    rw [State.handDesk, State.handFrame_of_room (by exact room), Lif.place_of_empty empty.1 empty.2]
  have cfg : f.cfg = s.cfg := State.cfg_of_cfl (s := b) firstCfl
  have own : b.firstRole.own = s.own := by unfold State.firstRole; dsimp only; split <;> rfl
  have flm : b.firstEvaluation.flm = f.flm := by rw [decided]; exact (congrArg State.flm handed :)
  have fallen : b.cfl.fallback = s.cfl.fallback := rfl
  have cruAfter : b.firstEvaluation.cru = { f.cru with
      deskAt := some (max s.now t + ms s.cfg.deskPeriodMs), deskDue := f.cru.dueAt f.now } := by
    rw [decided, show b.firstRaised = f from rfl, handed, ← cfg, show max s.now t = f.now from firstNow.symm]
    rfl
  rw [firstCru, roleCru] at cruAfter
  refine ⟨by rw [cfl]; rfl, by rw [cfl]; rfl, by rw [cfl]; rfl, now, by rw [ssv]; rfl, by rw [ssv]; rfl, ?_, ?_, ?_, ?_, ?_, ?_, ?_,
    ⟨c, ?_, ?_, ?_, ?_, ?_, ?_⟩, ?_, ?_⟩
  · rw [flash.f1]; rfl
  · rw [flash.f2]; rfl
  · rw [cruAfter]; cases s.diu.key.taken <;> rfl
  · rw [cruAfter]; cases s.diu.key.taken <;> rfl
  · rw [cruAfter]; cases s.diu.key.taken <;> rfl
  · rw [cruAfter]
  · rw [cruAfter]; cases s.diu.key.taken <;> rfl
  · rw [decided, show b.firstRaised = f from rfl, handed, firstNow]; rfl
  · rw [role, cruAfter, firstCru, roleCru]
  · rw [key, cruAfter, firstCru, roleCru]
  · rw [cab, State.cabEndB_of_cfl firstCfl]; rfl
  · rw [fallback, firstCfl]; rfl
  · rw [displayed, firstSdm]; rfl
  · intro fell
    rw [flm, show f = b.firstRole.flmRaise 0xF060 .stop by simp only [f, State.firstRaised, fallen, fell, if_true], ← own]
    exact State.flmRaise_raised _ _ _
  · intro unfallen
    rw [flm, show f = b.firstRole by simp only [f, State.firstRaised, fallen, unfallen, Bool.false_eq_true, if_false],
      show b.firstRole.flm = s.flm by unfold State.firstRole; dsimp only; split <;> rfl, rest.flm]
    rfl

end Sys2Proof.Machine
end

section
/-! PROOFS. The commands of the line (chapter 9): the receiver, the attempts, and where a handed frame goes. -/

namespace Sys2Proof.Machine

open Sys2Proof

-- One proof after another: the many small proofs below, each on a thread of its own, would reserve more stacks than the check allows.
set_option Elab.async false

/-! ### The receiver, start bits and the end of a pruned frame -/

theorem State.idleForReceiver_iff {s : State} :
    s.idleForReceiver = true ↔ s.lif.idleSince.getD s.lif.busyUntil + 11 * s.bitTime ≤ s.now := decide_eq_true_iff

theorem State.driveOver_of_drivenAt {s : State} {d : Time} (driven : s.lif.drivenAt = some d) :
    s.driveOver = decide (d + 10 * s.lif.driven.length * s.bitTime ≤ s.now) := by
  simp only [State.driveOver, State.driveEnd, driven, Option.map_some, State.bytesTime, byteBits]

/-- The line, where the part stops driving after the last stop bit (R165). -/
theorem State.releaseLine_of_ended {s : State} {d : Time} (driven : s.lif.drivenAt = some d)
    (ended : d + 10 * s.lif.driven.length * s.bitTime ≤ s.now) : s.releaseLine = { s with lif := { s.lif with
      drive := .released, driven := [], drivenAt := none, idleSince := some (d + 10 * s.lif.driven.length * s.bitTime) } } := by
  rw [State.releaseLine, State.idleStart_of_drivenAt driven, Nat.min_eq_right ended]

theorem exec_receiverReady_cases {s : State} {t : Time} (released : s.lif.drive = .released) (ignoring : s.lif.ignoring = true) :
    (s.lif.idleSince.getD s.lif.busyUntil + 11 * s.bitTime ≤ max s.now t → exec (.receiverReady t) s = .next { s with
      now := max s.now t, lif := { s.lif with
        ignoring := false, idleSince := some (s.lif.idleSince.getD (max s.now t - 11 * s.bitTime)) } }) ∧
    (max s.now t < s.lif.idleSince.getD s.lif.busyUntil + 11 * s.bitTime →
      exec (.receiverReady t) s = .next { s with now := max s.now t }) := by
  have event : exec (.receiverReady t) s = .next (s.reach t).becomeReady := exec_of_moment (c := .receiverReady t) rfl
  have first : (decide ((s.reach t).lif.drive = .released) && (s.reach t).lif.ignoring) = true := by
    rw [show (s.reach t).lif = s.lif from rfl, released, ignoring]; rfl
  constructor
  · intro idle
    rw [event, State.becomeReady, first, Bool.true_and, if_pos (State.idleForReceiver_iff.2 idle)]
    rfl
  · intro early
    rw [event, State.becomeReady, first, Bool.true_and,
      if_neg fun idle => Nat.not_lt.2 (State.idleForReceiver_iff.1 idle) early]
    rfl

/-- Settles O18: the receiver's commands, START_BIT_HEARD and PRUNED_HEAD_END, each at its moment and before. -/
theorem lineEventsChangeOnlyTheLine : Obligations.LineEventsChangeOnlyTheLine := by
  refine ⟨fun t s released => ?_, fun t bytes f s released good => ?_, fun t bytes ending s released discarded idle => ?_,
    fun t s released ignoring => ?_, fun t d s pruned driven => ?_⟩
  · exact (exec_of_moment (c := .startBitHeard t) rfl).trans (congrArg _ (if_pos released))
  · refine (exec_of_moment (c := .frameDropped t bytes) rfl).trans (congrArg _ ((if_pos released).trans ?_))
    rw [good]
    simp [State.heardAt, State.reach]
  · have can : (s.reach t).canEnd ending = true := by
      cases ending with
      | whole | badStopBit => rfl
      | cutShort => exact State.idleForReceiver_iff.2 (idle rfl)
    refine (exec_of_moment (c := .frameDiscard t bytes ending) rfl).trans (congrArg _ ((if_pos ⟨released, can⟩).trans ?_))
    rw [discarded, Bool.or_true]
    cases ending <;> rfl
  · obtain ⟨ready, early⟩ := exec_receiverReady_cases (t := t) released ignoring
    refine ⟨fun i since idle => ?_, fun since idle => ?_, early⟩
    · rw [since] at ready
      have same : ({ s.lif with ignoring := false, idleSince := some i } : Lif) = { s.lif with ignoring := false } := by rw [← since]
      exact (ready idle).trans (congrArg (fun l => Host.Outcome.next { s with now := max s.now t, lif := l }) same)
    · rw [since] at ready
      exact ready idle
  · constructor
    · intro ended
      have ends : (s.reach t).driveOver = true :=
        (State.driveOver_of_drivenAt (s := s.reach t) driven).trans (decide_eq_true ended)
      exact (exec_of_moment (c := .prunedHeadEnd t) rfl).trans
        (congrArg _ ((if_pos ⟨pruned, ends⟩).trans (State.releaseLine_of_ended (s := s.reach t) driven ended)))
    · intro early
      have goes : ¬(s.reach t).driveOver = true := by
        rw [State.driveOver_of_drivenAt (s := s.reach t) driven]
        exact fun ended => Nat.not_lt.2 (of_decide_eq_true ended) early
      exact (exec_of_moment (c := .prunedHeadEnd t) rfl).trans (congrArg _ (if_neg fun both => goes both.2))

/-! ### The start of an attempt (R172, R173) -/

theorem State.startAttempt_of_may {s : State} (may : s.mayAttempt = true) : s.startAttempt = { s with lif := { s.lif.withHead with
    drive := .head, driven := s.lif.withHead.headBytes s.own, drivenAt := some s.now, idleSince := none } } := if_pos may

theorem State.mayAttempt_of_gap {s : State} {i : Time} {c : TxContent} (running : s.cfl.start = .running)
    (released : s.lif.drive = .released) (since : s.lif.idleSince = some i) (first : s.lif.first = some c)
    (gap : i + ((if c.urgent = true then 12 else 44) + s.own) * s.bitTime ≤ s.now) : s.mayAttempt = true :=
  State.mayAttempt_iff.2 ⟨c, i, first, since, beq_iff_eq.2 running, released, gap⟩

/-! ### The levels on the line (R165) -/

theorem State.bitTime_pos (s : State) : 0 < s.bitTime := by
  unfold State.bitTime
  split
  · split <;> decide
  · decide

/-- The bit that is on the line at a moment is that of the whole bit times gone by. -/
theorem bits_gone {now d bit n : Nat} (from_ : d + n * bit ≤ now) (until_ : now < d + (n + 1) * bit) : (now - d) / bit = n :=
  Nat.div_eq_of_lt_le (by omega) (by omega)

/-- Ten levels a byte: the level at place `10 k + i` is level `i` of byte `k`. -/
theorem frameLevels_getD {bytes : List Byte} {k i : Nat} (inside : k < bytes.length) (level : i < 10) :
    (frameLevels bytes).getD (10 * k + i) .idle = (byteLevels (byteAt bytes k)).getD i .idle := by
  induction bytes generalizing k with
  | nil => exact absurd inside (Nat.not_lt_zero _)
  | cons b rest ih =>
    have tens : frameLevels (b :: rest) = byteLevels b ++ frameLevels rest := rfl
    cases k with
    | zero =>
      rw [tens, Nat.mul_zero, Nat.zero_add, List.getD_eq_getElem?_getD,
        List.getElem?_append_left (by rw [length_byteLevels]; exact level), ← List.getD_eq_getElem?_getD]
      rfl
    | succ k =>
      rw [tens, List.getD_eq_getElem?_getD, List.getElem?_append_right (by simp only [length_byteLevels, byteBits]; omega),
        length_byteLevels, byteBits, show 10 * (k + 1) + i - 10 = 10 * k + i by omega, ← List.getD_eq_getElem?_getD,
        ih (Nat.lt_of_succ_lt_succ inside)]
      rfl

/-- A start bit, the data bits with the least significant first, a stop bit. -/
theorem byteLevels_getD (b : Byte) {i : Nat} (level : i < 10) : (byteLevels b).getD i .idle =
    if i = 0 then .nonIdle else if i = 9 then .idle else dataLevel (b.getLsbD (i - 1)) := by
  match i, level with
  | 0, _ | 1, _ | 2, _ | 3, _ | 4, _ | 5, _ | 6, _ | 7, _ | 8, _ | 9, _ => rfl

theorem State.ltxd_of_drivenAt {s : State} {d : Time} (driven : s.lif.drivenAt = some d) :
    s.ltxd = (frameLevels s.lif.driven).getD ((s.now - d) / s.bitTime) .idle := by
  rw [State.ltxd, driven]

/-- Settles O15: the first frame in order, and ten bits a byte. -/
theorem attemptStartSendsTheFirstFrame : Obligations.AttemptStartSendsTheFirstFrame := by
  refine ⟨fun t i s running released since => ⟨fun q rest head waiting gap => ?_, fun h head gap => ?_⟩,
    fun d s driving driven => ⟨fun k i inside level from_ until_ => ⟨?_, ?_⟩, fun ended => ⟨?_, ?_⟩⟩,
    fun s => ⟨fun released => ?_, fun none => ?_⟩, ?_⟩
  · have first : s.lif.first = some q.content := by rw [Lif.first, head, waiting]; rfl
    have taken : s.lif.withHead = { s.lif with
        head := some { content := q.content, entered := q.entered, seq := s.lif.counters.of q.content, attempts := 0 }
        waiting := rest
        counters := s.lif.counters.advance q.content } := by rw [Lif.withHead, head, waiting]
    have started := State.startAttempt_of_may (State.mayAttempt_of_gap (s := s.reach t) running released since first gap)
    rw [show (s.reach t).lif = s.lif from rfl, taken] at started
    exact (exec_of_moment (c := .attemptStart t) rfl).trans (congrArg _ started)
  · have first : s.lif.first = some h.content := by rw [Lif.first, head]
    have kept : s.lif.withHead = s.lif := by rw [Lif.withHead, head]
    have bytes : s.lif.headBytes s.own = txBytes s.own h.seq h.content := by rw [Lif.headBytes, head]
    have started := State.startAttempt_of_may (State.mayAttempt_of_gap (s := s.reach t) running released since first gap)
    rw [show (s.reach t).lif = s.lif from rfl, kept, show (s.reach t).own = s.own from rfl, bytes] at started
    exact (exec_of_moment (c := .attemptStart t) rfl).trans (congrArg _ started)
  · have within : 10 * k + i + 1 ≤ 10 * s.lif.driven.length := by omega
    have bits := Nat.mul_le_mul_right s.bitTime within
    have early : ¬d + 10 * s.lif.driven.length * s.bitTime ≤ s.now := fun ended => by
      have := Nat.lt_of_le_of_lt ended until_
      omega
    rw [State.ltxen, State.driveOver_of_drivenAt driven, bne_iff_ne.2 driving, decide_eq_false early]
    rfl
  · rw [State.ltxd_of_drivenAt driven, bits_gone from_ until_, frameLevels_getD inside level, byteLevels_getD _ level]
  · rw [State.ltxen, State.driveOver_of_drivenAt driven, decide_eq_true ended]
    exact Bool.and_false _
  · have place : 10 * s.lif.driven.length ≤ (s.now - d) / s.bitTime :=
      (Nat.le_div_iff_mul_le s.bitTime_pos).2 (Nat.le_sub_of_add_le' ended)
    rw [State.ltxd_of_drivenAt driven, List.getD_eq_getElem?_getD, List.getElem?_eq_none (by rw [length_frameLevels]; exact place)]
    rfl
  · rw [State.ltxen, released]; rfl
  · rw [State.ltxd, none]
  · unfold dataLevel
    cases Config.oneAtIdleLevel <;> decide

/-! ### Where a handed frame goes (R128, R175, R176) -/

theorem State.queueLoss_raised {s : State} (unraised : s.lif.queueLossRaised = false) :
    s.queueLoss.flm.Raised s.own 0xF072 .note := by
  rw [State.queueLoss, unraised]
  exact State.flmRaise_raised { s with lif := { s.lif with queueLossRaised := true } } 0xF072 .note

theorem State.queueEased_of_few {s : State} (raised : s.lif.queueLossRaised = true) (few : s.lif.length ≤ 4) :
    s.queueEased.lif = { s.lif with queueLossRaised := false } ∧ s.queueEased.flm.NotRaised s.own 0xF072 := by
  rw [State.queueEased, raised, decide_eq_true few]
  exact ⟨rfl, State.flmClear_notRaised { s with lif := { s.lif with queueLossRaised := false } } 0xF072⟩

theorem State.queueEased_of_not {s : State} (h : s.lif.queueLossRaised = false ∨ 4 < s.lif.length) : s.queueEased = s := by
  rw [State.queueEased, if_neg]
  obtain unraised | many := h
  · simp [unraised]
  · simp [Nat.not_le.2 many]

/-- The one frame that gives way is the last that passes the test. -/
theorem newestWhere_of_last {test : TxContent → Bool} {before after : List QueuedFrame} {q : QueuedFrame}
    (passes : test q.content = true) (last : ∀ r ∈ after, test r.content = false) :
    newestWhere test (before ++ q :: after) = some q ∧ removeNewest test (before ++ q :: after) = before ++ after := by
  have reversed : (before ++ q :: after).reverse = after.reverse ++ q :: before.reverse := by simp
  have skipped (r : QueuedFrame) (mem : r ∈ after.reverse) : ¬test r.content = true :=
    Bool.eq_false_iff.1 (last r (List.mem_reverse.1 mem))
  constructor
  · rw [newestWhere, reversed, List.find?_append, List.find?_eq_none.2 skipped, Option.none_or,
      List.find?_cons_of_pos (p := fun q : QueuedFrame => test q.content) passes]
  · rw [removeNewest, reversed, List.eraseP_append_right _ skipped,
      List.eraseP_cons_of_pos (p := fun q : QueuedFrame => test q.content) passes]
    simp

/-- A frame that finds the queue full enters in place of the newest frame that the table lets it displace, or is lost (R175). -/
theorem Lif.place_of_full {l : Lif} {now : Time} {content : TxContent} (fresh : l.Fresh content)
    (full : ¬l.length < queueCapacity) :
    let test : TxContent → Bool := fun c => if content.urgent then !c.urgent else content.isDesk && c.isSnap
    l.place now content = l.enterFor { content := content, entered := now } test := by
  have dropped (test : TxContent → Bool) (none : ∀ c, test c = false) :
      l.enterFor { content := content, entered := now } test = { lif := l, lost := some content } := by
    rw [Lif.enterFor, newestWhere_none.2 fun q _ => none q.content]
  dsimp only
  cases content with
  | desk c =>
    obtain ⟨head, waiting⟩ := fresh rfl
    have unqueued : l.waiting.any (fun q => q.content.isDesk) = false :=
      List.any_eq_false.2 fun q mem => Bool.eq_false_iff.1 (waiting q mem)
    simp only [Lif.place, head, unqueued, decide_eq_false full, Bool.false_eq_true, if_false]
    rfl
  | snapState | snapFaults =>
    refine Eq.trans ?_ (dropped _ fun _ => rfl).symm
    simp only [Lif.place, decide_eq_false full, Bool.false_eq_true, if_false]
  | acknAspect | acknFault | overdue =>
    simp only [Lif.place, decide_eq_false full, Bool.false_eq_true, if_false]
    rfl

theorem Lif.place_of_room {l : Lif} {now : Time} {content : TxContent} (fresh : l.Fresh content)
    (room : l.length < queueCapacity) : l.place now content =
      { lif := { l with waiting := enterQueue { content := content, entered := now } l.waiting }, lost := none } := by
  cases content with
  | desk c =>
    obtain ⟨head, waiting⟩ := fresh rfl
    have unqueued : l.waiting.any (fun q => q.content.isDesk) = false :=
      List.any_eq_false.2 fun q mem => Bool.eq_false_iff.1 (waiting q mem)
    simp only [Lif.place, head, unqueued, decide_eq_true room, Bool.false_eq_true, if_false, if_true]
  | _ => simp only [Lif.place, decide_eq_true room, if_true]

theorem State.pruneQueue_lif (s : State) : s.pruneQueue.lif = { s.lif.pruned with
    queueLossRaised := s.lif.queueLossRaised && !(decide (s.lif.pruned.length < s.lif.length) && decide (s.lif.pruned.length ≤ 4)) } := by
  unfold State.pruneQueue
  dsimp only
  split
  · next shorter => rw [State.queueEased_lif, decide_eq_true shorter, Bool.true_and]; rfl
  · next same => rw [decide_eq_false same, Bool.false_and, Bool.not_false, Bool.and_true]; rfl

/-- Settles O20: the table of R175 by its five places, the report of a loss and its easing. -/
theorem handedFramesArePlaced : Obligations.HandedFramesArePlaced := by
  refine ⟨fun l now content within => ⟨fun c desk head => ?_, fun c desk head queued => ?_, fun fresh => ⟨fun room => ?_, fun full => ?_⟩⟩,
    fun s content => ⟨fun kept => ?_, fun c lost => ?_⟩, fun s => ⟨fun raised few => State.queueEased_of_few raised few,
      State.queueEased_of_not, fun hold h head => ?_, ?_, fun shorter raised few => ?_⟩⟩
  · subst desk
    rw [Lif.place, if_pos head]
  · subst desk
    have queued : l.waiting.any (fun q => q.content.isDesk) = true := List.any_eq_true.2 queued
    simp only [Lif.place, head, queued, Bool.false_eq_true, if_false, if_true]
    rfl
  · have fresh : l.Fresh content := fun desk => fresh.resolve_left (by rw [desk]; decide)
    rw [Lif.place_of_room fresh room]
    refine ⟨rfl, rfl, fun urgent => ?_, fun normal => ?_⟩
    · exact if_pos urgent
    · exact if_neg (Bool.eq_false_iff.1 normal)
  · have fresh : l.Fresh content := fun desk => fresh.resolve_left (by rw [desk]; decide)
    have none : ¬l.length < queueCapacity := by rw [full]; decide
    rw [Lif.place_of_full fresh none]
    refine ⟨fun unfit => ?_, fun before q after waiting passes last => ?_⟩
    · rw [Lif.enterFor, newestWhere_none.2 unfit]
    · obtain ⟨newest, removed⟩ := newestWhere_of_last
        (test := fun c => if content.urgent then !c.urgent else content.isDesk && c.isSnap) (before := before) passes last
      rw [Lif.enterFor, waiting, newest, removed]
      exact ⟨rfl, rfl⟩
  · have same : s.handFrame content = { s with lif := (s.lif.place s.now content).lif } := by rw [State.handFrame, kept]
    rw [same]
    exact ⟨rfl, rfl, rfl⟩
  · have same : s.handFrame content =
        ({ s with lif := (s.lif.place s.now content).lif, snu := s.snu.notice c } : State).queueLoss := by
      rw [State.handFrame, lost]
    have flag : (s.lif.place s.now content).lif.queueLossRaised = s.lif.queueLossRaised := by rw [Lif.place_lif]
    rw [same]
    refine ⟨State.queueLoss_lif _, fun raised => ?_, fun unraised => ?_⟩
    · rw [State.queueLoss, if_pos (flag.trans raised)]
    · exact State.queueLoss_raised (s := { s with lif := (s.lif.place s.now content).lif, snu := s.snu.notice c })
        (flag.trans unraised)
  · rw [State.headLeaves, head]
    dsimp only
    rw [State.enterHold, hold]
  · rw [State.pruneQueue_lif]
    rfl
  · have same : s.pruneQueue.lif.length = s.lif.pruned.length := by rw [State.pruneQueue_lif]; rfl
    rw [same] at shorter few
    have eased : s.pruneQueue = ({ s with lif := s.lif.pruned } : State).queueEased := if_pos shorter
    obtain ⟨lif, flm⟩ := State.queueEased_of_few (s := { s with lif := s.lif.pruned }) raised few
    rw [eased, lif]
    exact ⟨rfl, flm⟩

/-! ### The end of an attempt (R174, R176) -/

theorem State.sendSucceeded_lif (s : State) : s.sendSucceeded.lif = { s.lif with failedSendRaised := false } := by
  unfold State.sendSucceeded
  split
  · rw [State.flmClear_lif]
  · next unraised => rw [← Bool.eq_false_iff.2 unraised]

theorem State.sendFailed_lif (s : State) : s.sendFailed.lif = { s.lif with failedSendRaised := true } := by
  unfold State.sendFailed
  split
  · next raised => rw [← raised]
  · rw [State.flmRaise_lif]

/-- A clear request raises nothing. -/
theorem State.flmClear_keepsNotRaised {s : State} {origin : Nat} {code : FaultCode} (h : s.flm.NotRaised origin code)
    (cleared : FaultCode) : (s.flmClear cleared).flm.NotRaised origin code := by
  intro q mem named
  have settled : q ∈ (s.flm.settle (FaultRecord.is s.own cleared) settleAbsent).records := mem
  simp only [Flm.settle, Flm.withRemaining, mem_inDisplayOrder, List.mem_filterMap] at settled
  obtain ⟨r, rmem, settled⟩ := settled
  split at settled
  · exact settleAbsent_state settled
  · obtain rfl := Option.some.inj settled
    exact h _ rmem named

/-- The part without its head, the SNU told of it. -/
def State.withoutHead (s : State) (h : HeadFrame) : State :=
  { s with lif := { s.lif with head := none }, snu := s.snu.notice h.content }

theorem State.headLeaves_of_head {s : State} {h : HeadFrame} (head : s.lif.head = some h) :
    s.headLeaves = (s.withoutHead h).enterHold.queueEased := by
  rw [State.headLeaves, head]
  rfl

theorem State.headLeaves_of_noHold {s : State} {h : HeadFrame} (head : s.lif.head = some h) (hold : s.lif.hold = none) :
    s.headLeaves = (s.withoutHead h).queueEased := by
  rw [State.headLeaves_of_head head, State.enterHold, show (s.withoutHead h).lif.hold = none from hold]

theorem State.headLeaves_of_hold {s : State} {h : HeadFrame} {c : DeskContent} (head : s.lif.head = some h)
    (hold : s.lif.hold = some c) : s.headLeaves = (({ s with
      lif := { s.lif with head := none, hold := none }, snu := s.snu.notice h.content } : State).handFrame (.desk c)).queueEased := by
  rw [State.headLeaves_of_head head, State.enterHold, show (s.withoutHead h).lif.hold = some c from hold]
  rfl

/-- Handed while there is no head, a frame does not go to the DESK hold. -/
theorem Lif.place_hold {l : Lif} (head : l.head = none) (now : Time) (content : TxContent) :
    (l.place now content).lif.hold = l.hold := by
  have placed := l.places now content
  generalize l.place now content = placement at placed ⊢
  cases placed with
  | held c desk isDesk => rw [Lif.headIsDesk, head] at isDesk; cases isDesk
  | refreshed | entered | replaced | dropped => rfl

/-- The head leaves: of the line only the frames that wait, the hold and the flag of 0xF072 are left to say. -/
theorem State.headLeaves_lif {s : State} {h : HeadFrame} (head : s.lif.head = some h) : ∃ waiting raised,
    s.headLeaves.lif = { s.lif with head := none, waiting := waiting, hold := none, queueLossRaised := raised } := by
  cases hold : s.lif.hold with
  | none =>
    rw [State.headLeaves_of_noHold head hold, State.queueEased_lif, ← hold]
    exact ⟨s.lif.waiting, _, rfl⟩
  | some c =>
    let gone : Lif := { s.lif with head := none, hold := none }
    have placed : (gone.place s.now (.desk c)).lif = { gone with waiting := (gone.place s.now (.desk c)).lif.waiting } := by
      have shape := gone.place_lif s.now (.desk c)
      rw [Lif.place_hold (l := gone) rfl] at shape
      exact shape
    rw [State.headLeaves_of_hold head hold, State.queueEased_lif, State.handFrame_lif]
    dsimp only
    rw [show ({ s.lif with head := none, hold := none } : Lif) = gone from rfl, placed]
    exact ⟨(gone.place s.now (.desk c)).lif.waiting, _, rfl⟩

/-- The DESK hold enters a queue with room and with no DESK frame as its last frame. -/
theorem State.headLeaves_waiting {s : State} {h : HeadFrame} {c : DeskContent} (head : s.lif.head = some h)
    (hold : s.lif.hold = some c) (noDesk : ∀ q ∈ s.lif.waiting, q.content.isDesk = false) (room : s.lif.waiting.length < 8) :
    s.headLeaves.lif.waiting = s.lif.waiting ++ [{ content := .desk c, entered := s.now }] := by
  rw [State.headLeaves_of_hold head hold, State.queueEased_lif, State.handFrame_lif]
  dsimp only
  rw [Lif.place_of_room (l := { s.lif with head := none, hold := none }) (fun _ => ⟨rfl, noDesk⟩) room]
  rfl

@[simp] theorem State.headLeaves_own (s : State) : s.headLeaves.own = s.own := State.own_of_cfl (State.headLeaves_cfl s)

/-- Settles O16: before the last stop bit nothing, after it the head leaves. -/
theorem attemptSuccessSendsTheHead : Obligations.AttemptSuccessSendsTheHead := by
  intro t d h s driving head driven
  have exec_eq : exec (.attemptSuccess t) s = .next (s.reach t).attemptSucceeds := exec_of_moment (c := .attemptSuccess t) rfl
  have endsAt := State.driveOver_of_drivenAt (s := s.reach t) driven
  constructor
  · intro early
    have goes : ¬(s.reach t).driveOver = true := by
      rw [endsAt]
      exact fun ended => Nat.not_lt.2 (of_decide_eq_true ended) early
    exact exec_eq.trans (congrArg _ (if_neg fun both => goes both.2))
  · intro ended
    let r : State := { s.reach t with lif := { s.lif with
      drive := .released, driven := [], drivenAt := none, idleSince := some (d + 10 * s.lif.driven.length * s.bitTime) } }
    have event : (s.reach t).attemptSucceeds = r.headLeaves.sendSucceeded := by
      rw [State.attemptSucceeds, if_pos ⟨driving, endsAt.trans (decide_eq_true ended)⟩,
        State.releaseLine_of_ended (s := s.reach t) driven ended]
      rfl
    obtain ⟨waiting, raised, lif⟩ := State.headLeaves_lif (s := r) head
    have after : r.headLeaves.sendSucceeded.lif = { r.lif with
        head := none, waiting := waiting, hold := none, queueLossRaised := raised, failedSendRaised := false } := by
      rw [State.sendSucceeded_lif, lif]
    have noHold (hold : s.lif.hold = none) : r.headLeaves = (r.withoutHead h).queueEased := State.headLeaves_of_noHold head hold
    have eased (hold : s.lif.hold = none) : waiting = s.lif.waiting ∧
        raised = (s.lif.queueLossRaised && !decide (s.lif.waiting.length ≤ 4)) := by
      have both := State.queueEased_lif (r.withoutHead h)
      rw [← noHold hold, lif] at both
      exact ⟨congrArg Lif.waiting both, congrArg Lif.queueLossRaised both⟩
    have cleared {origin : Nat} {code : FaultCode} (h : r.headLeaves.flm.NotRaised origin code) :
        r.headLeaves.sendSucceeded.flm.NotRaised origin code := by
      unfold State.sendSucceeded
      split
      · exact State.flmClear_keepsNotRaised (s := { r.headLeaves with lif := _ }) h _
      · exact h
    have flag : r.headLeaves.lif.failedSendRaised = s.lif.failedSendRaised := by rw [lif]
    refine ⟨_, exec_eq.trans (congrArg _ event), ?_⟩
    rw [after]
    refine ⟨rfl, rfl, rfl, rfl, rfl, rfl, rfl, rfl, fun failed => ?_, fun hold => (eased hold).1, fun c hold noDesk room => ?_,
      fun hold lost few => ⟨?_, ?_⟩, fun hold many => ?_, fun plain hold => ?_, fun hold unfailed unlost => ?_⟩
    · rw [State.sendSucceeded, if_pos (flag.trans failed)]
      have notRaised := State.flmClear_notRaised
        ({ r.headLeaves with lif := { r.headLeaves.lif with failedSendRaised := false } } : State) 0xF070
      rwa [show ({ r.headLeaves with lif := { r.headLeaves.lif with failedSendRaised := false } } : State).own = s.own from
        State.headLeaves_own r] at notRaised
    · have entered := State.headLeaves_waiting (s := r) head hold noDesk room
      rw [lif] at entered
      exact entered
    · show raised = false
      rw [(eased hold).2, lost, decide_eq_true few]
      rfl
    · refine cleared ?_
      rw [noHold hold]
      exact (State.queueEased_of_few (s := r.withoutHead h) lost few).2
    · show raised = s.lif.queueLossRaised
      rw [(eased hold).2, decide_eq_false (Nat.not_le.2 many)]
      exact Bool.and_true _
    · have told : r.headLeaves.sendSucceeded.snu = r.headLeaves.snu := by simp
      rw [told, noHold hold, State.queueEased_snu]
      exact Snu.notice_of_not_snap plain
    · rw [State.sendSucceeded, if_neg (by rw [flag, unfailed]; decide), noHold hold,
        State.queueEased_of_not (s := r.withoutHead h) (.inl unlost)]
      rfl

/-- Settles O17: the failed attempt counted, or the head discarded at the 16th. -/
theorem attemptFailureCountsOrDiscards : Obligations.AttemptFailureCountsOrDiscards := by
  intro t d h s driving head driven
  let r : State := { s.reach t with lif := { s.lif with
    drive := .released, driven := [], drivenAt := none
    idleSince := some (min (max s.now t) (d + 10 * s.lif.driven.length * s.bitTime)) } }
  have event : exec (.attemptFailure t) s = .next r.attemptCounted := by
    refine (exec_of_moment (c := .attemptFailure t) rfl).trans (congrArg _ ((if_pos driving).trans ?_))
    rw [State.releaseLine, State.idleStart_of_drivenAt (s := s.reach t) driven]
    rfl
  constructor
  · intro below
    have counted : r.attemptCounted = { r with lif := { r.lif with head := some { h with attempts := h.attempts + 1 } } } := by
      rw [State.attemptCounted, show r.lif.head = some h from head]
      exact if_pos (Nat.succ_lt_succ below)
    exact event.trans (congrArg _ counted)
  · intro last
    have discarded : r.attemptCounted = r.headLeaves.sendFailed := by
      rw [State.attemptCounted, show r.lif.head = some h from head]
      exact if_neg (by rw [last]; decide)
    obtain ⟨waiting, raised, lif⟩ := State.headLeaves_lif (s := r) head
    have after : r.headLeaves.sendFailed.lif = { r.lif with
        head := none, waiting := waiting, hold := none, queueLossRaised := raised, failedSendRaised := true } := by
      rw [State.sendFailed_lif, lif]
    have flag : r.headLeaves.lif.failedSendRaised = s.lif.failedSendRaised := by rw [lif]
    refine ⟨_, event.trans (congrArg _ discarded), ?_⟩
    rw [after]
    refine ⟨rfl, rfl, rfl, rfl, rfl, rfl, rfl, fun unfailed => ?_, fun failed hold unlost => ?_⟩
    · rw [State.sendFailed, if_neg (by rw [flag, unfailed]; decide)]
      have raised := State.flmRaise_raised
        ({ r.headLeaves with lif := { r.headLeaves.lif with failedSendRaised := true } } : State) 0xF070 .action
      rwa [show ({ r.headLeaves with lif := { r.headLeaves.lif with failedSendRaised := true } } : State).own = s.own from
        State.headLeaves_own r] at raised
    · rw [State.sendFailed, if_pos (flag.trans failed), State.headLeaves_of_noHold (s := r) head hold,
        State.queueEased_of_not (s := r.withoutHead h) (.inl unlost)]
      rfl

end Sys2Proof.Machine
end

section
/-! PROOFS. The Source Supervisor's entries (R5 to R22): an early arrival, an accepted one, the late timer, the startup grace. -/

namespace Sys2Proof.Machine

open Sys2Proof

-- One proof after another: the many small proofs below, each on a thread of its own, would reserve more stacks than the check allows.
set_option Elab.async false

/-! ### One entry -/

section
variable {e : Entry} {c : SourceConfig} {now : Time} {seq : Seq}

theorem Entry.not_duplicate (h : e.lastSeq ≠ some seq) : e.duplicate seq = false :=
  Bool.eq_false_iff.2 fun same => h ((e.duplicate_iff seq).1 same)

theorem Entry.arrive_of_early (fresh : e.lastSeq ≠ some seq) (early : e.early c now = true) :
    e.arrive c now seq = e.tooEarly c := by
  rw [Entry.arrive, if_neg (Bool.eq_false_iff.1 (Entry.not_duplicate fresh)), if_pos early]

theorem Entry.arrive_of_accepted (fresh : e.lastSeq ≠ some seq) (onTime : e.early c now = false) :
    e.arrive c now seq = e.accepted c now seq := by
  rw [Entry.arrive, if_neg (Bool.eq_false_iff.1 (Entry.not_duplicate fresh)), if_neg (Bool.eq_false_iff.1 onTime)]

theorem Entry.early_iff : e.early c now = true ↔
    ∃ t, e.lastAccepted = some t ∧ 0 < c.lowerMs ∧ c.lowerMs < c.upperMs ∧ now - t < ms c.lowerMs := by
  unfold Entry.early earlyCheck
  cases e.lastAccepted with
  | none => simp
  | some t => simp [and_assoc]

theorem Entry.gap_iff : e.gap seq = true ↔ ∃ q, e.lastSeq = some q ∧ seq ≠ q + 1 := by
  unfold Entry.gap
  cases e.lastSeq <;> simp

theorem Entry.violate_of_limit (used : Bool) (limit : e.violations + 1 = c.lossLimit) : e.violate c used = e.lose true := if_pos limit

theorem Entry.violate_below (used : Bool) (below : e.violations + 1 ≠ c.lossLimit) : e.violate c used =
    { entry := { e with state := .suspect, violations := e.violations + 1 }, used := used, report := false, clear := false } :=
  if_neg below

theorem Entry.qualify_reached {progress : Nat} (reached : progress = c.qualCount) : e.qualify c progress =
    { entry := { e with state := .valid, progress := progress, violations := 0, lossReported := false }
      used := true, report := false, clear := e.lossReported } := if_pos reached

theorem Entry.qualify_short {progress : Nat} (short : progress ≠ c.qualCount) :
    e.qualify c progress = Entry.only { e with state := .qualifying, progress := progress } := if_neg short

/-- A loss that is reported, or was (R18, R21). -/
theorem Entry.lose_entry {report : Bool} (reported : (e.lossReported || report) = true) : (e.lose report).entry =
    { state := .lost, lastSeq := none, lastAccepted := none, violations := 0, progress := 0, lossReported := true, lateAt := none } := by
  rw [Entry.lose, reported]

theorem Entry.lose_true : (e.lose true).entry =
    { state := .lost, lastSeq := none, lastAccepted := none, violations := 0, progress := 0, lossReported := true, lateAt := none } :=
  Entry.lose_entry (Bool.or_true _)

theorem Entry.tooEarly_qualifying (state : e.state = .qualifying) : e.tooEarly c = Entry.only { e with progress := 0 } := by
  rw [Entry.tooEarly, state]

theorem Entry.tooEarly_present (state : e.state = .valid ∨ e.state = .suspect) : e.tooEarly c = e.violate c false := by
  obtain state | state := state <;> rw [Entry.tooEarly, state]

theorem Entry.late_qualifying (state : e.state = .qualifying) : e.late c now = e.lose (!e.lossReported) := by
  rw [Entry.late, state]

theorem Entry.late_present (state : e.state = .valid ∨ e.state = .suspect) :
    e.late c now = ({ e with lateAt := some (now + ms c.upperMs) } : Entry).violate c false := by
  obtain state | state := state <;> rw [Entry.late, state]

theorem Entry.accepted_unqualified (state : e.state = .absent ∨ e.state = .lost) :
    e.accepted c now seq = (e.accept c now seq).qualify c 1 := by
  obtain state | state := state <;> rw [Entry.accepted, state]

theorem Entry.accepted_qualifying (state : e.state = .qualifying) : e.accepted c now seq =
    if e.gap seq then Entry.only { e.accept c now seq with progress := 0 } else (e.accept c now seq).qualify c (e.progress + 1) := by
  rw [Entry.accepted, state]

theorem Entry.accepted_gap (state : e.state = .valid ∨ e.state = .suspect) (gap : e.gap seq = true) :
    e.accepted c now seq = (e.accept c now seq).violate c true := by
  obtain state | state := state <;> rw [Entry.accepted, state] <;> exact if_pos gap

theorem Entry.accepted_valid (state : e.state = .valid) (next : ¬e.gap seq = true) :
    e.accepted c now seq = { entry := e.accept c now seq, used := true, report := false, clear := false } := by
  rw [Entry.accepted, state]; exact if_neg next

theorem Entry.accepted_suspect (state : e.state = .suspect) (next : ¬e.gap seq = true) : e.accepted c now seq =
    { entry := { e.accept c now seq with state := .valid, violations := 0 }, used := true, report := false, clear := false } := by
  rw [Entry.accepted, state]; exact if_neg next

end

/-! ### The table -/

/-- An event at an entry writes that entry and no other. -/
theorem State.entryEvent_entry (s : State) (i j : Fin 24) (r : EntryResult) (payload : List Byte) :
    (s.entryEvent i r payload).ssv.entries.get j = if i = j then r.entry else s.ssv.entries.get j := by
  rw [State.entryEvent_ssv]
  exact vector_get_set _ _ _ _

/-- A loss reported raises its record by the report mode (R21). -/
theorem State.entryEvent_raised (s : State) (i : Fin 24) {r : EntryResult} (payload : List Byte) (report : r.report = true)
    (clear : r.clear = false) :
    ((s.source i).report = .fault → (s.entryEvent i r payload).flm.Raised s.own (0xF100 + BitVec.ofNat 16 i.val) .action) ∧
    ((s.source i).report = .warning →
      (s.entryEvent i r payload).flm.Raised s.own (0xF100 + BitVec.ofNat 16 i.val) .advisory) := by
  have asked : r.requests i (s.source i).report = lossRaise i (s.source i).report := by
    rw [EntryResult.requests, report, clear]
    exact List.append_nil _
  obtain ⟨u, own, event⟩ : ∃ u : State, u.own = s.own ∧ s.entryEvent i r payload = u.requests (lossRaise i (s.source i).report) := by
    refine ⟨_, ?_, asked ▸ s.entryEvent_cases i r payload⟩
    split
    · exact State.own_of_cfl (State.publish_cfl ..)
    · rfl
  rw [event]
  constructor
  · intro mode
    rw [mode, ← own]
    exact State.flmRaise_raised u (lossCode i) .action
  · intro mode
    rw [mode, ← own]
    exact State.flmRaise_raised u (lossCode i) .advisory

/-! ### Arrivals -/

/-- What an arrival leaves at the table: the entry's own result, and the rest as it was. -/
theorem State.arrival_entries (s : State) (i : Fin 24) (r : EntryResult) (payload : List Byte) (t : Time) :
    (∀ j, j ≠ i → ((s.heardAt t).entryEvent i r payload).ssv.entries.get j = s.ssv.entries.get j) ∧
      ((s.heardAt t).entryEvent i r payload).ssv.graceAt = s.ssv.graceAt ∧
      ((s.heardAt t).entryEvent i r payload).ssv.entries.get i = r.entry := by
  refine ⟨fun j other => ?_, ?_, ?_⟩
  · rw [State.entryEvent_entry, if_neg (Ne.symm other)]
    rfl
  · rw [State.entryEvent_ssv]
    rfl
  · rw [State.entryEvent_entry, if_pos rfl]

/-- Settles O22: the early arrival by the entry's state. -/
theorem earlyArrivalIsAViolation : Obligations.EarlyArrivalIsAViolation := by
  intro t last bytes f i s arrives fresh accepted lower bounds early
  have early : (s.ssv.entries.get i).early (s.source i) (max s.now t) = true :=
    Entry.early_iff.2 ⟨last, accepted, lower, bounds, early⟩
  refine ⟨_, exec_arrival_of_arrives arrives t, ?_⟩
  rw [Entry.arrive_of_early fresh early]
  obtain ⟨others, grace, entry⟩ := s.arrival_entries i ((s.ssv.entries.get i).tooEarly (s.source i)) f.payload t
  refine ⟨others, grace, fun qualifying => ?_, fun present => ⟨fun below => ?_, fun limit => ?_⟩⟩
  · rw [entry, Entry.tooEarly_qualifying qualifying]; rfl
  · rw [entry, Entry.tooEarly_present present, Entry.violate_below _ below]
  · rw [entry, Entry.tooEarly_present present, Entry.violate_of_limit _ limit, Entry.lose_true]

/-- Settles O23: the accepted arrival by the entry's state, the gap test and the settings. -/
theorem acceptedArrivalMovesTheEntry : Obligations.AcceptedArrivalMovesTheEntry := by
  intro t bytes f i s arrives fresh onTime
  refine ⟨_, exec_arrival_of_arrives arrives t, ?_⟩
  rw [Entry.arrive_of_accepted fresh onTime]
  obtain ⟨others, grace, entry⟩ := s.arrival_entries i ((s.ssv.entries.get i).accepted (s.source i) (max s.now t) f.seq) f.payload t
  refine ⟨others, grace, ?_⟩
  rw [entry]
  generalize s.ssv.entries.get i = e
  generalize s.source i = c
  refine ⟨fun unqualified => ?_, fun qualifying => ?_, fun present => ?_⟩
  · rw [Entry.accepted_unqualified unqualified]
    exact ⟨fun reached => by rw [Entry.qualify_reached reached.symm]; rfl,
      fun short => by rw [Entry.qualify_short (Ne.symm short)]; rfl⟩
  · rw [Entry.accepted_qualifying qualifying]
    refine ⟨fun gap => ?_, fun next reached => ?_, fun next short => ?_⟩
    · rw [if_pos (Entry.gap_iff.2 gap)]; rfl
    · rw [if_neg fun gap => next (Entry.gap_iff.1 gap), Entry.qualify_reached reached]; rfl
    · rw [if_neg fun gap => next (Entry.gap_iff.1 gap), Entry.qualify_short short]
      simp only [Entry.only, Entry.accept, qualifying]
  · refine ⟨fun gap limit => ?_, fun gap below => ?_, fun next valid => ?_, fun next suspect => ?_⟩
    · rw [Entry.accepted_gap present (Entry.gap_iff.2 gap), Entry.violate_of_limit (e := e.accept c (max s.now t) f.seq) true limit,
        Entry.lose_true]
    · rw [Entry.accepted_gap present (Entry.gap_iff.2 gap), Entry.violate_below (e := e.accept c (max s.now t) f.seq) true below]
      rfl
    · rw [Entry.accepted_valid valid fun gap => next (Entry.gap_iff.1 gap)]; rfl
    · rw [Entry.accepted_suspect suspect fun gap => next (Entry.gap_iff.1 gap)]; rfl

/-! ### The late timer -/

/-- Settles O24: the expiry by the entry's state, and the report of a loss. -/
theorem lateExpiryMovesTheEntry : Obligations.LateExpiryMovesTheEntry := by
  intro t i s due present
  let r := (s.ssv.entries.get i).late (s.source i) (max s.now t)
  have event : (s.reach t).event (.lateTimerExpiry i) = (s.reach t).entryEvent i r [] := rfl
  refine ⟨_, exec_of_moment (c := .lateTimerExpiry i) due, ?_⟩
  rw [event]
  have entry : ((s.reach t).entryEvent i r []).ssv.entries.get i = r.entry := by rw [State.entryEvent_entry, if_pos rfl]
  have raised := (s.reach t).entryEvent_raised i (r := r) []
  refine ⟨fun j other => ?_, ?_, ?_, fun qualifying => ?_, fun charged => ⟨fun limit => ?_, fun below => ?_⟩⟩
  · rw [State.entryEvent_entry, if_neg (Ne.symm other)]; rfl
  · rw [State.entryEvent_ssv]; rfl
  · rw [State.entryEvent_now]; rfl
  · have late : r = (s.ssv.entries.get i).lose (!(s.ssv.entries.get i).lossReported) := Entry.late_qualifying qualifying
    have report (unreported : ¬((s.ssv.entries.get i).state = .qualifying ∧ (s.ssv.entries.get i).lossReported = true)) :
        r.report = true := by
      rw [late]
      show (!(s.ssv.entries.get i).lossReported) = true
      rw [Bool.eq_false_iff.2 fun reported => unreported ⟨qualifying, reported⟩]
      rfl
    refine ⟨?_, fun unreported mode => ?_, fun unreported mode => ?_⟩
    · rw [entry, late, Entry.lose_entry (by cases (s.ssv.entries.get i).lossReported <;> rfl)]
    · exact (raised (report unreported) (by rw [late]; rfl)).1 mode
    · exact (raised (report unreported) (by rw [late]; rfl)).2 mode
  · have late : r = ({ s.ssv.entries.get i with lateAt := some (max s.now t + ms (s.source i).upperMs) } : Entry).lose true :=
      (Entry.late_present charged).trans (Entry.violate_of_limit (e := { s.ssv.entries.get i with lateAt := _ }) false limit)
    refine ⟨?_, fun _ mode => ?_, fun _ mode => ?_⟩
    · rw [entry, late, Entry.lose_true]
    · exact (raised (by rw [late]; rfl) (by rw [late]; rfl)).1 mode
    · exact (raised (by rw [late]; rfl) (by rw [late]; rfl)).2 mode
  · rw [entry, show r = _ from Entry.late_present charged,
      Entry.violate_below (e := { s.ssv.entries.get i with lateAt := some (max s.now t + ms (s.source i).upperMs) }) false below]

/-! ### The startup grace -/

theorem State.graceEntry_entry (s : State) (i j : Fin 24) : (s.graceEntry i).ssv.entries.get j =
    if i = j ∧ (s.source j).enabled = true ∧ (s.ssv.entries.get j).state = .absent then
      ((s.ssv.entries.get j).lose true).entry else s.ssv.entries.get j := by
  unfold State.graceEntry
  by_cases same : i = j
  · subst same
    split
    · next absent =>
      obtain ⟨enabled, absent⟩ := Bool.and_eq_true_iff.1 absent
      rw [State.entryEvent_entry, if_pos rfl, if_pos ⟨rfl, enabled, beq_iff_eq.1 absent⟩]
    · next other =>
      rw [if_neg fun ⟨_, enabled, absent⟩ => other (Bool.and_eq_true_iff.2 ⟨enabled, beq_iff_eq.2 absent⟩)]
  · split
    · rw [State.entryEvent_entry, if_neg same, if_neg fun both => same both.1]
    · rw [if_neg fun both => same both.1]

/-- After the entries of a list: those of them that were still ABSENT are LOST. -/
theorem State.graceEntries_entry (l : List (Fin 24)) (s : State) (j : Fin 24) :
    (l.foldl (fun s i => s.graceEntry i) s).ssv.entries.get j =
      if j ∈ l ∧ (s.source j).enabled = true ∧ (s.ssv.entries.get j).state = .absent then
        ((s.ssv.entries.get j).lose true).entry else s.ssv.entries.get j := by
  induction l generalizing s with
  | nil => simp
  | cons i rest ih =>
    rw [List.foldl_cons, ih, State.source_of_cfl (State.graceEntry_cfl s i), State.graceEntry_entry]
    by_cases absent : (s.source j).enabled = true ∧ (s.ssv.entries.get j).state = .absent
    · by_cases same : i = j
      · have lost : ((s.ssv.entries.get j).lose true).entry.state = .lost := rfl
        simp [same, absent, lost]
      · simp [same, absent, Ne.symm same]
    · simp [absent]

theorem State.graceEntries_graceFlags (l : List (Fin 24)) (s : State) :
    (l.foldl (fun s i => s.graceEntry i) s).ssv.graceAt = s.ssv.graceAt ∧
      (l.foldl (fun s i => s.graceEntry i) s).ssv.graceExpired = s.ssv.graceExpired := by
  induction l generalizing s with
  | nil => exact ⟨rfl, rfl⟩
  | cons i rest ih =>
    have one : (s.graceEntry i).ssv.graceAt = s.ssv.graceAt ∧ (s.graceEntry i).ssv.graceExpired = s.ssv.graceExpired := by
      unfold State.graceEntry
      split
      · rw [State.entryEvent_ssv]; exact ⟨rfl, rfl⟩
      · exact ⟨rfl, rfl⟩
    obtain ⟨timer, flag⟩ := ih (s.graceEntry i)
    exact ⟨timer.trans one.1, flag.trans one.2⟩

/-- The grace expiry at the table (R12). -/
theorem State.graceExpiry_entries (s : State) : s.graceExpiry.ssv.graceAt = none ∧ s.graceExpiry.ssv.graceExpired = true ∧
    ∀ i, s.graceExpiry.ssv.entries.get i =
      if (s.source i).enabled = true ∧ (s.ssv.entries.get i).state = .absent then ((s.ssv.entries.get i).lose true).entry
      else s.ssv.entries.get i := by
  let flagged : State := { s with ssv := { s.ssv with graceAt := none, graceExpired := true } }
  have ssv : s.graceExpiry.ssv = ((List.finRange 24).foldl (fun s i => s.graceEntry i) flagged).ssv := by
    rw [State.graceExpiry, State.asuGrace_ssv, State.sfuGrace_ssv]
  obtain ⟨timer, flag⟩ := State.graceEntries_graceFlags (List.finRange 24) flagged
  rw [ssv]
  refine ⟨timer, flag, fun i => ?_⟩
  rw [State.graceEntries_entry]
  simp only [List.mem_finRange, true_and]
  rfl

/-- The notices of the grace expiry (R37, R71). -/
theorem State.graceExpiry_notices (s : State) : s.graceExpiry.sfu.graceExpired = true ∧ s.graceExpiry.asu.graceExpired = true := by
  unfold State.graceExpiry
  generalize (List.finRange 24).foldl _ _ = lost
  constructor
  · rw [State.asuGrace_sfu, State.sfuGrace_sfu]
  · rw [State.asuGrace, State.reselect_asu]
    rfl

/-- Settles O25: the entries in order of index, then the notices. -/
theorem graceExpiryLosesTheAbsent : Obligations.GraceExpiryLosesTheAbsent := by
  intro t s due
  refine ⟨_, exec_of_moment (c := .startupGraceExpiry) due, ?_⟩
  have now := State.event_now .startupGraceExpiry (s.reach t)
  obtain ⟨timer, flag, entries⟩ := (s.reach t).graceExpiry_entries
  obtain ⟨fusion, aspect⟩ := (s.reach t).graceExpiry_notices
  refine ⟨timer, flag, fusion, aspect, now, fun i => ⟨fun enabled absent => ?_, fun other => ?_⟩⟩
  · exact (entries i).trans ((if_pos ⟨enabled, absent⟩).trans Entry.lose_true)
  · exact (entries i).trans (if_neg other)

end Sys2Proof.Machine
end

section
/-! PROOFS. What an arrival does at its consumer, and the acknowledgements of peers (R10, R21 to R24, R82, R93, R102). -/

namespace Sys2Proof.Machine

open Sys2Proof

-- One proof after another: the many small proofs below, each on a thread of its own, would reserve more stacks than the check allows.
set_option Elab.async false

/-! ### What an arrival reports -/

/-- What the result of an arrival at an entry tells: that it was used, that a loss is reported, that the loss record is to be
cleared, by the entry before and after it (R10, R21, R22). -/
structure Entry.Tells (e : Entry) (accepted : Prop) (r : EntryResult) : Prop where
  used    : r.used = true ↔ accepted ∧ (r.entry.state = .valid ∨ r.entry.state = .suspect)
  report  : r.report = true ↔ r.entry.state = .lost ∧ e.state ≠ .lost
  cleared : r.clear = true → r.used = true ∧ e.lossReported = true
  clears  : e.state = .absent ∨ e.state = .lost ∨ e.state = .qualifying → r.entry.state = .valid → e.lossReported = true →
              r.clear = true

section
variable {e e' : Entry} {c : SourceConfig} {accepted : Prop}

theorem Entry.tells_only (state : e'.state = e.state) (unused : ¬(accepted ∧ (e.state = .valid ∨ e.state = .suspect))) :
    e.Tells accepted (Entry.only e') where
  used := ⟨fun used => (nomatch used), fun used => absurd (by rw [← state]; exact used) unused⟩
  report := ⟨fun report => (nomatch report), fun lost => absurd (state.symm.trans lost.1) lost.2⟩
  cleared clear := nomatch clear
  clears before valid _ := by
    have valid : e.state = .valid := state.symm.trans valid
    rw [valid] at before
    simp at before

theorem Entry.tells_violate (present : e.state = .valid ∨ e.state = .suspect) {used : Bool} (taken : used = true ↔ accepted) :
    e.Tells accepted (e'.violate c used) := by
  have unqualified (p : Prop) (before : e.state = .absent ∨ e.state = .lost ∨ e.state = .qualifying) : p := by
    obtain state | state := present <;> rw [state] at before <;> simp at before
  by_cases limit : e'.violations + 1 = c.lossLimit
  · rw [Entry.violate_of_limit used limit]
    exact {
      used := ⟨fun used => (nomatch used), fun used => by obtain ⟨-, state | state⟩ := used <;> cases state⟩
      report := ⟨fun _ => ⟨rfl, by obtain state | state := present <;> rw [state] <;> decide⟩, fun _ => rfl⟩
      cleared := fun clear => nomatch clear
      clears := fun before _ _ => unqualified _ before }
  · rw [Entry.violate_below used limit]
    exact {
      used := ⟨fun used => ⟨taken.1 used, .inr rfl⟩, fun used => taken.2 used.1⟩
      report := ⟨fun report => (nomatch report), fun lost => nomatch lost.1⟩
      cleared := fun clear => nomatch clear
      clears := fun before _ _ => unqualified _ before }

theorem Entry.tells_qualify (holds : accepted) (reported : e'.lossReported = e.lossReported) (progress : Nat) :
    e.Tells accepted (e'.qualify c progress) := by
  by_cases reached : progress = c.qualCount
  · rw [Entry.qualify_reached reached]
    exact {
      used := ⟨fun _ => ⟨holds, .inl rfl⟩, fun _ => rfl⟩
      report := ⟨fun report => (nomatch report), fun lost => nomatch lost.1⟩
      cleared := fun clear => ⟨rfl, reported.symm.trans clear⟩
      clears := fun _ _ was => reported.trans was }
  · rw [Entry.qualify_short reached]
    exact {
      used := ⟨fun used => (nomatch used), fun used => by obtain ⟨-, state | state⟩ := used <;> cases state⟩
      report := ⟨fun report => (nomatch report), fun lost => nomatch lost.1⟩
      cleared := fun clear => nomatch clear
      clears := fun _ valid => nomatch valid }

theorem Entry.tells_accepted (holds : accepted) (now : Time) (seq : Seq) : e.Tells accepted (e.accepted c now seq) := by
  have qualifies (progress : Nat) : e.Tells accepted ((e.accept c now seq).qualify c progress) :=
    Entry.tells_qualify (e := e) (e' := e.accept c now seq) holds rfl progress
  have stays {a : Entry} (state : a.state = .valid) (present : e.state = .valid ∨ e.state = .suspect) :
      e.Tells accepted { entry := a, used := true, report := false, clear := false } := {
    used := ⟨fun _ => ⟨holds, .inl state⟩, fun _ => rfl⟩
    report := ⟨fun report => (nomatch report), fun lost => by cases state.symm.trans lost.1⟩
    cleared := fun clear => nomatch clear
    clears := fun before _ _ => by obtain state | state := present <;> rw [state] at before <;> simp at before }
  cases state : e.state with
  | absent => rw [Entry.accepted_unqualified (.inl state)]; exact qualifies 1
  | lost => rw [Entry.accepted_unqualified (.inr state)]; exact qualifies 1
  | qualifying =>
    rw [Entry.accepted_qualifying state]
    split
    · exact Entry.tells_only rfl fun used => by rw [state] at used; simp at used
    · exact qualifies _
  | valid =>
    by_cases gap : e.gap seq = true
    · rw [Entry.accepted_gap (.inl state) gap]; exact Entry.tells_violate (.inl state) (by simp [holds])
    · rw [Entry.accepted_valid state gap]; exact stays state (.inl state)
  | suspect =>
    by_cases gap : e.gap seq = true
    · rw [Entry.accepted_gap (.inr state) gap]; exact Entry.tells_violate (.inr state) (by simp [holds])
    · rw [Entry.accepted_suspect state gap]; exact stays rfl (.inr state)

theorem Entry.tells_tooEarly (fails : ¬accepted) : e.Tells accepted (e.tooEarly c) := by
  have kept {e' : Entry} (state : e'.state = e.state) : e.Tells accepted (Entry.only e') :=
    Entry.tells_only state fun used => fails used.1
  have charged (present : e.state = .valid ∨ e.state = .suspect) : e.Tells accepted (e.violate c false) :=
    Entry.tells_violate present (by simp [fails])
  unfold Entry.tooEarly
  split
  · exact kept rfl
  · next state => exact charged (.inl state)
  · next state => exact charged (.inr state)
  · exact kept rfl

/-- An arrival tells whether it was used, by what its entry is after it (R10). -/
theorem Entry.tells_arrive (e : Entry) (c : SourceConfig) (now : Time) (seq : Seq) :
    e.Tells (e.lastSeq ≠ some seq ∧ e.early c now = false) (e.arrive c now seq) := by
  by_cases fresh : e.lastSeq = some seq
  · rw [Entry.arrive_of_lastSeq fresh]
    exact Entry.tells_only rfl fun used => used.1.1 fresh
  · cases early : e.early c now with
    | true =>
      rw [Entry.arrive_of_early fresh early]
      exact Entry.tells_tooEarly fun both => by cases both.2
    | false =>
      rw [Entry.arrive_of_accepted fresh early]
      exact Entry.tells_accepted ⟨fresh, rfl⟩ now seq

end

/-! ### Told, or not -/

/-- The state with the entry written. -/
def State.withEntry (s : State) (i : Fin 24) (e : Entry) : State :=
  { s with ssv := { s.ssv with entries := s.ssv.entries.set i e } }

section
variable {s : State} {i : Fin 24} {r : EntryResult} {payload : List Byte}

theorem State.entryEvent_told (told : r.used = true ∨ r.entry.state ≠ (s.ssv.entries.get i).state) :
    s.entryEvent i r payload = ((s.withEntry i r.entry).publish (s.source i) r.entry.state
      (if r.used then some payload else none)).requests (r.requests i (s.source i).report) := by
  have told : (r.used || r.entry.state != (s.ssv.entries.get i).state) = true := by
    rw [Bool.or_eq_true, bne_iff_ne]; exact told
  rw [State.entryEvent_cases, if_pos told]
  rfl

theorem State.entryEvent_untold (unused : r.used = false) (same : r.entry.state = (s.ssv.entries.get i).state) :
    s.entryEvent i r payload = (s.withEntry i r.entry).requests (r.requests i (s.source i).report) := by
  have untold : (r.used || r.entry.state != (s.ssv.entries.get i).state) = false := by
    rw [unused, Bool.false_or, bne_eq_false_iff_eq]; exact same
  rw [State.entryEvent_cases, untold]
  rfl

/-! ### The consumers -/

theorem State.entryEvent_slot (kind : (s.source i).kind = .speed)
    (told : r.used = true ∨ r.entry.state ≠ (s.ssv.entries.get i).state) :
    let slot := (s.entryEvent i r payload).sfu.slots.get (Fin.ofNat 4 (s.source i).roleIndex)
    let after := (s.sfu.slots.get (Fin.ofNat 4 (s.source i).roleIndex)).published r.entry.state
      (if r.used then some payload else none)
    slot.state = after.state ∧ slot.report = after.report := by
  dsimp only
  rw [State.entryEvent_told told, State.requests_sfu, State.publish]
  simp only [kind]
  rw [State.sfuPublished_sfu, Sfu.computed_slots]
  simp [vector_get_eq_getElem, State.withEntry]

theorem State.entryEvent_view (kind : (s.source i).kind = .aspect)
    (told : r.used = true ∨ r.entry.state ≠ (s.ssv.entries.get i).state) :
    (if (s.source i).roleIndex = 0 then (s.entryEvent i r payload).asu.primary else (s.entryEvent i r payload).asu.secondary) =
      (if (s.source i).roleIndex = 0 then s.asu.primary else s.asu.secondary).published (s.source i).station r.entry.state
        (if r.used then some payload else none) := by
  have asu : (s.entryEvent i r payload).asu = (s.asu.withView ((s.source i).roleIndex != 0) (s.source i).station r.entry.state
      (if r.used then some payload else none)).reselected s.own s.cfg s.now := by
    rw [State.entryEvent_told told, State.requests_asu, State.publish]
    simp only [kind]
    rw [State.asuPublished_eq, State.reselect_asu]
    rfl
  rw [asu]
  by_cases primary : (s.source i).roleIndex = 0
  · simp [primary, Asu.reselected, Asu.withView]
  · simp [primary, Asu.reselected, Asu.withView]

theorem State.entryEvent_peer (kind : (s.source i).kind = .desk)
    (told : r.used = true ∨ r.entry.state ≠ (s.ssv.entries.get i).state) :
    (s.entryEvent i r payload).cru.peers.get (Fin.ofNat 3 (s.source i).roleIndex) =
      (s.cru.peers.get (Fin.ofNat 3 (s.source i).roleIndex)).published r.entry.state (if r.used then some payload else none) := by
  rw [State.entryEvent_told told, State.requests_cru, State.publish]
  simp only [kind]
  rw [State.cruPublished, (State.sameHeld_evaluateRole _ _).peers]
  simp [vector_get_eq_getElem, State.withEntry]

theorem State.entryEvent_untouched (unused : r.used = false) (same : r.entry.state = (s.ssv.entries.get i).state) :
    (s.entryEvent i r payload).sfu = s.sfu ∧ (s.entryEvent i r payload).asu = s.asu ∧
      (s.entryEvent i r payload).cru = s.cru := by
  rw [State.entryEvent_untold unused same]
  exact ⟨State.requests_sfu .., State.requests_asu .., State.requests_cru ..⟩

end

/-! ### The Fault List -/

/-- What holds of every record whatever its stamp. -/
def Stampless (P : FaultRecord → Prop) : Prop := ∀ r n, P r → P { r with stamp := n }

theorem Flm.forall_add {P : FaultRecord → Prop} (stampless : Stampless P) {f : Flm} {r : FaultRecord}
    (old : ∀ q ∈ f.records, P q) (new : P r) : ∀ q ∈ (f.add r).records, P q := by
  have listed : ∀ q ∈ ({ r with stamp := f.counter } : FaultRecord) :: f.records, P q := by
    intro q mem
    obtain rfl | mem := List.mem_cons.1 mem
    · exact stampless r _ new
    · exact old q mem
  intro q mem
  unfold Flm.add at mem
  dsimp only at mem
  split at mem
  · exact listed q (mem_inDisplayOrder.1 mem)
  · obtain ⟨p, pmem, rfl⟩ := List.mem_map.1 (mem_inDisplayOrder.1 mem)
    exact stampless p _ (listed p pmem)

theorem Flm.forall_create {P : FaultRecord → Prop} (stampless : Stampless P) {f : Flm} {r : FaultRecord}
    (old : ∀ q ∈ f.records, P q) (new : P r) : ∀ q ∈ (f.create r).records, P q := by
  obtain ⟨-, created⟩ | ⟨-, -, refused⟩ | ⟨v, -, -, created⟩ := f.create_cases r
  · rw [created]; exact Flm.forall_add stampless old new
  · rw [refused]; exact old
  · rw [created]
    exact Flm.forall_add stampless (fun q mem => old q (List.mem_filter.1 mem).1) new

/-- A raise request lists a record again or creates one. -/
theorem Flm.forall_raiseCode {P : FaultRecord → Prop} (stampless : Stampless P) {f : Flm} {origin : Nat} {internal : Bool}
    {code : FaultCode} {cls : FaultClass} (old : ∀ q ∈ f.records, P q) (again : ∀ q, P q → P (Machine.relist cls q))
    (new : P (newRecord origin internal code cls)) : ∀ q ∈ (f.raiseCode origin internal code cls).flm.records, P q := by
  intro q mem
  unfold Flm.raiseCode at mem
  split at mem
  · obtain ⟨p, pmem, rfl⟩ := List.mem_map.1 (mem_inDisplayOrder.1 mem)
    split
    · exact again p (old p pmem)
    · exact old p pmem
  · exact Flm.forall_create stampless old new q mem

/-- A record of this origin that is not internal is marked stale. -/
def FaultRecord.StaleOf (origin : Nat) (r : FaultRecord) : Prop := r.origin = origin → r.internal = false → r.stale = true

theorem FaultRecord.staleOf_relist {origin : Nat} {r : FaultRecord} (h : r.StaleOf origin) (cls : FaultClass) :
    (relist cls r).StaleOf origin := by
  unfold relist
  split <;> exact h

theorem State.staleOf_flmStale (s : State) (origin : Nat) : ∀ r ∈ (s.flmStale origin).flm.records, r.StaleOf origin := by
  intro r mem from_ external
  obtain ⟨q, -, rfl⟩ := List.mem_map.1 (show r ∈ s.flm.records.map _ from mem)
  split
  · rfl
  · next other =>
    rw [if_neg other] at from_ external
    simp [from_, external] at other

theorem State.staleOf_lossRaise {s : State} {origin : Nat} (h : ∀ r ∈ s.flm.records, r.StaleOf origin) (i : Fin 24)
    (mode : ReportMode) : ∀ r ∈ (s.requests (lossRaise i mode)).flm.records, r.StaleOf origin := by
  have raised (code : FaultCode) (cls : FaultClass) : ∀ r ∈ (s.flmRaise code cls).flm.records, r.StaleOf origin :=
    Flm.forall_raiseCode (fun _ _ stale => stale) h (fun _ stale => FaultRecord.staleOf_relist stale cls) (fun _ external => nomatch external)
  cases mode with
  | fault => exact raised _ _
  | warning => exact raised _ _
  | silent => exact h

/-! ### The summary (R93) -/

theorem mem_firstListings_code {l : List ListedFault} {x : ListedFault} (h : x ∈ firstListings l) : ∃ y ∈ l, y.code = x.code := by
  induction l generalizing x with
  | nil => cases h
  | cons e rest ih =>
    obtain rfl | mem := List.mem_cons.1 h
    · exact ⟨_, List.mem_cons_self, rfl⟩
    · obtain ⟨y, ymem, same⟩ := ih (List.mem_filter.1 mem).1
      exact ⟨y, List.mem_cons_of_mem _ ymem, same⟩

theorem nodup_firstListings (l : List ListedFault) : ((firstListings l).map (·.code)).Nodup := by
  induction l with
  | nil => exact List.nodup_nil
  | cons e rest ih =>
    refine List.nodup_cons.2 ⟨fun mem => ?_, ih.sublist (List.filter_sublist.map _)⟩
    obtain ⟨q, qmem, same⟩ := List.mem_map.1 mem
    have other := (List.mem_filter.1 qmem).2
    rw [same] at other
    simp at other

/-- Of a code listed more than once the first listing counts. -/
theorem mem_firstListings {l : List ListedFault} {x : ListedFault} : x ∈ firstListings l ↔
    ∃ k : Nat, l[k]? = some x ∧ ∀ j, j < k → ∀ y : ListedFault, l[j]? = some y → y.code ≠ x.code := by
  induction l with
  | nil => simp [firstListings]
  | cons e rest ih =>
    rw [firstListings, List.mem_cons, List.mem_filter, ih]
    constructor
    · rintro (rfl | ⟨⟨k, at_, first⟩, other⟩)
      · exact ⟨0, rfl, fun j below => absurd below (Nat.not_lt_zero j)⟩
      · refine ⟨k + 1, at_, fun j below y yat => ?_⟩
        cases j with
        | zero => cases yat; simpa using Ne.symm (bne_iff_ne.1 other)
        | succ j => exact first j (Nat.lt_of_succ_lt_succ below) y yat
    · rintro ⟨k, at_, first⟩
      cases k with
      | zero => cases at_; exact .inl rfl
      | succ k =>
        refine .inr ⟨⟨k, at_, fun j below y yat => first (j + 1) (Nat.succ_lt_succ below) y yat⟩, ?_⟩
        exact bne_iff_ne.2 (Ne.symm (first 0 (Nat.succ_pos k) e rfl))

theorem listedFaults_getElem? (payload : List Byte) (k : Nat) : (listedFaults payload)[k]? =
    if k < (byteAt payload 0).toNat then
      some { code := wordAt payload (1 + 3 * k), cls := classOfCode (byteAt payload (3 + 3 * k)) }
    else none := by
  rw [listedFaults, List.getElem?_map]
  split
  · next inside => rw [List.getElem?_range inside]; rfl
  · next outside =>
    rw [List.getElem?_eq_none (by rw [List.length_range]; exact Nat.not_lt.1 outside)]; rfl

/-! ### The consumer's own form of a payload -/

theorem storedSpeed_eq (payload : List Byte) {raw : Nat} (word : (wordAt payload 0).toNat = raw) : storedSpeed payload =
    { speed := min 40000 raw
      direction := if payload.getD 2 0 = 0 then .standstill else if payload.getD 2 0 = 1 then .forward
        else if payload.getD 2 0 = 2 then .reverse else .unknown
      quality := if payload.getD 3 0 = 0 then (if 40000 < raw then .degraded else .good)
        else if payload.getD 3 0 = 1 then .degraded else .invalid } := by
  have quality : (if speedCap < raw ∧ qualityOfCode (byteAt payload 3) = .good then Quality.degraded
      else qualityOfCode (byteAt payload 3)) = if payload.getD 3 0 = 0 then (if 40000 < raw then .degraded else .good)
        else if payload.getD 3 0 = 1 then .degraded else .invalid := by
    unfold qualityOfCode speedCap byteAt
    generalize payload.getD 3 0 = q
    by_cases zero : q = 0
    · simp [zero]
    · have notGood : (if q = 1 then Quality.degraded else .invalid) ≠ .good := by split <;> decide
      simp only [if_neg zero, notGood, and_false, if_false]
  rw [← quality]
  subst word
  rfl

theorem presentField_eq (payload : List Byte) (bit cap at0 : Nat) :
    presentField (byteAt payload 2) bit cap (wordAt payload at0) =
      if (payload.getD 2 0).getLsbD bit then
        some (min cap (256 * (payload.getD at0 0).toNat + (payload.getD (at0 + 1) 0).toNat)) else none := by
  rw [presentField, toNat_wordAt]
  rfl

theorem storedAspect_code (station : Nat) (payload : List Byte) : (storedAspect station payload).code.map (·.val) =
    if (payload.getD 1 0).toNat ≤ 15 then some (payload.getD 1 0).toNat else none := by
  show (aspectCodeOf (payload.getD 1 0)).map (·.val) = _
  unfold aspectCodeOf
  by_cases inside : (payload.getD 1 0).toNat < 16
  · rw [dif_pos inside, if_pos (Nat.le_of_lt_succ inside)]; rfl
  · rw [dif_neg inside, if_neg fun le => inside (Nat.lt_succ_of_le le)]; rfl

/-- A used payload is stored at the consumer; a LOST entry leaves none; else what is stored stays (R26, R67, R115). -/
theorem Slot.published_report (slot : Slot) {after : EntryState} :
    (∀ p, after = .valid ∨ after = .suspect → (slot.published after (some p)).report = some (storedSpeed p)) ∧
    (after = .lost → ∀ p, (slot.published after p).report = none) ∧
    (after ≠ .lost → (slot.published after none).report = slot.report) := by
  refine ⟨fun p present => ?_, fun lost p => ?_, fun kept => ?_⟩
  · obtain rfl | rfl := present <;> rfl
  · rw [lost]; cases p <;> rfl
  · cases after with
    | lost => exact absurd rfl kept
    | _ => rfl

theorem SourceView.published_report (v : SourceView) (station : Nat) {after : EntryState} :
    (∀ p, after = .valid ∨ after = .suspect → (v.published station after (some p)).report = some (storedAspect station p)) ∧
    (after = .lost → ∀ p, (v.published station after p).report = none) ∧
    (after ≠ .lost → (v.published station after none).report = v.report) := by
  refine ⟨fun p present => ?_, fun lost p => ?_, fun kept => ?_⟩
  · obtain rfl | rfl := present <;> rfl
  · rw [lost]; cases p <;> rfl
  · cases after with
    | lost => exact absurd rfl kept
    | _ => rfl

/-! ### An arrival at its consumer -/

section
variable {s : State} {t : Time} {f : Frame} {i : Fin 24} {r : EntryResult}

theorem State.speedArrival (used : r.used = true → r.entry.state = .valid ∨ r.entry.state = .suspect)
    (kind : (s.source i).kind = .speed) :
    let u := (s.heardAt t).entryEvent i r f.payload
    let slot := u.sfu.slots.get (Fin.ofNat 4 (s.source i).roleIndex)
    let was := s.sfu.slots.get (Fin.ofNat 4 (s.source i).roleIndex)
    let before := (s.ssv.entries.get i).state
    (r.used = true → slot.state = r.entry.state ∧ slot.report = some (storedSpeed f.payload)) ∧
    (¬r.used = true → r.entry.state = .lost → before ≠ .lost → slot.report = none) ∧
    (¬r.used = true → r.entry.state ≠ .lost → slot.report = was.report) ∧
    (¬r.used = true → r.entry.state = before → u.sfu = s.sfu) := by
  have slot (told : r.used = true ∨ r.entry.state ≠ (s.ssv.entries.get i).state) :=
    State.entryEvent_slot (s := s.heardAt t) (payload := f.payload) kind told
  have untouched (unused : ¬r.used = true) (same : r.entry.state = (s.ssv.entries.get i).state) :=
    (State.entryEvent_untouched (s := s.heardAt t) (payload := f.payload) (Bool.eq_false_iff.2 unused) same).1
  obtain ⟨stored, lost, kept⟩ := (s.sfu.slots.get (Fin.ofNat 4 (s.source i).roleIndex)).published_report (after := r.entry.state)
  refine ⟨fun taken => ?_, fun unused gone before => ?_, fun unused stays => ?_, untouched⟩
  · obtain ⟨state, report⟩ := slot (.inl taken)
    rw [taken] at state report
    exact ⟨state.trans (Slot.published_state _ _ _), report.trans (stored _ (used taken))⟩
  · exact (slot (.inr fun same => before (same.symm.trans gone))).2.trans (lost gone _)
  · by_cases same : r.entry.state = (s.ssv.entries.get i).state
    · exact congrArg (fun v : Sfu => (v.slots.get (Fin.ofNat 4 (s.source i).roleIndex)).report) (untouched unused same)
    · have report := (slot (.inr same)).2
      rw [Bool.eq_false_iff.2 unused] at report
      exact report.trans (kept stays)

theorem State.aspectArrival (used : r.used = true → r.entry.state = .valid ∨ r.entry.state = .suspect)
    (kind : (s.source i).kind = .aspect) :
    let u := (s.heardAt t).entryEvent i r f.payload
    let view := if (s.source i).roleIndex = 0 then u.asu.primary else u.asu.secondary
    let was := if (s.source i).roleIndex = 0 then s.asu.primary else s.asu.secondary
    let before := (s.ssv.entries.get i).state
    (r.used = true → view.state = r.entry.state ∧ view.report = some (storedAspect (s.source i).station f.payload)) ∧
    (¬r.used = true → r.entry.state = .lost → before ≠ .lost → view.report = none) ∧
    (¬r.used = true → r.entry.state ≠ .lost → view.report = was.report) ∧
    (¬r.used = true → r.entry.state = before → u.asu = s.asu) := by
  have view (told : r.used = true ∨ r.entry.state ≠ (s.ssv.entries.get i).state) :=
    State.entryEvent_view (s := s.heardAt t) (payload := f.payload) kind told
  have untouched (unused : ¬r.used = true) (same : r.entry.state = (s.ssv.entries.get i).state) :=
    (State.entryEvent_untouched (s := s.heardAt t) (payload := f.payload) (Bool.eq_false_iff.2 unused) same).2.1
  obtain ⟨stored, lost, kept⟩ := SourceView.published_report
    (if (s.source i).roleIndex = 0 then s.asu.primary else s.asu.secondary) (s.source i).station (after := r.entry.state)
  refine ⟨fun taken => ?_, fun unused gone before => ?_, fun unused stays => ?_, untouched⟩
  · have shown := view (.inl taken)
    rw [taken] at shown
    exact ⟨(congrArg SourceView.state shown).trans (SourceView.published_state _ _ _ _),
      (congrArg SourceView.report shown).trans (stored _ (used taken))⟩
  · exact (congrArg SourceView.report (view (.inr fun same => before (same.symm.trans gone)))).trans (lost gone _)
  · by_cases same : r.entry.state = (s.ssv.entries.get i).state
    · exact congrArg (fun a : Asu => (if (s.source i).roleIndex = 0 then a.primary else a.secondary).report) (untouched unused same)
    · have shown := view (.inr same)
      rw [Bool.eq_false_iff.2 unused] at shown
      exact (congrArg SourceView.report shown).trans (kept stays)

theorem State.deskArrival (used : r.used = true → r.entry.state = .valid ∨ r.entry.state = .suspect)
    (kind : (s.source i).kind = .desk) :
    let u := (s.heardAt t).entryEvent i r f.payload
    let view := u.cru.peers.get (Fin.ofNat 3 (s.source i).roleIndex)
    let was := s.cru.peers.get (Fin.ofNat 3 (s.source i).roleIndex)
    let before := (s.ssv.entries.get i).state
    (r.used = true → view = { state := r.entry.state, held := some (heldRoleOf f.payload) }) ∧
    (¬r.used = true → r.entry.state ≠ before → r.entry.state = .lost ∨ r.entry.state = .qualifying →
      view = { state := r.entry.state, held := none }) ∧
    (¬r.used = true → r.entry.state ≠ before → r.entry.state = .suspect → view = { was with state := r.entry.state }) ∧
    (¬r.used = true → r.entry.state = before → u.cru = s.cru) := by
  have view (told : r.used = true ∨ r.entry.state ≠ (s.ssv.entries.get i).state) :=
    State.entryEvent_peer (s := s.heardAt t) (payload := f.payload) kind told
  refine ⟨fun taken => ?_, fun unused moved gone => ?_, fun unused moved suspect => ?_, fun unused same =>
    (State.entryEvent_untouched (s := s.heardAt t) (payload := f.payload) (Bool.eq_false_iff.2 unused) same).2.2⟩
  · have shown := view (.inl taken)
    rw [taken] at shown
    refine shown.trans ?_
    obtain state | state := used taken <;> rw [state] <;> rfl
  · have shown := view (.inr moved)
    rw [Bool.eq_false_iff.2 unused] at shown
    refine shown.trans ?_
    obtain state | state := gone <;> rw [state] <;> rfl
  · have shown := view (.inr moved)
    rw [Bool.eq_false_iff.2 unused] at shown
    refine shown.trans ?_
    rw [suspect]
    rfl

theorem State.faultArrival (used : r.used = true → r.entry.state = .valid ∨ r.entry.state = .suspect)
    (report : r.report = true → r.entry.state = .lost) (cleared : r.clear = true → r.used = true ∧ (s.ssv.entries.get i).lossReported = true)
    (kind : (s.source i).kind = .fault) :
    let u := (s.heardAt t).entryEvent i r f.payload
    let before := (s.ssv.entries.get i).state
    (r.used = true → (s.ssv.entries.get i).lossReported = false →
      u.flm = ((s.reach t).flmReconcile (s.source i).station f.payload).flm) ∧
    (¬r.used = true → r.entry.state ≠ .lost → u.flm = s.flm) ∧
    (r.entry.state = .lost → before ≠ .lost →
      ∀ q ∈ u.flm.records, q.origin = (s.source i).station → q.internal = false → q.stale = true) := by
  have published (after : EntryState) (payload : Option (List Byte)) (v : State) :
      v.publish (s.source i) after payload = v.flmPublished (s.source i).station after payload := by
    simp only [State.publish, kind]
  have silent (unreported : r.report = false) (uncleared : r.clear = false) : r.requests i (s.source i).report = [] := by
    rw [EntryResult.requests, unreported, uncleared]
    rfl
  have told (is : r.used = true ∨ r.entry.state ≠ (s.ssv.entries.get i).state) :=
    State.entryEvent_told (s := s.heardAt t) (payload := f.payload) is
  refine ⟨fun taken unreported => ?_, fun unused stays => ?_, fun gone before => ?_⟩
  · have noReport : r.report = false := Bool.eq_false_iff.2 fun is => by
      obtain state | state := used taken <;> rw [report is] at state <;> cases state
    have noClear : r.clear = false := Bool.eq_false_iff.2 fun is => by
      rw [unreported] at cleared; cases (cleared is).2
    have event := told (.inl taken)
    rw [show (s.heardAt t).source i = s.source i from rfl, silent noReport noClear, published, taken] at event
    obtain state | state := used taken <;> rw [state] at event <;> exact (congrArg State.flm event).trans rfl
  · have noReport : r.report = false := Bool.eq_false_iff.2 fun is => stays (report is)
    have noClear : r.clear = false := Bool.eq_false_iff.2 fun is => unused (cleared is).1
    by_cases same : r.entry.state = (s.ssv.entries.get i).state
    · have event := State.entryEvent_untold (s := s.heardAt t) (payload := f.payload) (Bool.eq_false_iff.2 unused) same
      rw [show (s.heardAt t).source i = s.source i from rfl, silent noReport noClear] at event
      exact (congrArg State.flm event).trans rfl
    · have event := told (.inr same)
      rw [show (s.heardAt t).source i = s.source i from rfl, silent noReport noClear, published, Bool.eq_false_iff.2 unused] at event
      rw [event]
      cases state : r.entry.state with
      | lost => exact absurd state stays
      | _ => rfl
  · have unused : r.used = false := Bool.eq_false_iff.2 fun is => by
      obtain state | state := used is <;> rw [gone] at state <;> cases state
    have noClear : r.clear = false := Bool.eq_false_iff.2 fun is => Bool.eq_false_iff.1 unused (cleared is).1
    have event := told (.inr fun same => before (same.symm.trans gone))
    rw [show (s.heardAt t).source i = s.source i from rfl, published, unused, gone] at event
    have requested : r.requests i (s.source i).report = lossRaise i (s.source i).report ∨ r.requests i (s.source i).report = [] := by
      rw [EntryResult.requests, noClear]
      cases r.report
      · exact .inr rfl
      · exact .inl (List.append_nil _)
    have stale := State.staleOf_flmStale ((s.heardAt t).withEntry i r.entry) (s.source i).station
    rw [event]
    obtain asked | asked := requested
    · rw [asked]; exact State.staleOf_lossRaise stale i _
    · rw [asked]; exact stale

end

theorem summaryOf_spec (payload : List Byte) :
    let at0 : Nat → ListedFault := fun k =>
      { code := wordAt payload (1 + 3 * k), cls := classOfCode (byteAt payload (3 + 3 * k)) }
    ((summaryOf payload).map (·.code)).Nodup ∧
    ∀ x : ListedFault, x ∈ summaryOf payload ↔
      ∃ k, k < (byteAt payload 0).toNat ∧ x = at0 k ∧ ∀ j, j < k → (at0 j).code ≠ (at0 k).code := by
  refine ⟨nodup_firstListings _, fun x => ?_⟩
  rw [summaryOf, mem_firstListings]
  refine exists_congr fun k => ?_
  rw [listedFaults_getElem?]
  constructor
  · rintro ⟨at_, first⟩
    split at at_
    · next inside =>
      cases at_
      refine ⟨inside, rfl, fun j below => first j below _ ?_⟩
      rw [listedFaults_getElem?, if_pos (Nat.lt_trans below inside)]
    · cases at_
  · rintro ⟨inside, rfl, first⟩
    refine ⟨if_pos inside, fun j below y yat => ?_⟩
    rw [listedFaults_getElem?, if_pos (Nat.lt_trans below inside)] at yat
    cases yat
    exact first j below

/-- A qualification with a loss reported before clears its record (R22). -/
theorem State.entryEvent_cleared (s : State) (i : Fin 24) {r : EntryResult} (payload : List Byte) (report : r.report = false)
    (clear : r.clear = true) (mode : (s.source i).report ≠ .silent) :
    (s.entryEvent i r payload).flm.NotRaised s.own (0xF100 + BitVec.ofNat 16 i.val) := by
  have asked : r.requests i (s.source i).report = [.clear (lossCode i)] := by
    rw [EntryResult.requests, report, clear]
    cases is : (s.source i).report with
    | silent => exact absurd is mode
    | _ => rfl
  obtain ⟨u, own, event⟩ : ∃ u : State, u.own = s.own ∧ s.entryEvent i r payload = u.requests [.clear (lossCode i)] := by
    refine ⟨_, ?_, asked ▸ s.entryEvent_cases i r payload⟩
    split
    · exact State.own_of_cfl (State.publish_cfl ..)
    · rfl
  rw [event, ← own]
  exact State.flmClear_notRaised u (lossCode i)

/-- Settles O26: the consumer by the entry's kind, the requests by what the arrival tells, the summary by its first listings. -/
theorem arrivalReachesItsConsumer : Obligations.ArrivalReachesItsConsumer := by
  refine ⟨fun t bytes f i s arrives => ?_, summaryOf_spec⟩
  refine ⟨_, exec_arrival_of_arrives arrives t, ?_⟩
  have tells := Entry.tells_arrive (s.ssv.entries.get i) (s.source i) (max s.now t) f.seq
  generalize (s.ssv.entries.get i).arrive (s.source i) (max s.now t) f.seq = r at tells ⊢
  have entry : ((s.heardAt t).entryEvent i r f.payload).ssv.entries.get i = r.entry := by rw [State.entryEvent_entry, if_pos rfl]
  have state (taken : r.used = true) := (tells.used.1 taken).2
  have own : (s.heardAt t).own = s.own := rfl
  have raises := (s.heardAt t).entryEvent_raised i (r := r) f.payload
  have clears := (s.heardAt t).entryEvent_cleared i (r := r) f.payload
  rw [own] at raises clears
  have reports (lost : r.report = true) := (tells.report.1 lost).1
  have unclear (unused : ¬r.used = true) : r.clear = false := Bool.eq_false_iff.2 fun is => unused (tells.cleared is).1
  dsimp only
  rw [entry, ← tells.used]
  refine ⟨fun kind => ?_, fun kind => ?_, fun kind => ?_, fun kind => State.faultArrival state reports tells.cleared kind,
    fun gone before => ?_, fun before valid reported mode => ?_⟩
  · obtain ⟨taken, rest⟩ := State.speedArrival (s := s) (t := t) (f := f) state kind
    refine ⟨fun is => ?_, rest⟩
    obtain ⟨slotState, report⟩ := taken is
    exact ⟨slotState, report.trans (congrArg some (storedSpeed_eq f.payload (toNat_wordAt f.payload 0)))⟩
  · obtain ⟨taken, rest⟩ := State.aspectArrival (s := s) (t := t) (f := f) state kind
    refine ⟨fun is => ?_, rest⟩
    obtain ⟨viewState, report⟩ := taken is
    refine ⟨viewState, _, report, rfl, rfl, storedAspect_code _ _, ?_⟩
    rw [← presentField_eq, ← presentField_eq, ← presentField_eq]
    rfl
  · exact State.deskArrival (s := s) (t := t) (f := f) state kind
  · have report := tells.report.2 ⟨gone, before⟩
    have unused : ¬r.used = true := fun is => by
      obtain is | is := state is <;> rw [gone] at is <;> cases is
    exact raises report (unclear unused)
  · have report : r.report = false := Bool.eq_false_iff.2 fun is => by
      have gone := reports is
      rw [valid] at gone
      cases gone
    exact clears report (tells.clears before valid reported) mode

/-! ### The acknowledgements of peers (R24, R82, R102) -/

theorem mem_settle {f : Flm} {sel : FaultRecord → Bool} {act : FaultRecord → Option FaultRecord} {q : FaultRecord} :
    q ∈ (f.settle sel act).records ↔ ∃ r ∈ f.records, (if sel r then act r else some r) = some q := by
  simp only [Flm.settle, Flm.withRemaining, mem_inDisplayOrder, List.mem_filterMap]

theorem State.mem_flmAcknowledge {s : State} {sel : FaultRecord → Bool} {q : FaultRecord} :
    q ∈ (s.flmAcknowledge sel).flm.records ↔ ∃ r ∈ s.flm.records, (if sel r then settleAcknowledged r else some r) = some q :=
  mem_settle

theorem exec_acknFrame_of_hears {s : State} {bytes : List Byte} {f : Frame} (h : s.Hears bytes f) (kind : f.kind = .ackn)
    (t : Time) : exec (.acknFrame t bytes) s = .next ((s.heardAt t).ssvAckn f) := by
  have heard := State.onFrame_of_hears h t State.takeAcknFrame
  rw [State.takeAcknFrame, if_pos kind] at heard
  exact congrArg Host.Outcome.next heard

theorem State.asuPeerAckn_of_match {s : State} {r : PendingAck} (pending : s.asu.pendingAck = some r) :
    (s.asuPeerAckn r.station r.inst).asu = { s.asu with pendingAck := none, ackAt := none, repeatAt := none } := by
  rw [State.asuPeerAckn, pending]
  dsimp only
  rw [if_pos ⟨rfl, rfl⟩]
  rfl

theorem State.asuPeerAckn_of_other {s : State} {station : Nat} {inst : InstanceNo}
    (other : ∀ r, s.asu.pendingAck = some r → ¬(r.station = station ∧ r.inst = inst)) : s.asuPeerAckn station inst = s := by
  unfold State.asuPeerAckn
  split
  · rfl
  · next r pending => rw [if_neg (other r pending)]

/-- Settles O27: dropped, or taken by the ASU or by the FLM. -/
theorem acknFrameIsTakenFromPresentDesks : Obligations.AcknFrameIsTakenFromPresentDesks := by
  intro t bytes f s hears kind
  have event := exec_acknFrame_of_hears hears kind t
  have present : (s.heardAt t).deskPresent f.station = s.deskPresent f.station := rfl
  refine ⟨fun absent => ?_, fun desk what => ?_, fun desk what => ?_⟩
  · rw [event, State.ssvAckn, present, absent]
    rfl
  · have taken : (s.heardAt t).ssvAckn f =
        (s.heardAt t).asuPeerAckn (byteAt f.payload 1).toNat (byteAt f.payload 3) := by
      rw [State.ssvAckn, present, if_pos desk, State.takeAckn, if_pos what]
    refine ⟨_, event, ?_⟩
    rw [taken]
    refine ⟨by simp [State.heardAt], by simp, by simp [State.heardAt], fun r pending station inst => ?_, fun other => ?_⟩
    · rw [← station, ← inst]
      exact State.asuPeerAckn_of_match (s := s.heardAt t) pending
    · exact State.asuPeerAckn_of_other (s := s.heardAt t) other
  · have taken : (s.heardAt t).ssvAckn f =
        (s.heardAt t).flmPeerAckn (byteAt f.payload 1).toNat (wordAt f.payload 2) := by
      rw [State.ssvAckn, present, if_pos desk, State.takeAckn, if_neg what]
    refine ⟨_, event, ?_⟩
    rw [taken]
    have selects {r : FaultRecord} : (r.is (byteAt f.payload 1).toNat (wordAt f.payload 2) && !r.internal) = true ↔
        r.internal = false ∧ r.origin = (byteAt f.payload 1).toNat ∧ r.code = wordAt f.payload 2 := by
      simp [FaultRecord.is, and_comm]
    refine ⟨by simp [State.heardAt], by simp, by simp [State.heardAt], fun r mem other => ?_,
      fun r mem internal origin code => ⟨fun unack => ?_, fun ack => ?_⟩, fun q mem internal origin code => ?_⟩
    · exact State.mem_flmAcknowledge.2 ⟨r, mem, if_neg fun is => other (selects.1 is)⟩
    · exact State.mem_flmAcknowledge.2 ⟨r, mem, (if_pos (selects.2 ⟨internal, origin, code⟩)).trans (by rw [settleAcknowledged, unack])⟩
    · exact State.mem_flmAcknowledge.2 ⟨r, mem, (if_pos (selects.2 ⟨internal, origin, code⟩)).trans (by rw [settleAcknowledged, ack])⟩
    · obtain ⟨r, -, settled⟩ := State.mem_flmAcknowledge.1 mem
      split at settled
      · unfold settleAcknowledged at settled
        split at settled
        · cases settled; rfl
        · cases settled
        · next ack => cases settled; exact ack
      · next unselected => cases settled; exact absurd (selects.2 ⟨internal, origin, code⟩) unselected

end Sys2Proof.Machine
end

section
/-! PROOFS. Raising, clearing, evicting and reconciling at the Fault List (R91, R94 to R99, R104 to R106, R109 to R111). -/

namespace Sys2Proof.Machine

open Sys2Proof

-- One proof after another: the many small proofs below, each on a thread of its own, would reserve more stacks than the check allows.
set_option Elab.async false

/-! ### What every event at the list hands on (R109 to R111) -/

theorem Flm.reminds_iff {f : Flm} : f.reminds = true ↔ ∃ q ∈ f.records, q.cls = .action ∧ q.state = .raisedUnack := by
  simp [Flm.reminds, Flm.anyOf]

theorem ms_thousand (n : Nat) : ms (1000 * n) = 1000000 * n := by
  unfold ms
  rw [← Nat.mul_assoc]

/-- An event that leaves the reminder timer alone until its end hands on what its list and its cause of FAULT_ACTION say. -/
theorem State.flmEvent_handsOn {s : State} {r : FlmResult} (kept : r.flm.reminderAt = s.flm.reminderAt) :
    s.FlmHandsOn (s.flmEvent r) (r.action = true) where
  started runs stopped := by
    rw [State.flmEvent_reminderAt, if_pos (Flm.reminds_iff.2 runs : r.flm.reminds = true), kept, stopped]
    rw [Option.none_or, ms_thousand]
  kept runs t left := by rw [State.flmEvent_reminderAt, if_pos (Flm.reminds_iff.2 runs : r.flm.reminds = true), kept, left, Option.some_or]
  stopped silent := by
    rw [State.flmEvent_reminderAt, if_neg fun runs => ?_]
    obtain ⟨q, mem, cls, raised⟩ := Flm.reminds_iff.1 runs
    exact silent q mem cls raised
  issued action := by
    rw [State.flmEvent_arbiter, if_pos action]
    rfl
  silent quiet := by
    rw [State.flmEvent_arbiter, if_neg quiet]
    rfl

theorem Flm.add_reminderAt (f : Flm) (r : FaultRecord) : (f.add r).reminderAt = f.reminderAt := by
  obtain ⟨-, added⟩ | ⟨-, added⟩ := f.add_cases r <;> rw [added]

theorem Flm.create_reminderAt (f : Flm) (r : FaultRecord) : (f.create r).reminderAt = f.reminderAt := by
  obtain ⟨-, created⟩ | ⟨-, -, created⟩ | ⟨v, -, -, created⟩ := f.create_cases r
  · rw [created, Flm.add_reminderAt]
  · rw [created]
  · rw [created, Flm.add_reminderAt]
    rfl

theorem Flm.raiseCode_reminderAt (f : Flm) (origin : Nat) (internal : Bool) (code : FaultCode) (cls : FaultClass) :
    (f.raiseCode origin internal code cls).flm.reminderAt = f.reminderAt := by
  unfold Flm.raiseCode
  split
  · rfl
  · exact Flm.create_reminderAt _ _

theorem raiseListed_reminderAt (origin : Nat) (listed : List ListedFault) (r : FlmResult) :
    (raiseListed origin listed r).flm.reminderAt = r.flm.reminderAt := by
  induction listed generalizing r with
  | nil => rfl
  | cons e rest ih => exact (ih _).trans (Flm.raiseCode_reminderAt _ _ _ _ _)

theorem Flm.reconcile_reminderAt (f : Flm) (origin : Nat) (listed : List ListedFault) :
    (f.reconcile origin listed).flm.reminderAt = f.reminderAt :=
  (raiseListed_reminderAt _ _ _).trans (raiseListed_reminderAt _ _ _)

theorem State.FlmHandsOn.congr {s u : State} {a b : Prop} (h : s.FlmHandsOn u a) (same : a ↔ b) : s.FlmHandsOn u b :=
  propext same ▸ h

/-- An event that causes no FAULT_ACTION. -/
theorem State.flmEvent_handsOn_silent (s : State) {f : Flm} (kept : f.reminderAt = s.flm.reminderAt) :
    s.FlmHandsOn (s.flmEvent { flm := f, action := false }) False :=
  (State.flmEvent_handsOn kept).congr (by simp)

/-! ### The records after a creation (R91) -/

/-- The stamp of an old record once another has been created. -/
def Flm.oldStamp (f : Flm) (n : Nat) : Nat := if f.counter < 65535 then n else stampRank f.records n

/-- The stamp of the record created. -/
def Flm.newStamp (f : Flm) : Nat := if f.counter < 65535 then f.counter else f.records.length

theorem Flm.oldStamp_of_lt {f : Flm} (h : f.counter < 65535) (n : Nat) : f.oldStamp n = n := if_pos h
theorem Flm.oldStamp_of_le {f : Flm} (h : 65535 ≤ f.counter) (n : Nat) : f.oldStamp n = stampRank f.records n :=
  if_neg (by omega)
theorem Flm.newStamp_of_lt {f : Flm} (h : f.counter < 65535) : f.newStamp = f.counter := if_pos h
theorem Flm.newStamp_of_le {f : Flm} (h : 65535 ≤ f.counter) : f.newStamp = f.records.length := if_neg (by omega)

/-- A record with the newest stamp counts for no older one. -/
theorem stampRank_cons_newer {l : List FaultRecord} {r : FaultRecord} {n : Nat} (newer : n ≤ r.stamp) :
    stampRank (r :: l) n = stampRank l n := by
  simp [stampRank, Nat.not_lt.2 newer]

theorem stampRank_of_below {l : List FaultRecord} {n : Nat} (below : ∀ q ∈ l, q.stamp < n) : stampRank l n = l.length := by
  unfold stampRank
  rw [List.filter_eq_self.2 (by simpa using below)]

theorem Flm.mem_add {f : Flm} {r q : FaultRecord} (below : ∀ p ∈ f.records, p.stamp < f.counter) :
    q ∈ (f.add r).records ↔
      q = { r with stamp := f.newStamp } ∨ ∃ p ∈ f.records, q = { p with stamp := f.oldStamp p.stamp } := by
  obtain ⟨counts, added⟩ | ⟨full, added⟩ := f.add_cases r <;> rw [added] <;> dsimp only <;> rw [mem_inDisplayOrder]
  · simp [Flm.oldStamp_of_lt counts, Flm.newStamp_of_lt counts]
  · have first : stampRank ({ r with stamp := f.counter } :: f.records) f.counter = f.records.length :=
      (stampRank_cons_newer (Nat.le_refl _)).trans (stampRank_of_below below)
    rw [renumber_eq, List.map_cons, List.mem_cons, Flm.newStamp_of_le full]
    simp only [Flm.oldStamp_of_le full, first, List.mem_map]
    refine or_congr_right (exists_congr fun p => and_congr_right fun mem => ?_)
    rw [stampRank_cons_newer (Nat.le_of_lt (below p mem)), eq_comm]

theorem Flm.add_counter (f : Flm) (r : FaultRecord) : (f.add r).counter = f.newStamp + 1 := by
  obtain ⟨counts, added⟩ | ⟨full, added⟩ := f.add_cases r <;> rw [added]
  · rw [Flm.newStamp_of_lt counts]
  · rw [Flm.newStamp_of_le full]

theorem Flm.length_add (f : Flm) (r : FaultRecord) : (f.add r).records.length = f.records.length + 1 := by
  obtain ⟨-, added⟩ | ⟨-, added⟩ := f.add_cases r <;> rw [added] <;> simp

theorem Flm.add_overflow (f : Flm) (r : FaultRecord) : (f.add r).overflow = f.overflow := by
  obtain ⟨-, added⟩ | ⟨-, added⟩ := f.add_cases r <;> rw [added]

/-- The age order of the old records stays, and the new one is the youngest (R91). -/
theorem Flm.oldStamp_lt {f : Flm} {p : FaultRecord} (mem : p ∈ f.records) {n : Nat} (older : p.stamp < n) :
    f.oldStamp p.stamp < f.oldStamp n := by
  unfold Flm.oldStamp
  split
  · exact older
  · exact stampRank_lt mem older

theorem Flm.oldStamp_lt_newStamp {f : Flm} (below : ∀ p ∈ f.records, p.stamp < f.counter) {p : FaultRecord}
    (mem : p ∈ f.records) : f.oldStamp p.stamp < f.newStamp := by
  unfold Flm.oldStamp Flm.newStamp
  split
  · exact below p mem
  · exact stampRank_lt_length mem

/-! ### Names are unique in a sound list (R89) -/

theorem Flm.Sound.eq_of_name {f : Flm} (h : f.Sound) {p q : FaultRecord} (hp : p ∈ f.records) (hq : q ∈ f.records)
    (origin : p.origin = q.origin) (code : p.code = q.code) : p = q :=
  eq_of_nodup_map h.named hp hq (Prod.ext origin code)

theorem FaultRecord.is_iff {origin : Nat} {code : FaultCode} {r : FaultRecord} :
    r.is origin code = true ↔ r.origin = origin ∧ r.code = code := by
  simp [FaultRecord.is]

theorem Flm.Sound.find_of_mem {f : Flm} (h : f.Sound) {q : FaultRecord} (mem : q ∈ f.records) :
    f.find q.origin q.code = some q := by
  cases found : f.find q.origin q.code with
  | none => exact absurd (Flm.find_none.1 found q mem) (by simp [FaultRecord.is])
  | some r =>
    obtain ⟨there, origin, code⟩ := Flm.find_some found
    rw [h.eq_of_name there mem origin code]

theorem Flm.find_isSome {f : Flm} {origin : Nat} {code : FaultCode} :
    (f.find origin code).isSome = true ↔ ∃ r ∈ f.records, r.origin = origin ∧ r.code = code := by
  simp [Flm.find, FaultRecord.is]

theorem Flm.find_eq_none {f : Flm} {origin : Nat} {code : FaultCode} :
    f.find origin code = none ↔ ∀ r ∈ f.records, r.origin = origin → r.code ≠ code := by
  rw [Flm.find_none]
  simp [FaultRecord.is]

/-! ### Raise and clear requests (R95, R98, R99) -/

theorem State.flmRaise_of_found {s : State} {code : FaultCode} {r : FaultRecord} (found : s.flm.find s.own code = some r)
    (cls : FaultClass) : s.flmRaise code cls = s.flmEvent
      { flm := s.flm.relist s.own code cls, action := r.state == .clearedUnack && cls == .action } := by
  rw [State.flmRaise, Flm.raiseCode, found]

theorem State.flmRaise_of_absent {s : State} {code : FaultCode} (absent : s.flm.find s.own code = none) (cls : FaultClass) :
    s.flmRaise code cls = s.flmEvent
      { flm := s.flm.create (newRecord s.own true code cls), action := s.flm.admits cls && cls == .action } := by
  rw [State.flmRaise, Flm.raiseCode, absent]

theorem Flm.create_of_room {f : Flm} (room : f.records.length < 32) (r : FaultRecord) : f.create r = f.add r := by
  obtain ⟨-, created⟩ | ⟨full, -⟩ | ⟨v, full, -⟩ := f.create_cases r
  · exact created
  · exact absurd room (Nat.not_lt.2 full)
  · exact absurd room (Nat.not_lt.2 full)

theorem Flm.create_of_refused {f : Flm} (full : f.records.length = 32) {r : FaultRecord}
    (severe : ∀ q ∈ f.records, q.cls.num ≤ r.cls.num) : f.create r = { f with overflow := true } := by
  obtain ⟨room, -⟩ | ⟨-, -, created⟩ | ⟨v, -, victim, -⟩ := f.create_cases r
  · exact absurd room (by rw [full]; decide)
  · exact created
  · cases (Flm.victim_none.2 severe).symm.trans victim

theorem Flm.admits_iff {f : Flm} {cls : FaultClass} :
    f.admits cls = true ↔ f.records.length < 32 ∨ ∃ q ∈ f.records, cls.num < q.cls.num := by
  have victim : (f.victim cls).isSome = true ↔ ∃ q ∈ f.records, cls.num < q.cls.num := by
    rw [Option.isSome_iff_ne_none, ne_eq, Flm.victim_none]
    simp
  rw [Flm.admits, Bool.or_eq_true, victim]
  exact or_congr_left decide_eq_true_iff

/-- FAULT_ACTION's cause (R110). -/
theorem Flm.raiseCode_action_iff {f : Flm} {origin : Nat} {internal : Bool} {code : FaultCode} {cls : FaultClass} :
    (f.raiseCode origin internal code cls).action = true ↔ cls = .action ∧
      ((∃ r, f.find origin code = some r ∧ r.state = .clearedUnack) ∨
       (f.find origin code = none ∧ (f.records.length < 32 ∨ ∃ q ∈ f.records, cls.num < q.cls.num))) := by
  rw [← Flm.admits_iff]
  cases found : f.find origin code with
  | some r => simp [Flm.raiseCode, found, and_comm]
  | none => simp [Flm.raiseCode, found, and_comm]

theorem relist_of_cleared {r : FaultRecord} (cleared : r.state = .clearedUnack) (cls : FaultClass) :
    relist cls r = { r with state := .raisedUnack, count := min 15 (r.count + 1), cls := cls } := by
  rw [relist, cleared]

theorem relist_of_raised {r : FaultRecord} (raised : r.state ≠ .clearedUnack) (cls : FaultClass) :
    relist cls r = { r with cls := cls } := by
  unfold relist
  split
  · contradiction
  · rfl

/-- A record of another name stays as it is when one is listed again. -/
theorem Flm.mem_relist_of_other {f : Flm} {origin : Nat} {code : FaultCode} {q : FaultRecord} (mem : q ∈ f.records)
    (other : q.is origin code = false) (cls : FaultClass) : q ∈ (f.relist origin code cls).records := by
  rw [Flm.relist, mem_inDisplayOrder]
  exact List.mem_map.2 ⟨q, mem, by simp [other]⟩

theorem Flm.length_relist (f : Flm) (origin : Nat) (code : FaultCode) (cls : FaultClass) :
    (f.relist origin code cls).records.length = f.records.length := by
  simp [Flm.relist]

theorem filterMap_eq_self {α : Type} {l : List α} {f : α → Option α} (kept : ∀ x ∈ l, f x = some x) : l.filterMap f = l := by
  induction l with
  | nil => rfl
  | cons x rest ih =>
    obtain ⟨first, others⟩ := List.forall_mem_cons.1 kept
    rw [List.filterMap_cons_some first, ih others]

/-- Where a settling selects no record, the list stays as it is. -/
theorem Flm.Sound.settle_none {f : Flm} (h : f.Sound) {sel : FaultRecord → Bool} {act : FaultRecord → Option FaultRecord}
    (unselected : ∀ r ∈ f.records, sel r = false) : (f.settle sel act).records = f.records := by
  have same : f.records.filterMap (fun r => if sel r then act r else some r) = f.records :=
    filterMap_eq_self fun r mem => if_neg (Bool.eq_false_iff.1 (unselected r mem))
  show inDisplayOrder _ = _
  rw [same, inDisplayOrder_of_ordered h.ordered]

/-- Settles O36: each request by whether the record is in the list and the list has room. -/
theorem raiseAndClearRequests : Obligations.RaiseAndClearRequests := by
  intro s code cls lawful
  have sound := lawful.sound
  refine ⟨fun absent room counts => ?_, fun absent room counts => ?_, fun absent full severe => ?_, fun r found => ?_,
    fun r found => ?_, fun absent => ?_, ?_, State.flmEvent_handsOn_silent s rfl, fun _ => State.flmEvent_handsOn_silent s rfl,
    fun _ => State.flmEvent_handsOn_silent s rfl, fun origin payload => State.flmEvent_handsOn (Flm.reconcile_reminderAt _ _ _)⟩
  · rw [State.flmRaise_of_absent absent, State.flmEvent_records, State.flmEvent_counter, Flm.create_of_room room, Flm.add_counter,
      Flm.newStamp_of_lt counts]
    refine ⟨(Flm.mem_add sound.below).2 (.inl ?_), fun q mem => (Flm.mem_add sound.below).2 (.inr ⟨q, mem, ?_⟩), rfl⟩
    · rw [Flm.newStamp_of_lt counts, newRecord]
    · rw [Flm.oldStamp_of_lt counts]
  · have last : 65535 ≤ s.flm.counter := by omega
    rw [State.flmRaise_of_absent absent, State.flmEvent_records, State.flmEvent_counter, Flm.create_of_room room, Flm.add_counter,
      Flm.length_add, Flm.newStamp_of_le last]
    refine ⟨(Flm.mem_add sound.below).2 (.inl ?_), fun q mem => (Flm.mem_add sound.below).2 (.inr ⟨q, mem, ?_⟩), rfl, rfl⟩
    · rw [Flm.newStamp_of_le last, newRecord]
    · rw [Flm.oldStamp_of_le last, stampRank]
  · rw [State.flmRaise_of_absent absent, Flm.create_of_refused full severe]
    exact ⟨rfl, by simp [full, overflowClearLevel]⟩
  · obtain ⟨mem, origin, named⟩ := Flm.find_some found
    have relisted := Flm.relist_mem mem (FaultRecord.is_iff.2 ⟨origin, named⟩) cls
    rw [State.flmRaise_of_found found, State.flmEvent_records]
    refine ⟨fun cleared => relist_of_cleared cleared cls ▸ relisted, fun raised => relist_of_raised raised cls ▸ relisted,
      fun q there other => Flm.mem_relist_of_other there (Bool.eq_false_iff.2 fun same => other ?_) cls, Flm.length_relist _ _ _ _⟩
    obtain ⟨origin', named'⟩ := FaultRecord.is_iff.1 same
    exact sound.eq_of_name there mem (origin'.trans origin.symm) (named'.trans named.symm)
  · obtain ⟨mem, origin, named⟩ := Flm.find_some found
    have selected : r.is s.own code = true := FaultRecord.is_iff.2 ⟨origin, named⟩
    have unique : ∀ q ∈ s.flm.records, q.is s.own code = true → q = r := fun q there same => by
      obtain ⟨origin', named'⟩ := FaultRecord.is_iff.1 same
      exact sound.eq_of_name there mem (origin'.trans origin.symm) (named'.trans named.symm)
    refine ⟨fun raised => mem_settle.2 ⟨r, mem, ?_⟩, fun acked => Flm.find_none.2 fun q left => ?_,
      fun cleared => mem_settle.2 ⟨r, mem, ?_⟩, fun q there other => mem_settle.2 ⟨q, there, if_neg fun same =>
        other (unique q there same)⟩⟩
    · rw [if_pos selected, settleAbsent, raised]
    · obtain ⟨p, there, became⟩ := mem_settle.1 left
      split at became
      next same =>
        obtain rfl := unique p there same
        rw [settleAbsent, acked] at became
        cases became
      next other => obtain rfl := Option.some.inj became; exact Bool.eq_false_iff.2 other
    · rw [if_pos selected, settleAbsent, cleared]
  · exact sound.settle_none (Flm.find_none.1 absent)
  · exact (State.flmEvent_handsOn (Flm.raiseCode_reminderAt _ _ _ _ _)).congr Flm.raiseCode_action_iff

/-! ### The record given up by a full list (R104, R105) -/

theorem evictedBefore_iff {a b : FaultRecord} : evictedBefore a b = true ↔
    b.cls.num < a.cls.num ∨ (a.cls.num = b.cls.num ∧ (a.state.evictionRank < b.state.evictionRank ∨
      (a.state.evictionRank = b.state.evictionRank ∧ a.stamp < b.stamp))) := by
  simp [evictedBefore]

/-- No record is given up before the first. -/
theorem firstEvicted_first {l : List FaultRecord} {v : FaultRecord} (h : firstEvicted l = some v) :
    ∀ q ∈ l, evictedBefore q v = false := by
  induction l generalizing v with
  | nil => cases h
  | cons r rest ih =>
    have irrefl : evictedBefore r r = false := Bool.eq_false_iff.2 fun h => by have := evictedBefore_iff.1 h; omega
    simp only [firstEvicted] at h
    split at h
    next none_left =>
      obtain rfl := Option.some.inj h
      have nil : rest = [] := by
        cases rest with
        | nil => rfl
        | cons q rest => simp only [firstEvicted] at none_left; split at none_left <;> (try split at none_left) <;> cases none_left
      simp [nil, irrefl]
    next best found =>
      split at h
      next sooner =>
        obtain rfl := Option.some.inj h
        refine List.forall_mem_cons.2 ⟨Bool.eq_false_iff.2 fun before => ?_, ih found⟩
        rw [evictedBefore_iff] at sooner before
        omega
      next later =>
        obtain rfl := Option.some.inj h
        refine List.forall_mem_cons.2 ⟨irrefl, fun q mem => Bool.eq_false_iff.2 fun before => ?_⟩
        have notBest := Bool.eq_false_iff.1 (ih found q mem)
        rw [evictedBefore_iff] at before
        simp only [ne_eq, evictedBefore_iff] at later notBest
        omega

/-- One record less, and only that one. -/
theorem Flm.Sound.length_without {f : Flm} (h : f.Sound) {v : FaultRecord} (mem : v ∈ f.records) :
    (f.records.filter (fun q => q != v)).length + 1 = f.records.length := by
  have nodup : f.records.Nodup := nodup_of_nodup_map h.named
  rw [← nodup.erase_eq_filter v, List.length_erase_of_mem mem]
  have := List.length_pos_of_mem mem
  omega

/-- Settles O37: the victim is the first in the order of R105 among the less severe. -/
theorem evictionTakesTheLeastSevere : Obligations.EvictionTakesTheLeastSevere := by
  intro f r lawful full
  have sound := lawful.sound
  refine ⟨Flm.create_of_refused full, fun q mem severe => ?_⟩
  obtain ⟨room, -⟩ | ⟨-, none_less, -⟩ | ⟨v, -, victim, created⟩ := f.create_cases r
  · exact absurd room (by rw [full]; decide)
  · exact absurd (Flm.victim_none.1 none_less q mem) (Nat.not_le.2 severe)
  obtain ⟨there, less⟩ := Flm.victim_some victim
  have first : ∀ q ∈ f.records, r.cls.num < q.cls.num → ¬ (v.cls.num < q.cls.num ∨ (q.cls.num = v.cls.num ∧
      (q.state.evictionRank < v.state.evictionRank ∨ (q.state.evictionRank = v.state.evictionRank ∧ q.stamp < v.stamp)))) :=
    fun q mem less before => Bool.eq_false_iff.1 (firstEvicted_first victim q (by simp [mem, less])) (evictedBefore_iff.2 before)
  have length : (f.records.filter (fun q => q != v)).length = 31 := by have := sound.length_without there; omega
  have counter : (f.withRemaining (f.records.filter (fun q => q != v))).counter = f.counter := by
    have some_left : (f.records.filter (fun q => q != v)).isEmpty = false := by
      rw [Bool.eq_false_iff, ne_eq, List.isEmpty_iff_length_eq_zero, length]
      decide
    simp only [Flm.withRemaining, some_left, Bool.false_and, Bool.false_eq_true, if_false]
  have below : ∀ p ∈ f.records.filter (fun q => q != v), p.stamp < f.counter := fun p left =>
    sound.below p (List.mem_filter.1 left).1
  generalize left : ({ f.withRemaining (f.records.filter (fun q => q != v)) with overflow := true } : Flm) = g at created
  have gRecords : g.records = f.records.filter (fun q => q != v) := by rw [← left]; rfl
  have gCounter : g.counter = f.counter := by rw [← left]; exact counter
  have gBelow : ∀ p ∈ g.records, p.stamp < g.counter := by rw [gRecords, gCounter]; exact below
  refine ⟨v, there, less, fun q mem => ?_, fun q mem same => ?_, fun q mem same state => ?_, ?_, ?_, fun counts => ?_,
    fun last => ?_⟩
  · by_cases severe : r.cls.num < q.cls.num
    · have := first q mem severe; omega
    · omega
  · have := first q mem (same ▸ less); rw [same] at this; omega
  · have := first q mem (same ▸ less); rw [same, state] at this; omega
  · rw [created, Flm.add_overflow, ← left]
  · rw [created, Flm.length_add, gRecords, length]
  · have stays : g.counter < 65535 := gCounter.symm ▸ counts
    have members : ∀ q, q ∈ (f.create r).records ↔ q = { r with stamp := f.counter } ∨ (q ∈ f.records ∧ q ≠ v) := by
      intro q
      rw [created, Flm.mem_add gBelow, Flm.newStamp_of_lt stays, gCounter]
      simp [Flm.oldStamp_of_lt stays, gRecords]
    exact ⟨(members _).2 (.inl rfl), members⟩
  · have full' : 65535 ≤ g.counter := by omega
    refine ⟨?_, ?_, fun q mem => ?_⟩
    · rw [created, Flm.mem_add gBelow, Flm.newStamp_of_le full', gRecords, length]
      exact .inl rfl
    · rw [created, Flm.add_counter, Flm.newStamp_of_le full', gRecords, length]
    · rw [created, Flm.mem_add gBelow, ← gRecords]
      exact .inr ⟨q, gRecords ▸ mem, by rw [Flm.oldStamp_of_le full', stampRank]⟩

end Sys2Proof.Machine
end

section
/-! PROOFS. Reconciliation of a summary (R94 to R97), and the one-shots of the tone output (R111, R160). -/

namespace Sys2Proof.Machine

open Sys2Proof

-- One proof after another: the many small proofs below, each on a thread of its own, would reserve more stacks than the check allows.
set_option Elab.async false

/-! ### One listing after another (R95, R96) -/

/-- What listing codes by an origin, from the list `f` to the list `g`, does; `σ` gives the stamp that a record of `f` has in `g`. -/
structure Flm.Merges (origin : Nat) (listed : List ListedFault) (σ : Nat → Nat) (f g : Flm) : Prop where
  stays     : f.counter + listed.length ≤ 65535 → ∀ n, σ n = n
  ages      : ∀ p ∈ f.records, ∀ n, p.stamp < n → σ p.stamp < σ n
  unlisted  : ∀ q ∈ f.records, (q.origin = origin → ∀ e ∈ listed, e.code ≠ q.code) →
                { q with stamp := σ q.stamp } ∈ g.records
  relisted  : ∀ q ∈ f.records, ∀ e ∈ listed, q.origin = origin → e.code = q.code →
                { Machine.relist e.cls q with stamp := σ q.stamp } ∈ g.records
  added     : ∀ e ∈ listed, f.find origin e.code = none → ∃ n,
                { newRecord origin false e.code e.cls with stamp := n } ∈ g.records ∧ ∀ q ∈ f.records, σ q.stamp < n
  names     : ∀ x ∈ g.records, (∃ q ∈ f.records, q.origin = x.origin ∧ q.code = x.code) ∨
                (x.origin = origin ∧ ∃ e ∈ listed, e.code = x.code)
  length    : g.records.length ≤ f.records.length + listed.length
  counter   : g.counter ≤ f.counter + listed.length

@[simp] theorem relist_origin (cls : FaultClass) (r : FaultRecord) : (relist cls r).origin = r.origin := by
  unfold relist; split <;> rfl
@[simp] theorem relist_code (cls : FaultClass) (r : FaultRecord) : (relist cls r).code = r.code := by
  unfold relist; split <;> rfl
@[simp] theorem relist_stamp (cls : FaultClass) (r : FaultRecord) : (relist cls r).stamp = r.stamp := by
  unfold relist; split <;> rfl
@[simp] theorem relist_internal (cls : FaultClass) (r : FaultRecord) : (relist cls r).internal = r.internal := by
  unfold relist; split <;> rfl

/-- The stamp has no part in what a listing makes of a record. -/
theorem relist_restamp (cls : FaultClass) (r : FaultRecord) (n : Nat) :
    relist cls { r with stamp := n } = { relist cls r with stamp := n } := by
  unfold relist; dsimp only; split <;> rfl

theorem Flm.mem_relist {f : Flm} {origin : Nat} {code : FaultCode} {cls : FaultClass} {q : FaultRecord} :
    q ∈ (f.relist origin code cls).records ↔
      ∃ r ∈ f.records, (if r.is origin code then Machine.relist cls r else r) = q := by
  rw [Flm.relist, mem_inDisplayOrder, List.mem_map]

/-- One code, listed where it has a record. -/
theorem Flm.merges_relist {f : Flm} {origin : Nat} {e : ListedFault} {r : FaultRecord}
    (found : f.find origin e.code = some r) : Flm.Merges origin [e] id f (f.relist origin e.code e.cls) where
  stays _ _ := rfl
  ages _ _ _ lt := lt
  unlisted q mem other := Flm.mem_relist_of_other mem (Bool.eq_false_iff.2 fun same => by
    obtain ⟨of, code⟩ := FaultRecord.is_iff.1 same
    exact other of e List.mem_cons_self code.symm) _
  relisted q mem e' isE of code := by
    obtain rfl := List.mem_singleton.1 isE
    refine Flm.mem_relist.2 ⟨q, mem, ?_⟩
    rw [if_pos (FaultRecord.is_iff.2 ⟨of, code.symm⟩)]
    exact relist_restamp e'.cls q q.stamp
  added e' isE absent := by
    obtain rfl := List.mem_singleton.1 isE
    cases absent.symm.trans found
  names x mem := by
    obtain ⟨r, there, rfl⟩ := Flm.mem_relist.1 mem
    refine .inl ⟨r, there, ?_⟩
    split <;> simp
  length := by simp [Flm.length_relist]
  counter := Nat.le_add_right _ _

/-- One code, listed where it has no record and the list has room. -/
theorem Flm.Sound.merges_add {f : Flm} (h : f.Sound) {origin : Nat} {e : ListedFault} (absent : f.find origin e.code = none)
    (room : f.records.length < 32) : Flm.Merges origin [e] f.oldStamp f (f.add (newRecord origin false e.code e.cls)) where
  stays few := Flm.oldStamp_of_lt (by simp at few; omega)
  ages p mem n lt := Flm.oldStamp_lt mem lt
  unlisted q mem _ := (Flm.mem_add h.below).2 (.inr ⟨q, mem, rfl⟩)
  relisted q mem e' isE of code := by
    obtain rfl := List.mem_singleton.1 isE
    exact absurd code.symm (Flm.find_eq_none.1 absent q mem of)
  added e' isE _ := by
    obtain rfl := List.mem_singleton.1 isE
    exact ⟨f.newStamp, (Flm.mem_add h.below).2 (.inl rfl), fun q mem => Flm.oldStamp_lt_newStamp h.below mem⟩
  names x mem := by
    obtain rfl | ⟨p, there, rfl⟩ := (Flm.mem_add h.below).1 mem
    · exact .inr ⟨rfl, e, List.mem_cons_self, rfl⟩
    · exact .inl ⟨p, there, rfl, rfl⟩
  length := by simp [Flm.length_add]
  counter := by
    rw [Flm.add_counter, Flm.newStamp]
    split
    · exact Nat.le_refl _
    · have := h.room
      simp only [capacity] at this
      simp only [List.length_singleton]
      omega

theorem Flm.Merges.stamp_mem {origin : Nat} {listed : List ListedFault} {σ : Nat → Nat} {f g : Flm}
    (h : Flm.Merges origin listed σ f g) {q : FaultRecord} (mem : q ∈ f.records) : ∃ x ∈ g.records, x.stamp = σ q.stamp := by
  by_cases listing : ∃ e ∈ listed, q.origin = origin ∧ e.code = q.code
  · obtain ⟨e, inList, of, code⟩ := listing
    exact ⟨_, h.relisted q mem e inList of code, rfl⟩
  · exact ⟨_, h.unlisted q mem fun of e inList code => listing ⟨e, inList, of, code⟩, rfl⟩

/-- A code, and then others that differ from it. -/
theorem Flm.Merges.cons {origin : Nat} {e : ListedFault} {rest : List ListedFault} {σ τ : Nat → Nat} {f g k : Flm}
    (first : Flm.Merges origin [e] σ f g) (others : Flm.Merges origin rest τ g k)
    (differ : ∀ e' ∈ rest, e'.code ≠ e.code) : Flm.Merges origin (e :: rest) (fun n => τ (σ n)) f k where
  stays few n := by
    have := first.counter
    simp only [List.length_cons, List.length_nil] at few this
    rw [first.stays (by simp only [List.length_cons, List.length_nil]; omega), others.stays (by omega)]
  ages p mem n lt := by
    obtain ⟨x, there, stamp⟩ := first.stamp_mem mem
    have := first.ages p mem n lt
    rw [← stamp] at this ⊢
    exact others.ages x there _ this
  unlisted q mem other := others.unlisted _
    (first.unlisted q mem fun of e' isE => other of e' (by rw [List.mem_singleton.1 isE]; exact List.mem_cons_self))
    fun of e' inRest => other of e' (List.mem_cons_of_mem _ inRest)
  relisted q mem e' inList of code := by
    obtain rfl | inRest := List.mem_cons.1 inList
    · refine others.unlisted _ (first.relisted q mem e' List.mem_cons_self of code) fun _ e'' inRest same => ?_
      exact differ e'' inRest (same.trans (by simp [code]))
    · have kept := first.unlisted q mem fun _ e'' isE same =>
        differ e' inRest (code.trans (same.symm.trans (by rw [List.mem_singleton.1 isE])))
      have moved := others.relisted _ kept e' inRest of code
      rwa [relist_restamp] at moved
  added e' inList absent := by
    obtain rfl | inRest := List.mem_cons.1 inList
    · obtain ⟨n, there, newest⟩ := first.added e' List.mem_cons_self absent
      refine ⟨τ n, others.unlisted _ there fun _ e'' inRest same => differ e'' inRest same, fun q mem => ?_⟩
      obtain ⟨x, thereX, stamp⟩ := first.stamp_mem mem
      rw [← stamp]
      exact others.ages x thereX n (stamp ▸ newest q mem)
    · have still : g.find origin e'.code = none := Flm.find_eq_none.2 fun x there of code => by
        obtain ⟨q, mem, of', code'⟩ | ⟨-, e'', isE, code'⟩ := first.names x there
        · exact Flm.find_eq_none.1 absent q mem (of'.trans of) (code'.trans code)
        · obtain rfl := List.mem_singleton.1 isE
          exact differ e' inRest (code.symm.trans code'.symm)
      obtain ⟨n, there, newest⟩ := others.added e' inRest still
      refine ⟨n, there, fun q mem => ?_⟩
      obtain ⟨x, thereX, stamp⟩ := first.stamp_mem mem
      exact stamp ▸ newest x thereX
  names x mem := by
    obtain ⟨q, there, of, code⟩ | ⟨of, e', inRest, code⟩ := others.names x mem
    · obtain ⟨p, thereP, ofP, codeP⟩ | ⟨ofQ, e', isE, codeQ⟩ := first.names q there
      · exact .inl ⟨p, thereP, ofP.trans of, codeP.trans code⟩
      · exact .inr ⟨of.symm.trans ofQ, e', by rw [List.mem_singleton.1 isE]; exact List.mem_cons_self, codeQ.trans code⟩
    · exact .inr ⟨of, e', List.mem_cons_of_mem _ inRest, code⟩
  length := by
    have := first.length
    have := others.length
    simp only [List.length_cons, List.length_nil] at *
    omega
  counter := by
    have := first.counter
    have := others.counter
    simp only [List.length_cons, List.length_nil] at *
    omega

/-- Listing the code would create a record, or raise one again (R95, R96). -/
def Flm.Rises (f : Flm) (origin : Nat) (code : FaultCode) : Prop :=
  f.find origin code = none ∨ ∃ r, f.find origin code = some r ∧ r.state = .clearedUnack

/-- Listing one code leaves open whether another one's listing would raise. -/
theorem Flm.Merges.rises_iff {origin : Nat} {e e' : ListedFault} {σ : Nat → Nat} {f g : Flm}
    (h : Flm.Merges origin [e] σ f g) (sound : g.Sound) (differ : e'.code ≠ e.code) :
    g.Rises origin e'.code ↔ f.Rises origin e'.code := by
  unfold Flm.Rises
  cases found : f.find origin e'.code with
  | none =>
    have still : g.find origin e'.code = none := Flm.find_eq_none.2 fun x there of code => by
      obtain ⟨q, mem, of', code'⟩ | ⟨-, e'', isE, code'⟩ := h.names x there
      · exact Flm.find_eq_none.1 found q mem (of'.trans of) (code'.trans code)
      · obtain rfl := List.mem_singleton.1 isE
        exact differ (code.symm.trans code'.symm)
    simp [still]
  | some r =>
    obtain ⟨mem, of, code⟩ := Flm.find_some found
    have kept := h.unlisted r mem fun _ e'' isE same => differ (code.symm.trans (same.symm.trans (by rw [List.mem_singleton.1 isE])))
    have still := sound.find_of_mem kept
    dsimp only at still
    rw [of, code] at still
    simp [still]

theorem Flm.Sound.raiseCode_merges {f : Flm} (h : f.Sound) (origin : Nat) (e : ListedFault) (room : f.records.length < 32) :
    (∃ σ, Flm.Merges origin [e] σ f (f.raiseCode origin false e.code e.cls).flm) ∧
    ((f.raiseCode origin false e.code e.cls).action = true ↔ e.cls = .action ∧ f.Rises origin e.code) := by
  refine ⟨?_, ?_⟩
  · cases found : f.find origin e.code with
    | some r =>
      rw [Flm.raiseCode, found]
      exact ⟨id, Flm.merges_relist found⟩
    | none =>
      rw [Flm.raiseCode, found]
      dsimp only
      rw [Flm.create_of_room room]
      exact ⟨_, h.merges_add found room⟩
  · rw [Flm.raiseCode_action_iff]
    refine and_congr_right fun _ => or_comm.trans (or_congr_left (and_iff_left (.inl room)))

/-- A summary's codes, each named once, on a list with room for all of them. -/
theorem raiseListed_merges {origin : Nat} {listed : List ListedFault} (once : (listed.map (·.code)).Nodup) {r : FlmResult}
    (sound : r.flm.Sound) (room : r.flm.records.length + listed.length ≤ 32) :
    (∃ σ, Flm.Merges origin listed σ r.flm (raiseListed origin listed r).flm) ∧
    ((raiseListed origin listed r).action = true ↔
      r.action = true ∨ ∃ e ∈ listed, e.cls = .action ∧ r.flm.Rises origin e.code) := by
  induction listed generalizing r with
  | nil =>
    refine ⟨⟨id, ?_⟩, by simp [raiseListed]⟩
    exact {
      stays := fun _ _ => rfl
      ages := fun _ _ _ lt => lt
      unlisted := fun q mem _ => mem
      relisted := fun _ _ _ none => nomatch none
      added := fun _ none => nomatch none
      names := fun x mem => .inl ⟨x, mem, rfl, rfl⟩
      length := Nat.le_refl _
      counter := Nat.le_refl _ }
  | cons e rest ih =>
    obtain ⟨notIn, once⟩ := List.nodup_cons.1 once
    have differ : ∀ e' ∈ rest, e'.code ≠ e.code := fun e' mem same => notIn (List.mem_map.2 ⟨e', mem, same⟩)
    rw [List.length_cons] at room
    obtain ⟨⟨σ, first⟩, causes⟩ := sound.raiseCode_merges origin e (by omega)
    have next := sound.raiseCode origin false e.code e.cls
    have grown := first.length
    obtain ⟨⟨τ, others⟩, action⟩ := ih once (r := {
      flm := (r.flm.raiseCode origin false e.code e.cls).flm
      action := r.action || (r.flm.raiseCode origin false e.code e.cls).action }) next
      (by simp only [List.length_cons, List.length_nil] at grown ⊢; omega)
    refine ⟨⟨_, first.cons others differ⟩, action.trans ?_⟩
    have same : ∀ e' ∈ rest, (r.flm.raiseCode origin false e.code e.cls).flm.Rises origin e'.code ↔
        r.flm.Rises origin e'.code := fun e' mem => first.rises_iff next (differ e' mem)
    rw [Bool.or_eq_true, causes, or_assoc]
    simp only [List.mem_cons, exists_eq_or_imp]
    exact or_congr_right (or_congr_right (exists_congr fun e' => and_congr_right fun mem => and_congr_right fun _ => same e' mem))

/-! ### The three phases of a reconciliation (R94 to R97) -/

/-- The list once the absent codes are settled. -/
def Flm.absentSettled (f : Flm) (origin : Nat) (listed : List ListedFault) : Flm :=
  f.settle (fun r => r.origin == origin && !r.internal && !(listed.any (fun e => e.code == r.code))) settleAbsent

/-- The listed codes in the order in which they are taken: those with a record first. -/
def Flm.taken (f : Flm) (origin : Nat) (listed : List ListedFault) : List ListedFault :=
  listed.filter (fun e => (f.find origin e.code).isSome) ++ listed.filter (fun e => (f.find origin e.code).isNone)

theorem Flm.taken_perm (f : Flm) (origin : Nat) (listed : List ListedFault) : (f.taken origin listed).Perm listed := by
  have rest : listed.filter (fun e => (f.find origin e.code).isNone) = listed.filter (fun e => !(f.find origin e.code).isSome) :=
    List.filter_congr fun e _ => by simp
  rw [Flm.taken, rest]
  exact List.filter_append_perm _ _

theorem Flm.reconcile_eq (f : Flm) (origin : Nat) (listed : List ListedFault) :
    f.reconcile origin listed =
      let created := raiseListed origin ((f.absentSettled origin listed).taken origin listed)
        { flm := f.absentSettled origin listed, action := false }
      { created with flm := created.flm.markStale origin false } := by
  simp only [Flm.taken, raiseListed, List.foldl_append]
  rfl

/-- What becomes of a record whose code is absent, and of any other. -/
theorem Flm.mem_absentSettled {f : Flm} {origin : Nat} {listed : List ListedFault} {q : FaultRecord} :
    q ∈ (f.absentSettled origin listed).records ↔ ∃ r ∈ f.records,
      (r.origin = origin ∧ r.internal = false ∧ (∀ e ∈ listed, e.code ≠ r.code) ∧ settleAbsent r = some q) ∨
      (¬(r.origin = origin ∧ r.internal = false ∧ ∀ e ∈ listed, e.code ≠ r.code) ∧ r = q) := by
  rw [Flm.absentSettled, mem_settle]
  refine exists_congr fun r => and_congr_right fun _ => ?_
  have sel : (r.origin == origin && !r.internal && !(listed.any (fun e => e.code == r.code))) = true ↔
      r.origin = origin ∧ r.internal = false ∧ ∀ e ∈ listed, e.code ≠ r.code := by simp [and_assoc]
  by_cases selected : r.origin = origin ∧ r.internal = false ∧ ∀ e ∈ listed, e.code ≠ r.code
  · rw [if_pos (sel.2 selected)]
    exact ⟨fun settled => .inl ⟨selected.1, selected.2.1, selected.2.2, settled⟩,
      fun h => h.elim (fun became => became.2.2.2) fun kept => absurd selected kept.1⟩
  · rw [if_neg (mt sel.1 selected)]
    exact ⟨fun same => .inr ⟨selected, Option.some.inj same⟩,
      fun h => h.elim (fun became => absurd ⟨became.1, became.2.1, became.2.2.1⟩ selected) fun kept => congrArg some kept.2⟩

theorem Flm.length_absentSettled_le (f : Flm) (origin : Nat) (listed : List ListedFault) :
    (f.absentSettled origin listed).records.length ≤ f.records.length := by
  show (inDisplayOrder _).length ≤ _
  rw [length_inDisplayOrder]
  exact List.length_filterMap_le _ _

theorem Flm.counter_absentSettled_le (f : Flm) (origin : Nat) (listed : List ListedFault) :
    (f.absentSettled origin listed).counter ≤ f.counter := by
  show (if _ then 0 else f.counter) ≤ f.counter
  split
  · exact Nat.zero_le _
  · exact Nat.le_refl _

theorem settleAbsent_name {r q : FaultRecord} (h : settleAbsent r = some q) :
    r.origin = q.origin ∧ r.code = q.code ∧ r.stamp = q.stamp := by
  unfold settleAbsent at h
  split at h <;> cases h <;> exact ⟨rfl, rfl, rfl⟩

/-- A record left by the settling comes from one of its name and stamp. -/
theorem Flm.of_mem_absentSettled {f : Flm} {origin : Nat} {listed : List ListedFault} {q : FaultRecord}
    (h : q ∈ (f.absentSettled origin listed).records) :
    ∃ r ∈ f.records, r.origin = q.origin ∧ r.code = q.code ∧ r.stamp = q.stamp := by
  obtain ⟨r, mem, ⟨-, -, -, settled⟩ | ⟨-, rfl⟩⟩ := Flm.mem_absentSettled.1 h
  · exact ⟨r, mem, settleAbsent_name settled⟩
  · exact ⟨r, mem, rfl, rfl, rfl⟩

/-- A listed code's record is not touched by the settling. -/
theorem Flm.Sound.absentSettled_find {f : Flm} (h : f.Sound) {origin : Nat} {listed : List ListedFault} {e : ListedFault}
    (mem : e ∈ listed) : (f.absentSettled origin listed).find origin e.code = f.find origin e.code := by
  cases found : f.find origin e.code with
  | none =>
    refine Flm.find_eq_none.2 fun q left of code => ?_
    obtain ⟨r, there, of', code', -⟩ := Flm.of_mem_absentSettled left
    exact Flm.find_eq_none.1 found r there (of'.trans of) (code'.trans code)
  | some r =>
    obtain ⟨there, of, code⟩ := Flm.find_some found
    have left : r ∈ (f.absentSettled origin listed).records :=
      Flm.mem_absentSettled.2 ⟨r, there, .inr ⟨fun absent => absent.2.2 e mem code.symm, rfl⟩⟩
    have sound : (f.absentSettled origin listed).Sound := h.settle keepsName_settleAbsent
    rw [← of, ← code]
    exact of ▸ sound.find_of_mem left

theorem Flm.mem_markStale {f : Flm} {origin : Nat} {mark : Bool} {q : FaultRecord} (mem : q ∈ f.records) :
    (q.origin = origin → q.internal = false → { q with stale := mark } ∈ (f.markStale origin mark).records) ∧
    (q.origin ≠ origin → q ∈ (f.markStale origin mark).records) := by
  refine ⟨fun of external => List.mem_map.2 ⟨q, mem, ?_⟩, fun other => List.mem_map.2 ⟨q, mem, ?_⟩⟩
  · rw [if_pos (by simp [of, external])]
  · rw [if_neg (by simp [other])]

theorem Flm.markStale_find_isSome {f : Flm} {origin : Nat} {mark : Bool} {o : Nat} {code : FaultCode} :
    ((f.markStale origin mark).find o code).isSome = true ↔ (f.find o code).isSome = true := by
  rw [Flm.find_isSome, Flm.find_isSome]
  constructor
  · rintro ⟨r, mem, of, named⟩
    obtain ⟨q, there, rfl⟩ := List.mem_map.1 mem
    refine ⟨q, there, ?_⟩
    split at of <;> split at named <;> exact ⟨of, named⟩
  · rintro ⟨r, mem, named⟩
    refine ⟨_, List.mem_map_of_mem mem, ?_⟩
    split <;> exact named

/-- A record of the list has its successor with its name, its stamp and what the settling makes of it, or its name has left. -/
theorem Flm.Sound.absentSettled_or_gone {f g : Flm} (h : f.Sound) {origin : Nat} {listed taken : List ListedFault} {σ : Nat → Nat}
    (merges : Flm.Merges origin taken σ (f.absentSettled origin listed) g) (perm : taken.Perm listed) {q : FaultRecord}
    (mem : q ∈ f.records) : (∃ x ∈ (f.absentSettled origin listed).records, x.stamp = q.stamp) ∨
      g.find q.origin q.code = none := by
  by_cases absent : q.origin = origin ∧ q.internal = false ∧ ∀ e ∈ listed, e.code ≠ q.code
  · obtain ⟨of, external, unlisted⟩ := absent
    cases settled : settleAbsent q with
    | some x =>
      exact .inl ⟨x, Flm.mem_absentSettled.2 ⟨q, mem, .inl ⟨of, external, unlisted, settled⟩⟩,
        (settleAbsent_name settled).2.2.symm⟩
    | none =>
      refine .inr (Flm.find_eq_none.2 fun x there ofX codeX => ?_)
      obtain ⟨y, left, ofY, codeY⟩ | ⟨-, e, inTaken, codeE⟩ := merges.names x there
      · obtain ⟨r, thereR, ⟨-, -, -, became⟩ | ⟨kept, rfl⟩⟩ := Flm.mem_absentSettled.1 left
        · obtain ⟨ofR, codeR, -⟩ := settleAbsent_name became
          obtain rfl := h.eq_of_name thereR mem (ofR.trans (ofY.trans ofX)) (codeR.trans (codeY.trans codeX))
          cases became.symm.trans settled
        · obtain rfl := h.eq_of_name thereR mem (ofY.trans ofX) (codeY.trans codeX)
          exact kept ⟨of, external, unlisted⟩
      · exact unlisted e (perm.mem_iff.1 inTaken) (codeE.trans codeX)
  · exact .inl ⟨q, Flm.mem_absentSettled.2 ⟨q, mem, .inr ⟨absent, rfl⟩⟩, rfl⟩

/-- Settles O38: the absent codes are settled, the listed ones raised one after another, and the stale marks removed. -/
theorem reconciliationMergesTheSummary : Obligations.ReconciliationMergesTheSummary := by
  intro f origin listed lawful once room external
  have sound := lawful.sound
  have perm := (f.absentSettled origin listed).taken_perm origin listed
  have fewer := f.length_absentSettled_le origin listed
  have lower := f.counter_absentSettled_le origin listed
  obtain ⟨⟨σ, merges⟩, action⟩ := raiseListed_merges (origin := origin) ((perm.map _).nodup_iff.2 once)
    (r := { flm := f.absentSettled origin listed, action := false }) (sound.settle keepsName_settleAbsent)
    (by rw [perm.length_eq]; exact Nat.le_trans (Nat.add_le_add_right fewer _) room)
  rw [Flm.reconcile_eq]
  dsimp only at merges action ⊢
  have unlisted : ∀ x ∈ (f.absentSettled origin listed).records, (∀ e ∈ listed, e.code ≠ x.code) →
      { x with stamp := σ x.stamp } ∈ (raiseListed origin ((f.absentSettled origin listed).taken origin listed)
        { flm := f.absentSettled origin listed, action := false }).flm.records := fun x left none =>
    merges.unlisted x left fun _ e inTaken => none e (perm.mem_iff.1 inTaken)
  refine ⟨σ, fun few => merges.stays (by rw [perm.length_eq]; omega), fun p memP q memQ liveP _ lt => ?_, fun q mem other => ?_,
    fun q mem of absent => ⟨fun raised => ?_, fun cleared => ?_, fun acked => ?_⟩, fun q mem e inList of code => ?_,
    fun e inList absent => ?_, ?_⟩
  · rw [Flm.markStale_find_isSome] at liveP
    obtain ⟨x, left, stamp⟩ | gone := sound.absentSettled_or_gone merges perm memP
    · rw [← stamp] at lt ⊢
      exact merges.ages x left _ lt
    · rw [gone] at liveP
      cases liveP
  · refine (Flm.mem_markStale ?_).2 other
    exact merges.unlisted q (Flm.mem_absentSettled.2 ⟨q, mem, .inr ⟨fun selected => other selected.1, rfl⟩⟩)
      fun of => absurd of other
  · exact (Flm.mem_markStale (unlisted { q with state := .clearedUnack } (Flm.mem_absentSettled.2 ⟨q, mem, .inl ⟨of,
      external q mem of, absent, by rw [settleAbsent, raised]⟩⟩) absent)).1 of (external q mem of)
  · exact (Flm.mem_markStale (unlisted q (Flm.mem_absentSettled.2 ⟨q, mem, .inl ⟨of, external q mem of, absent,
      by rw [settleAbsent, cleared]⟩⟩) absent)).1 of (external q mem of)
  · rw [← Option.not_isSome_iff_eq_none, Flm.markStale_find_isSome, Option.not_isSome_iff_eq_none]
    refine Flm.find_eq_none.2 fun x there ofX codeX => ?_
    obtain ⟨y, left, ofY, codeY⟩ | ⟨-, e, inTaken, codeE⟩ := merges.names x there
    · obtain ⟨r, thereR, ⟨-, -, -, became⟩ | ⟨kept, rfl⟩⟩ := Flm.mem_absentSettled.1 left
      · obtain ⟨ofR, codeR, -⟩ := settleAbsent_name became
        obtain rfl := sound.eq_of_name thereR mem (ofR.trans (ofY.trans (ofX.trans of.symm))) (codeR.trans (codeY.trans codeX))
        rw [settleAbsent, acked] at became
        cases became
      · obtain rfl := sound.eq_of_name thereR mem (ofY.trans (ofX.trans of.symm)) (codeY.trans codeX)
        exact kept ⟨of, external r mem of, absent⟩
    · exact absent e (perm.mem_iff.1 inTaken) (codeE.trans codeX)
  · have moved := merges.relisted q (Flm.mem_absentSettled.2 ⟨q, mem, .inr ⟨fun selected => selected.2.2 e inList code, rfl⟩⟩)
      e (perm.mem_iff.2 inList) of code
    have fresh := (Flm.mem_markStale (origin := origin) (mark := false) moved).1 (by simp [of]) (by simp [external q mem of])
    refine ⟨fun cleared => ?_, fun raised => ?_⟩
    · rwa [relist_of_cleared cleared] at fresh
    · rwa [relist_of_raised raised] at fresh
  · obtain ⟨n, there, newest⟩ := merges.added e (perm.mem_iff.2 inList) ((sound.absentSettled_find inList).trans absent)
    refine ⟨n, (Flm.mem_markStale there).1 rfl rfl, fun q mem live => ?_⟩
    rw [Flm.markStale_find_isSome] at live
    obtain ⟨x, left, stamp⟩ | gone := sound.absentSettled_or_gone merges perm mem
    · exact stamp ▸ newest x left
    · rw [gone] at live
      cases live
  · refine action.trans ?_
    simp only [Bool.false_eq_true, false_or]
    refine exists_congr fun e => ?_
    rw [perm.mem_iff]
    refine and_congr_right fun inList => and_congr_right fun _ => ?_
    rw [Flm.Rises, sound.absentSettled_find inList]

/-! ### The one-shots (R111, R157, R160) -/

theorem Arbiter.issue_of_dropped {a : Arbiter} {ok : Pattern → Bool} {p : Pattern} (dropped : ok p = false ∨ a.higherIn ok p = true)
    (now : Time) : a.issue ok now p = a := by
  obtain ⟨-, same⟩ | ⟨eligible, highest, -⟩ := a.issue_cases ok now p
  · exact same
  · simp [eligible, highest] at dropped

theorem Arbiter.issue_of_played {a : Arbiter} {ok : Pattern → Bool} {p : Pattern} (eligible : ok p = true)
    (highest : a.higherIn ok p = false) (now : Time) : a.issue ok now p =
      { a with oneShot := some { pattern := p, endsAt := now + ms p.oneShotMs }, playing := some { pattern := p, since := now } } := by
  obtain ⟨dropped, -⟩ | ⟨-, -, played⟩ := a.issue_cases ok now p
  · simp [eligible, highest] at dropped
  · exact played

theorem Arbiter.higherIn_of_member {a : Arbiter} {ok : Pattern → Bool} {p q : Pattern} (higher : q.priority < p.priority)
    (eligible : ok q = true) (member : a.member q = true) : a.higherIn ok p = true := by
  refine Decidable.byContradiction fun none => ?_
  exact Nat.not_lt.2 (Arbiter.higherIn_eq_false.1 (Bool.eq_false_iff.2 none) q eligible member) higher

theorem Arbiter.higherIn_of_none {a : Arbiter} {ok : Pattern → Bool} {p : Pattern}
    (none : ∀ q, q.priority < p.priority → ok q = true → a.member q = false) : a.higherIn ok p = false :=
  Arbiter.higherIn_eq_false.2 fun q eligible member => Nat.le_of_not_lt fun lt => by
    rw [none q lt eligible] at member
    cases member

theorem exec_reminderTimerExpiry {s : State} {t : Time} (runs : s.flm.reminderAt = some t) :
    exec .reminderTimerExpiry s = .next (s.reach t).reminderExpiry :=
  exec_of_moment (c := .reminderTimerExpiry) runs

/-- Settles O39: the issue of a one-shot, and the reminder's. -/
theorem reminderSoundsAndRestarts : Obligations.ReminderSoundsAndRestarts := by
  refine ⟨fun p length s oneShot => ?_, fun t s runs => ?_⟩
  · have isLength : ms p.oneShotMs = length := by
      have all : ∀ x ∈ [(Pattern.overspeedAlarm, 1500000), (.overspeedWarn, 300000), (.overspeedClear, 200000),
        (.faultAction, 400000), (.reminder, 200000), (.startChirp, 200000)], ms x.1.oneShotMs = x.2 := by decide
      exact all _ oneShot
    have issued {a : Arbiter} (h : s.idr.arbiter.issue s.eligible s.now p = a) :
        s.toneIssue p = { s with idr := { s.idr with arbiter := a } } := congrArg s.withArbiter h
    have plays (eligible : s.eligible p = true) (highest : s.idr.arbiter.higherIn s.eligible p = false) :=
      issued (isLength ▸ Arbiter.issue_of_played eligible highest s.now)
    refine ⟨fun off => issued (Arbiter.issue_of_dropped (.inl off) _), fun q higher eligible member =>
      issued (Arbiter.issue_of_dropped (.inr (Arbiter.higherIn_of_member higher eligible (Arbiter.member_iff.2 member))) _),
      fun eligible highest => plays eligible (Arbiter.higherIn_of_none fun q lt okq =>
        Bool.eq_false_iff.2 fun member => highest q lt okq (Arbiter.member_iff.1 member)), fun o lawful held isP => ?_⟩
    obtain ⟨best, shot⟩ := lawful
    obtain ⟨eligible, -, highest⟩ := Arbiter.best_eq_some.1 (best.symm.trans ((shot o held).trans (congrArg some isP)))
    exact plays eligible (Arbiter.higherIn_eq_false.2 highest)
  · have eligible : (s.reach t).eligible = s.eligible := rfl
    refine ⟨_, exec_reminderTimerExpiry runs, ?_, fun okp none => ?_, fun off => ?_, fun q higher okq member => ?_, rfl, rfl⟩
    · show ({ s.flm with reminderAt := some (max s.now t + ms (1000 * s.cfg.reminderS)) } : Flm) = _
      rw [ms_thousand]
    · have played : (s.reach t).reminderExpiry.idr.arbiter = _ :=
        Arbiter.issue_of_played (p := .reminder) okp (Arbiter.higherIn_of_none none) (max s.now t)
      rw [played]
      exact ⟨rfl, rfl⟩
    · exact Arbiter.issue_of_dropped (p := .reminder) (.inl off) (max s.now t)
    · exact Arbiter.issue_of_dropped (p := .reminder) (.inr (Arbiter.higherIn_of_member higher okq member)) (max s.now t)

end Sys2Proof.Machine
end

section
/-! PROOFS. What a raise or a clear request has done to its code outlasts the requests for other codes (R98, R99, R104, R106). -/

namespace Sys2Proof.Machine

open Sys2Proof

-- One proof after another: the many small proofs below, each on a thread of its own, would reserve more stacks than the check allows.
set_option Elab.async false

/-! ### Lists that stay lawful -/

theorem State.lawful_flmRaise {s : State} (h : s.flm.Lawful) (code : FaultCode) (cls : FaultClass) :
    (s.flmRaise code cls).flm.Lawful := State.flmEvent_lawful (h.sound.raiseCode _ _ _ _)

theorem State.lawful_flmClear {s : State} (h : s.flm.Lawful) (code : FaultCode) : (s.flmClear code).flm.Lawful :=
  State.flmEvent_lawful (h.sound.settle keepsName_settleAbsent)

/-! ### The records of other codes -/

theorem FaultRecord.not_is_of_code {origin origin' : Nat} {code code' : FaultCode} {r : FaultRecord}
    (h : r.is origin code = true) (other : code' ≠ code) : r.is origin' code' = false :=
  Bool.eq_false_iff.2 fun same => other ((FaultRecord.is_iff.1 same).2.symm.trans (FaultRecord.is_iff.1 h).2)

theorem Flm.mem_add_of_mem {f : Flm} {p : FaultRecord} (mem : p ∈ f.records) (r : FaultRecord) :
    ∃ n, { p with stamp := n } ∈ (f.add r).records := by
  obtain ⟨-, added⟩ | ⟨-, added⟩ := f.add_cases r <;> rw [added]
  · exact ⟨p.stamp, mem_inDisplayOrder.2 (List.mem_cons_of_mem _ mem)⟩
  · exact ⟨_, mem_inDisplayOrder.2 (List.mem_map.2 ⟨p, List.mem_cons_of_mem _ mem, rfl⟩)⟩

/-- A record of a code outlasts a clear request for another one. -/
theorem State.mem_flmClear_of_other {s : State} {r : FaultRecord} (mem : r ∈ s.flm.records) {code : FaultCode}
    (other : r.is s.own code = false) : r ∈ (s.flmClear code).flm.records :=
  mem_settle.2 ⟨r, mem, if_neg (Bool.eq_false_iff.1 other)⟩

/-- What a clear request leaves under another code was there before it. -/
theorem State.of_mem_flmClear {s : State} {q : FaultRecord} {code : FaultCode} (mem : q ∈ (s.flmClear code).flm.records) :
    q.is s.own code = true ∨ q ∈ s.flm.records := by
  obtain ⟨r, there, settled⟩ := mem_settle.1 mem
  split at settled
  next named =>
    obtain ⟨origin, named'⟩ := FaultRecord.is_iff.1 named
    obtain ⟨origin', code', -⟩ := settleAbsent_name settled
    exact .inl (FaultRecord.is_iff.2 ⟨origin'.symm.trans origin, code'.symm.trans named'⟩)
  next => exact .inr (Option.some.inj settled ▸ there)

/-- A clear request removes one record at most. -/
theorem State.length_flmClear {s : State} (lawful : s.flm.Lawful) (code : FaultCode) :
    s.flm.records.length ≤ (s.flmClear code).flm.records.length + 1 := by
  have nodup : s.flm.records.Nodup := nodup_of_nodup_map lawful.named
  show _ ≤ (inDisplayOrder _).length + 1
  rw [length_inDisplayOrder, List.length_filterMap_eq_countP,
    List.length_eq_countP_add_countP (fun r => (if r.is s.own code then settleAbsent r else some r).isSome)]
  refine Nat.add_le_add_left ?_ _
  cases found : s.flm.find s.own code with
  | none =>
    refine Nat.le_trans (Nat.le_of_eq (List.countP_eq_zero.2 fun r mem => ?_)) (Nat.zero_le _)
    simp [Flm.find_none.1 found r mem]
  | some x =>
    obtain ⟨there, origin, named⟩ := Flm.find_some found
    refine Nat.le_trans (List.countP_mono_left (q := fun r => r == x) fun r mem gone => ?_) (List.nodup_iff_count.1 nodup x)
    by_cases is : r.is s.own code = true
    · obtain ⟨origin', named'⟩ := FaultRecord.is_iff.1 is
      simp [lawful.sound.eq_of_name mem there (origin'.trans origin.symm) (named'.trans named.symm)]
    · simp [is] at gone

/-- No record of a code is raised by a raise request for another one. -/
theorem State.flmRaise_keepsNotRaised {s : State} {origin : Nat} {code raised : FaultCode} (h : s.flm.NotRaised origin code)
    (other : raised ≠ code) (cls : FaultClass) : (s.flmRaise raised cls).flm.NotRaised origin code := by
  cases found : s.flm.find s.own raised with
  | some r =>
    rw [State.flmRaise_of_found found]
    intro q mem named
    obtain ⟨p, there, became⟩ := Flm.mem_relist.1 (show q ∈ (s.flm.relist s.own raised cls).records from mem)
    rw [← became] at named ⊢
    split at named
    next is =>
      rw [relist_is] at named
      exact absurd is (Bool.eq_false_iff.1 (FaultRecord.not_is_of_code named other))
    next isNot =>
      rw [if_neg isNot]
      exact h p there named
  | none =>
    rw [State.flmRaise_of_absent found]
    refine Flm.forall_create (P := fun q => q.is origin code = true → q.state = .clearedUnack) (fun _ _ p => p) h fun named => ?_
    exact absurd (FaultRecord.is_iff.1 named).2 other

/-! ### A raised code -/

/-- `Flm.Raised`, to outlast `k` removals more. -/
def Flm.Firm (f : Flm) (k : Nat) (origin : Nat) (code : FaultCode) (cls : FaultClass) : Prop :=
  (∃ r ∈ f.records, r.is origin code = true ∧ r.cls = cls ∧ r.state ≠ .clearedUnack) ∨
  (f.find origin code = none ∧ f.overflow = true ∧ overflowClearLevel + k < f.records.length)

theorem Flm.Firm.raised {f : Flm} {k origin : Nat} {code : FaultCode} {cls : FaultClass} (h : f.Firm k origin code cls) :
    f.Raised origin code cls := h.imp_right fun refused => ⟨refused.1, refused.2.1⟩

theorem Flm.Firm.mono {f : Flm} {k l origin : Nat} {code : FaultCode} {cls : FaultClass} (h : f.Firm k origin code cls)
    (le : l ≤ k) : f.Firm l origin code cls :=
  h.imp_right fun ⟨absent, overflow, above⟩ => ⟨absent, overflow, by omega⟩

/-- The end of an event keeps a refusal that it finds (R106). -/
theorem State.firm_flmEvent {s : State} {r : FlmResult} {k origin : Nat} {code : FaultCode} {cls : FaultClass}
    (h : r.flm.Firm k origin code cls) : (s.flmEvent r).flm.Firm k origin code cls := by
  refine h.imp_right fun ⟨absent, overflow, above⟩ => ⟨absent, ?_, above⟩
  rw [State.flmEvent_overflow, overflow, Bool.true_and, decide_eq_true_eq]
  omega

theorem State.firm_flmRaise (s : State) (code : FaultCode) (cls : FaultClass) :
    (s.flmRaise code cls).flm.Firm 7 s.own code cls := by
  cases found : s.flm.find s.own code with
  | some r =>
    obtain ⟨mem, origin, named⟩ := Flm.find_some found
    have is : r.is s.own code = true := FaultRecord.is_iff.2 ⟨origin, named⟩
    rw [State.flmRaise_of_found found]
    exact State.firm_flmEvent (.inl ⟨relist cls r, Flm.relist_mem mem is cls, by rw [relist_is, is], relist_cls cls r,
      relist_state_ne_clearedUnack cls r⟩)
  | none =>
    rw [State.flmRaise_of_absent found]
    refine State.firm_flmEvent ?_
    obtain ⟨n, mem⟩ | ⟨full, refused⟩ := s.flm.create_mem_or_refused (newRecord s.own true code cls)
    · exact .inl ⟨_, mem, by simp [newRecord, FaultRecord.is], rfl, by simp [newRecord]⟩
    · rw [refused]
      exact .inr ⟨found, rfl, Nat.lt_of_lt_of_le (by decide) full⟩

theorem State.Firm.flmClear {s : State} (lawful : s.flm.Lawful) {k origin : Nat} {code other : FaultCode} {cls : FaultClass}
    (h : s.flm.Firm (k + 1) origin code cls) (differ : other ≠ code) : (s.flmClear other).flm.Firm k origin code cls := by
  obtain ⟨r, mem, named, rest⟩ | ⟨absent, overflow, above⟩ := h
  · exact .inl ⟨r, State.mem_flmClear_of_other mem (FaultRecord.not_is_of_code named differ), named, rest⟩
  · have length := State.length_flmClear lawful other
    refine State.firm_flmEvent (.inr ⟨Flm.find_none.2 fun q mem => ?_, overflow, ?_⟩)
    · refine (State.of_mem_flmClear mem).elim (fun named => FaultRecord.not_is_of_code named differ.symm) (Flm.find_none.1 absent q)
    · change _ < (s.flmClear other).flm.records.length
      omega

/-- A creation leaves the code of another record raised, or refused by a full list. -/
theorem Flm.Firm.create {f : Flm} (sound : f.Sound) {k origin : Nat} {code : FaultCode} {cls : FaultClass}
    (h : f.Firm k origin code cls) (slack : k ≤ 7) {r : FaultRecord} (other : r.is origin code = false) :
    (f.create r).Firm k origin code cls := by
  obtain ⟨-, created⟩ | ⟨-, -, refused⟩ | ⟨v, full, victim, created⟩ := f.create_cases r
  · rw [created]
    obtain ⟨p, mem, named, rest⟩ | ⟨absent, overflow, above⟩ := h
    · obtain ⟨n, there⟩ := Flm.mem_add_of_mem mem r
      exact .inl ⟨_, there, named, rest⟩
    · refine .inr ⟨Flm.find_none.2 ?_, by rw [Flm.add_overflow, overflow], by rw [Flm.length_add]; omega⟩
      exact Flm.forall_add (P := fun q => q.is origin code = false) (fun _ _ is => is) (Flm.find_none.1 absent) other
  · rw [refused]
    exact h.imp_right fun ⟨absent, _, above⟩ => ⟨absent, rfl, above⟩
  · have length := sound.length_without (Flm.victim_some victim).1
    have above : overflowClearLevel + k < (f.create r).records.length := by
      rw [created, Flm.length_add]
      change _ < (f.records.filter (fun q => q != v)).length + 1
      simp only [capacity] at full
      simp only [overflowClearLevel]
      omega
    have evicted (gone : ∀ q ∈ f.records.filter (fun q => q != v), q.is origin code = false) :
        (f.create r).Firm k origin code cls := by
      refine .inr ⟨?_, by rw [created, Flm.add_overflow], above⟩
      rw [created]
      exact Flm.find_none.2 (Flm.forall_add (P := fun q => q.is origin code = false) (fun _ _ is => is) gone other)
    obtain ⟨p, mem, named, rest⟩ | ⟨absent, -, -⟩ := h
    · by_cases isVictim : p = v
      · refine evicted fun q left => Bool.eq_false_iff.2 fun is => ?_
        obtain ⟨there, notVictim⟩ := List.mem_filter.1 left
        obtain ⟨origin', code'⟩ := FaultRecord.is_iff.1 is
        obtain ⟨originP, codeP⟩ := FaultRecord.is_iff.1 named
        have same := sound.eq_of_name there mem (origin'.trans originP.symm) (code'.trans codeP.symm)
        simp [same, isVictim] at notVictim
      · rw [created]
        obtain ⟨n, there⟩ := Flm.mem_add_of_mem (f := { f.withRemaining (f.records.filter (fun q => q != v)) with overflow := true })
          (List.mem_filter.2 ⟨mem, by simp [isVictim]⟩) r
        exact .inl ⟨_, there, named, rest⟩
    · exact evicted fun q left => Flm.find_none.1 absent q (List.mem_filter.1 left).1

theorem State.Firm.flmRaise {s : State} (lawful : s.flm.Lawful) {k origin : Nat} {code other : FaultCode} {cls : FaultClass}
    (h : s.flm.Firm k origin code cls) (slack : k ≤ 7) (differ : other ≠ code) (cls' : FaultClass) :
    (s.flmRaise other cls').flm.Firm k origin code cls := by
  cases found : s.flm.find s.own other with
  | some r =>
    rw [State.flmRaise_of_found found]
    refine State.firm_flmEvent (h.imp ?_ ?_)
    · rintro ⟨p, mem, named, rest⟩
      exact ⟨p, Flm.mem_relist_of_other mem (FaultRecord.not_is_of_code named differ) _, named, rest⟩
    · rintro ⟨absent, overflow, above⟩
      refine ⟨Flm.find_none.2 fun q mem => ?_, overflow, by rw [Flm.length_relist]; exact above⟩
      obtain ⟨p, there, rfl⟩ := Flm.mem_relist.1 mem
      split
      · rw [relist_is]; exact Flm.find_none.1 absent p there
      · exact Flm.find_none.1 absent p there
  | none =>
    rw [State.flmRaise_of_absent found]
    refine State.firm_flmEvent (h.create lawful.sound slack (Bool.eq_false_iff.2 fun is => ?_))
    exact differ (FaultRecord.is_iff.1 is).2

/-! ### Several requests (R98, R99) -/

/-- The code that a request names. -/
def FaultRequest.code : FaultRequest → FaultCode
  | .raise code _ => code
  | .clear code => code

theorem State.lawful_request {s : State} (h : s.flm.Lawful) (q : FaultRequest) : (s.request q).flm.Lawful := by
  cases q with
  | raise code cls => exact State.lawful_flmRaise h code cls
  | clear code => exact State.lawful_flmClear h code

theorem State.Firm.request {s : State} (lawful : s.flm.Lawful) {k origin : Nat} {code : FaultCode} {cls : FaultClass}
    (h : s.flm.Firm (k + 1) origin code cls) (slack : k ≤ 7) {q : FaultRequest} (differ : q.code ≠ code) :
    (s.request q).flm.Firm k origin code cls := by
  cases q with
  | raise other cls' => exact State.Firm.flmRaise lawful (h.mono (Nat.le_succ k)) slack differ cls'
  | clear other => exact State.Firm.flmClear lawful h differ

theorem State.NotRaised.request {s : State} {origin : Nat} {code : FaultCode} (h : s.flm.NotRaised origin code)
    {q : FaultRequest} (differ : q.code ≠ code) : (s.request q).flm.NotRaised origin code := by
  cases q with
  | raise other cls => exact State.flmRaise_keepsNotRaised h differ cls
  | clear other => exact State.flmClear_keepsNotRaised h other

theorem State.Firm.requests {s : State} (lawful : s.flm.Lawful) {qs : List FaultRequest} {k origin : Nat} {code : FaultCode}
    {cls : FaultClass} (h : s.flm.Firm (k + qs.length) origin code cls) (slack : k + qs.length ≤ 7)
    (differ : ∀ q ∈ qs, q.code ≠ code) : (s.requests qs).flm.Firm k origin code cls := by
  induction qs generalizing s with
  | nil => exact h
  | cons q rest ih =>
    obtain ⟨first, others⟩ := List.forall_mem_cons.1 differ
    rw [List.length_cons] at h slack
    exact ih (State.lawful_request lawful q) (State.Firm.request (k := k + rest.length) lawful h (by omega) first) (by omega) others

theorem State.NotRaised.requests {s : State} {qs : List FaultRequest} {origin : Nat} {code : FaultCode}
    (h : s.flm.NotRaised origin code) (differ : ∀ q ∈ qs, q.code ≠ code) : (s.requests qs).flm.NotRaised origin code := by
  induction qs generalizing s with
  | nil => exact h
  | cons q rest ih =>
    obtain ⟨first, others⟩ := List.forall_mem_cons.1 differ
    exact ih (State.NotRaised.request h first) others

theorem State.request_own (s : State) (q : FaultRequest) : (s.request q).own = s.own := by
  cases q <;> exact State.own_of_cfl (by simp [State.request])

/-- Among a few requests for distinct codes each raise leaves its code raised. -/
theorem State.requests_raised {s : State} (lawful : s.flm.Lawful) {qs : List FaultRequest} (once : (qs.map (·.code)).Nodup)
    (few : qs.length ≤ 8) {code : FaultCode} {cls : FaultClass} (asked : .raise code cls ∈ qs) :
    (s.requests qs).flm.Raised s.own code cls := by
  induction qs generalizing s with
  | nil => cases asked
  | cons q rest ih =>
    obtain ⟨notIn, once⟩ := List.nodup_cons.1 once
    rw [List.length_cons] at few
    obtain rfl | later := List.mem_cons.1 asked
    · refine (State.Firm.requests (k := 0) (State.lawful_flmRaise lawful code cls) ((State.firm_flmRaise s code cls).mono (by omega)) (by omega)
        fun q mem same => notIn (List.mem_map.2 ⟨q, mem, same⟩)).raised
    · exact s.request_own q ▸ ih (State.lawful_request lawful q) once (by omega) later

/-- Among requests for distinct codes each clear leaves its code not raised. -/
theorem State.requests_cleared {s : State} {qs : List FaultRequest} (once : (qs.map (·.code)).Nodup) {code : FaultCode}
    (asked : .clear code ∈ qs) : (s.requests qs).flm.NotRaised s.own code := by
  induction qs generalizing s with
  | nil => cases asked
  | cons q rest ih =>
    obtain ⟨notIn, once⟩ := List.nodup_cons.1 once
    obtain rfl | later := List.mem_cons.1 asked
    · exact State.NotRaised.requests (qs := rest) (s.flmClear_notRaised code) fun q mem same => notIn (List.mem_map.2 ⟨q, mem, same⟩)
    · exact s.request_own q ▸ ih once later

end Sys2Proof.Machine
end

section
/-! PROOFS. The selection of the displayed aspect, a reselection, and the aspect's timers (R68 to R74, R77 to R80). -/

namespace Sys2Proof.Machine

open Sys2Proof

-- One proof after another: the many small proofs below, each on a thread of its own, would reserve more stacks than the check allows.
set_option Elab.async false

/-! ### The views and the selection (R68 to R72) -/

theorem EntryState.present_iff {e : EntryState} : e.present = true ↔ e = .valid ∨ e = .suspect := by
  cases e <;> simp [EntryState.present]

/-- What a usable view would display. -/
theorem SourceView.usable_eq {catalogue : Vector CatalogueEntry 16} {v : SourceView} {x : ShownAspect} :
    v.usable catalogue = some x ↔ ∃ r c, v.report = some r ∧ r.code = some c ∧ v.state.present = true ∧
      (catalogue.get c).used = true ∧ x =
        { code := some c, rank := (catalogue.get c).rank, station := some r.station, inst := some r.inst
          limits := { r.limits with permitted := effectivePermitted r.limits.permitted (catalogue.get c).defaultSpeed } } := by
  unfold SourceView.usable
  split
  next absent => simp [absent]
  next r report =>
    split
    next unknown => simp [report, unknown]
    next c code =>
      have this_view : ∀ r' c', v.report = some r' → r'.code = some c' → r' = r ∧ c' = c := fun r' c' isR isC => by
        obtain rfl := Option.some.inj (report.symm.trans isR)
        exact ⟨rfl, Option.some.inj (isC.symm.trans code)⟩
      constructor
      · intro shows
        split at shows
        next both =>
          obtain ⟨present, used⟩ := Bool.and_eq_true_iff.1 both
          exact ⟨r, c, report, code, present, used, (Option.some.inj shows).symm⟩
        next => cases shows
      · rintro ⟨r', c', isR, isC, present, used, rfl⟩
        obtain ⟨rfl, rfl⟩ := this_view r' c' isR isC
        rw [if_pos (Bool.and_eq_true_iff.2 ⟨present, used⟩)]

/-- Settles O32: by the view's report and code, and by which inputs are usable. -/
theorem selectionTakesTheFirstCase : Obligations.SelectionTakesTheFirstCase := by
  refine ⟨fun catalogue v => ⟨?_, fun x r c usable report code => ?_⟩, fun own c grace p q => ?_⟩
  · rw [← EntryState.present_iff, Option.isSome_iff_exists]
    constructor
    · rintro ⟨x, usable⟩
      obtain ⟨r, c, report, code, present, used, -⟩ := SourceView.usable_eq.1 usable
      exact ⟨present, r, c, report, code, used⟩
    · rintro ⟨present, r, c, report, code, used⟩
      exact ⟨_, SourceView.usable_eq.2 ⟨r, c, report, code, present, used, rfl⟩⟩
  · obtain ⟨r', c', report', code', -, -, rfl⟩ := SourceView.usable_eq.1 usable
    obtain rfl := Option.some.inj (report.symm.trans report')
    obtain rfl := Option.some.inj (code.symm.trans code')
    refine ⟨rfl, rfl, rfl, rfl, rfl, rfl, fun speed own => ?_, fun absent => ?_⟩
    · simp [own, effectivePermitted]
    · simp [absent, effectivePermitted]
  · exact ⟨rfl, rfl, fun lt => if_pos lt, fun le => if_neg (Nat.not_lt.2 le), rfl, rfl⟩

/-! ### A reselection (R70, R72 to R74, R77, R78) -/

theorem codesDiffer_iff {primary secondary : Option ShownAspect} : codesDiffer primary secondary = true ↔
    ∃ p q, primary = some p ∧ secondary = some q ∧ p.code ≠ q.code := by
  cases primary <;> cases secondary <;> simp [codesDiffer]

theorem opensRecord_iff {old new : ShownAspect} {record : Option PendingAck} : opensRecord old new record = true ↔
    new.code ≠ old.code ∧ (match record with
      | none => old.rank < new.rank
      | some r => r.rank < new.rank) := by
  cases record <;>
    simp only [opensRecord, Bool.and_eq_true, bne_iff_ne, decide_eq_true_eq, ne_comm (a := old.code) (b := new.code)]

/-- What a raise request leaves in the list depends on the list, the moment and the configuration alone. -/
theorem State.flmRaise_flm_congr {s u : State} (flm : u.flm = s.flm) (now : u.now = s.now) (cfl : u.cfl = s.cfl)
    (code : FaultCode) (cls : FaultClass) : (u.flmRaise code cls).flm = (s.flmRaise code cls).flm := by
  rw [State.flmRaise, State.flmRaise, State.flmEvent_flm, State.flmEvent_flm, flm, now, State.own_of_cfl cfl, State.cfg_of_cfl cfl]

theorem State.flmClear_flm_congr {s u : State} (flm : u.flm = s.flm) (now : u.now = s.now) (cfl : u.cfl = s.cfl)
    (code : FaultCode) : (u.flmClear code).flm = (s.flmClear code).flm := by
  rw [State.flmClear, State.flmClear, State.flmEvent_flm, State.flmEvent_flm, flm, now, State.own_of_cfl cfl, State.cfg_of_cfl cfl]

theorem State.reselect_flm (s : State) : s.reselect.flm =
    (({ s with asu := s.asu.reselected s.own s.cfg s.now } : State).requests
      (s.asu.requestsTo (s.asu.reselected s.own s.cfg s.now))).flm := by
  unfold State.reselect
  dsimp only
  rw [State.asuIndicate_flm]
  split
  · rfl
  · rw [State.sdmLimits_flm]

theorem Asu.requestsTo_once (a b : Asu) : ((a.requestsTo b).map (·.code)).Nodup := by
  unfold Asu.requestsTo
  split <;> split <;> (try split) <;> decide

theorem Asu.requestsTo_few (a b : Asu) : (a.requestsTo b).length ≤ 8 := by
  unfold Asu.requestsTo
  split <;> split <;> (try split) <;> decide

/-- The requests for 0xF040, and those for 0xF041 after them. -/
theorem State.requests_requestsTo (s : State) (a b : Asu) : s.requests (a.requestsTo b) =
    let agreed := if a.disagreeRaised && !b.disagreeRaised then s.flmClear 0xF040 else s
    if !a.lossRaised && b.lossRaised then agreed.flmRaise 0xF041 .stop
    else if a.lossRaised && !b.lossRaised then agreed.flmClear 0xF041
    else agreed := by
  unfold Asu.requestsTo
  split <;> split <;> (try split) <;> rfl

section
variable {a : Asu} {own : Nat} {c : Configuration} {now : Time}

/-- A change to a higher rank opens or restarts the record (R77, R78). -/
theorem Asu.reselected_of_opens (opens : opensRecord a.shown (a.reselected own c now).shown a.pendingAck = true) :
    (a.reselected own c now).pendingAck = some (PendingAck.opened (a.reselected own c now).shown now) ∧
    (a.reselected own c now).ackAt = some (now + ms c.ackMs) ∧ (a.reselected own c now).repeatAt = none :=
  ⟨if_pos opens, if_pos opens, if_pos opens⟩

theorem Asu.reselected_of_keeps (keeps : ¬opensRecord a.shown (a.reselected own c now).shown a.pendingAck = true) :
    (a.reselected own c now).pendingAck = a.pendingAck ∧ (a.reselected own c now).ackAt = a.ackAt ∧
    (a.reselected own c now).repeatAt = a.repeatAt :=
  ⟨if_neg keeps, if_neg keeps, if_neg keeps⟩

theorem Asu.reselected_disagreeRaised : (a.reselected own c now).disagreeRaised =
    (a.disagreeRaised && codesDiffer (a.primary.usable c.catalogue) (a.secondary.usable c.catalogue)) := rfl

theorem Asu.reselected_lossRaised : (a.reselected own c now).lossRaised =
    if (a.primary.usable c.catalogue).isSome || (a.secondary.usable c.catalogue).isSome then false
    else a.lossRaised || a.graceExpired := rfl

/-- The disagreement timer while the codes differ (R74). -/
theorem Asu.reselected_disagreeAt_of_differ
    (differ : codesDiffer (a.primary.usable c.catalogue) (a.secondary.usable c.catalogue) = true) :
    (a.reselected own c now).disagreeAt =
      a.disagreeAt.or (if a.disagreeRaised then none else some (now + ms disagreementMs)) := by
  refine (if_pos differ).trans ?_
  cases a.disagreeAt <;> rfl

end

theorem some_getD {α : Type} (x : Option α) (d : α) : some (x.getD d) = x.or (some d) := by
  cases x <;> rfl

/-- The list after a reselection: after the clear of 0xF040, if it is asked for, as 0xF041 is asked for or not (R72, R74; log 6). -/
theorem State.reselect_flm_cases (s agreed : State)
    (cleared : s.asu.disagreeRaised = true → s.reselect.asu.disagreeRaised = false → agreed = s.flmClear 0xF040)
    (kept : s.asu.disagreeRaised = false ∨ s.reselect.asu.disagreeRaised = true → agreed = s) :
    (s.asu.lossRaised = false → s.reselect.asu.lossRaised = true → s.reselect.flm = (agreed.flmRaise 0xF041 .stop).flm) ∧
    (s.asu.lossRaised = true → s.reselect.asu.lossRaised = false → s.reselect.flm = (agreed.flmClear 0xF041).flm) ∧
    (s.reselect.asu.lossRaised = s.asu.lossRaised → s.reselect.flm = agreed.flm) := by
  have flm := s.reselect_flm
  rw [← s.reselect_asu, State.requests_requestsTo] at flm
  dsimp only at flm
  generalize asked : (if s.asu.disagreeRaised && !s.reselect.asu.disagreeRaised
    then ({ s with asu := s.reselect.asu } : State).flmClear 0xF040 else { s with asu := s.reselect.asu }) = r at flm
  obtain ⟨rFlm, rNow, rCfl⟩ : r.flm = agreed.flm ∧ r.now = agreed.now ∧ r.cfl = agreed.cfl := by
    rw [← asked]
    split
    next both =>
      obtain ⟨was, off⟩ := Bool.and_eq_true_iff.1 both
      rw [cleared was (by simpa using off)]
      exact ⟨State.flmClear_flm_congr rfl rfl rfl _, rfl, rfl⟩
    next notBoth =>
      rw [kept (by cases was : s.asu.disagreeRaised <;> simp_all)]
      exact ⟨rfl, rfl, rfl⟩
  refine ⟨fun before after => ?_, fun before after => ?_, fun same => ?_⟩
  · rw [flm, before, after]
    exact State.flmRaise_flm_congr rFlm rNow rCfl _ _
  · rw [flm, before, after]
    exact State.flmClear_flm_congr rFlm rNow rCfl _
  · rw [flm, same]
    cases s.asu.lossRaised <;> exact rFlm

/-- The loss-raised flag by the inputs (R72). -/
theorem State.reselect_lossRaised (s : State) :
    (s.asu.primary.usable s.cfg.catalogue = none ∧ s.asu.secondary.usable s.cfg.catalogue = none ∧ s.asu.graceExpired = true →
      s.reselect.asu.lossRaised = true) ∧
    (s.asu.primary.usable s.cfg.catalogue ≠ none ∨ s.asu.secondary.usable s.cfg.catalogue ≠ none →
      s.reselect.asu.lossRaised = false) ∧
    (¬(s.asu.primary.usable s.cfg.catalogue = none ∧ s.asu.secondary.usable s.cfg.catalogue = none ∧
        s.asu.graceExpired = true) →
      ¬(s.asu.primary.usable s.cfg.catalogue ≠ none ∨ s.asu.secondary.usable s.cfg.catalogue ≠ none) →
      s.reselect.asu.lossRaised = s.asu.lossRaised) := by
  rw [s.reselect_asu, Asu.reselected_lossRaised]
  refine ⟨fun ⟨noP, noQ, grace⟩ => ?_, fun found => ?_, fun notLost notFound => ?_⟩
  · simp [noP, noQ, grace]
  · rw [if_pos (by simpa [Option.isSome_iff_ne_none] using found)]
  · obtain ⟨noP, noQ⟩ : s.asu.primary.usable s.cfg.catalogue = none ∧ s.asu.secondary.usable s.cfg.catalogue = none := by
      simpa using notFound
    have grace : s.asu.graceExpired = false := Bool.eq_false_iff.2 fun grace => notLost ⟨noP, noQ, grace⟩
    simp [noP, noQ, grace]

/-- Settles O33: the record by whether the new rank opens it; the flags by the two inputs; the list by the flags. -/
theorem restrictiveChangeOpensTheRecord : Obligations.RestrictiveChangeOpensTheRecord := by
  intro s
  dsimp only
  have asu := s.reselect_asu
  obtain ⟨onLost, onFound, onNeither⟩ := s.reselect_lossRaised
  have disagree : s.reselect.asu.disagreeRaised = (s.asu.disagreeRaised &&
      codesDiffer (s.asu.primary.usable s.cfg.catalogue) (s.asu.secondary.usable s.cfg.catalogue)) := by
    rw [asu, Asu.reselected_disagreeRaised]
  refine ⟨congrArg Asu.shown asu, by rw [asu]; rfl, by rw [asu]; rfl, fun risen => ?_, fun same => ?_, fun differ => ?_,
    fun agree => ?_, onLost, onFound, onNeither, fun agreed cleared kept => ?_, fun raised agree => ?_, fun unraised lost => ?_,
    fun raised found => ?_⟩
  · rw [asu] at risen ⊢
    obtain ⟨pending, timer, repeats⟩ := Asu.reselected_of_opens (opensRecord_iff.2 risen)
    exact ⟨_, pending, some_getD _ _, some_getD _ _, rfl, rfl, rfl, timer, repeats⟩
  · rw [asu] at same ⊢
    exact Asu.reselected_of_keeps fun opens => same (opensRecord_iff.1 opens)
  · have timer := Asu.reselected_disagreeAt_of_differ (own := s.own) (now := s.now) (codesDiffer_iff.2 differ)
    rw [← asu] at timer
    refine ⟨by rw [disagree, codesDiffer_iff.2 differ, Bool.and_true], fun t runs => ?_, fun stopped unraised => ?_,
      fun stopped raised => ?_⟩
    · rw [timer, runs, Option.some_or]
    · rw [timer, stopped, unraised]; rfl
    · rw [timer, stopped, raised]; rfl
  · have off := Bool.eq_false_iff.2 (mt codesDiffer_iff.1 agree)
    refine ⟨?_, by rw [disagree, off, Bool.and_false]⟩
    rw [asu]
    exact if_neg (mt codesDiffer_iff.1 agree)
  · obtain ⟨rises, falls, stays⟩ := s.reselect_flm_cases agreed
      (fun raised off => cleared raised fun differ => by
        rw [disagree, raised, codesDiffer_iff.2 differ] at off
        cases off)
      (fun h => kept (h.imp_right fun on => codesDiffer_iff.1 (Bool.and_eq_true_iff.1 (disagree.symm.trans on)).2))
    refine ⟨fun unraised lost => rises unraised (onLost lost), fun raised found => falls raised (onFound found),
      fun noRaise noClear => stays ?_⟩
    cases before : s.asu.lossRaised with
    | false =>
      refine Decidable.byContradiction fun risen => ?_
      rw [Bool.not_eq_false] at risen
      by_cases found : s.asu.primary.usable s.cfg.catalogue ≠ none ∨ s.asu.secondary.usable s.cfg.catalogue ≠ none
      · rw [onFound found] at risen; cases risen
      · rw [onNeither (fun lost => noRaise ⟨before, lost⟩) found, before] at risen; cases risen
    | true =>
      by_cases lost : s.asu.primary.usable s.cfg.catalogue = none ∧ s.asu.secondary.usable s.cfg.catalogue = none ∧
          s.asu.graceExpired = true
      · exact onLost lost
      · rw [onNeither lost fun found => noClear ⟨before, found⟩, before]
  · have off : s.reselect.asu.disagreeRaised = false := by
      rw [disagree, Bool.eq_false_iff.2 (mt codesDiffer_iff.1 agree), Bool.and_false]
    rw [s.reselect_flm, ← asu]
    refine State.requests_cleared (s := { s with asu := s.reselect.asu }) (Asu.requestsTo_once _ _) (List.mem_append_left _ ?_)
    simp [raised, off]
  · obtain ⟨rises, -, -⟩ := s.reselect_flm_cases
      (if s.asu.disagreeRaised = true ∧ s.reselect.asu.disagreeRaised = false then s.flmClear 0xF040 else s)
      (fun raised off => if_pos ⟨raised, off⟩)
      (fun h => if_neg fun both => by rcases h with h | h <;> simp [h] at both)
    rw [rises unraised (onLost lost)]
    split
    · exact (State.own_of_cfl (State.flmClear_cfl s _)) ▸ State.flmRaise_raised _ _ _
    · exact State.flmRaise_raised _ _ _
  · rw [s.reselect_flm, ← asu]
    refine State.requests_cleared (s := { s with asu := s.reselect.asu }) (Asu.requestsTo_once _ _) (List.mem_append_right _ ?_)
    simp [raised, onFound found]

end Sys2Proof.Machine
end

section
/-! PROOFS. The aspect's timers and the acknowledge press (R74, R79 to R81, R101, R137). -/

namespace Sys2Proof.Machine

open Sys2Proof

-- One proof after another: the many small proofs below, each on a thread of its own, would reserve more stacks than the check allows.
set_option Elab.async false

/-! ### A frame that finds room (R175) -/

/-- A frame other than DESK that finds room: it stands in the queue with those before it, and nothing else moves. -/
structure State.Queues (s u : State) (content : TxContent) : Prop where
  flm     : u.flm = s.flm
  entered : { content := content, entered := s.now } ∈ u.lif.waiting
  before  : ∀ q ∈ s.lif.waiting, q ∈ u.lif.waiting

theorem State.handFrame_queues {s : State} (room : s.lif.length < queueCapacity) {content : TxContent}
    (plain : content.isDesk = false) : s.Queues (s.handFrame content) content := by
  have placed := Lif.place_of_room (now := s.now) (content := content) (fun desk => absurd desk (Bool.eq_false_iff.1 plain)) room
  rw [State.handFrame_of_room room, placed]
  exact ⟨rfl, mem_enterQueue.2 (.inl rfl), fun q mem => mem_enterQueue.2 (.inr mem)⟩

/-! ### The timers of the aspect (R74, R79, R80) -/

theorem exec_acknowledgementTimerExpiry {s : State} {t : Time} (runs : s.asu.ackAt = some t) :
    exec .acknowledgementTimerExpiry s = .next (s.reach t).acknowledgementExpiry :=
  exec_of_moment (c := .acknowledgementTimerExpiry) runs

theorem exec_overdueRepeatTimerExpiry {s : State} {t : Time} (runs : s.asu.repeatAt = some t) :
    exec .overdueRepeatTimerExpiry s = .next (s.reach t).repeatExpiry :=
  exec_of_moment (c := .overdueRepeatTimerExpiry) runs

theorem exec_disagreementTimerExpiry {s : State} {t : Time} (runs : s.asu.disagreeAt = some t) :
    exec .disagreementTimerExpiry s = .next (s.reach t).disagreementExpiry :=
  exec_of_moment (c := .disagreementTimerExpiry) runs

/-- The part with its record overdue. -/
def State.overdue (s : State) (r : PendingAck) : State :=
  ({ s with asu := { s.asu with pendingAck := some { r with overdue := true }, ackAt := none } } : State).asuIndicate

theorem State.acknowledgementExpiry_eq {s : State} {r : PendingAck} (pending : s.asu.pendingAck = some r) :
    s.acknowledgementExpiry = if s.cru.role = .active then (s.overdue r).announceOverdue r 0 else s.overdue r := by
  rw [State.acknowledgementExpiry, pending]
  rfl

theorem State.announceOverdue_queues {s : State} (room : s.lif.length < queueCapacity) (r : PendingAck) (time : Nat) :
    s.Queues (s.announceOverdue r time) (.overdue r.station r.inst time) := by
  have queued := State.handFrame_queues (s := { s with asu := { s.asu with repeatAt := s.inMs overdueRepeatMs } }) room
    (content := .overdue r.station r.inst time) rfl
  exact ⟨queued.flm, queued.entered, queued.before⟩

theorem State.repeatExpiry_eq {s : State} {r : PendingAck} (pending : s.asu.pendingAck = some r) (overdue : r.overdue = true)
    (active : s.cru.role = .active) : s.repeatExpiry =
      ({ s with asu := { s.asu with repeatAt := none } } : State).announceOverdue r (timeOverdue s.now r.openedAt s.cfg.ackMs) := by
  unfold State.repeatExpiry
  simp [pending, overdue, active]

/-- Settles O34: the record becomes overdue, its announcement is repeated, or the disagreement is reported. -/
theorem aspectTimersExpire : Obligations.AspectTimersExpire := by
  refine ⟨fun t r s runs pending => ?_, fun t r s runs pending overdue active => ?_, fun t s runs => ?_⟩
  · refine ⟨_, exec_acknowledgementTimerExpiry runs, ?_⟩
    rw [State.acknowledgementExpiry_eq (s := s.reach t) pending]
    have role : (s.reach t).cru.role = s.cru.role := rfl
    rw [role]
    by_cases active : s.cru.role = .active
    · rw [if_pos active, State.announceOverdue_asu]
      refine ⟨rfl, rfl, rfl, fun other => absurd active other, fun _ => ⟨rfl, fun room => ?_⟩⟩
      have queued := State.announceOverdue_queues (s := (s.reach t).overdue r) room r 0
      exact ⟨queued.entered, queued.before⟩
    · rw [if_neg active]
      exact ⟨rfl, rfl, rfl, fun _ => ⟨rfl, rfl⟩, fun is => absurd is active⟩
  · refine ⟨_, exec_overdueRepeatTimerExpiry runs, ?_⟩
    rw [State.repeatExpiry_eq (s := s.reach t) pending overdue active]
    refine ⟨State.announceOverdue_asu _ _ _, fun room => ?_⟩
    have queued := State.announceOverdue_queues (s := { s.reach t with asu := { s.asu with repeatAt := none } }) room r
      (timeOverdue (s.reach t).now r.openedAt (s.reach t).cfg.ackMs)
    exact ⟨queued.entered, queued.before⟩
  · exact ⟨_, exec_disagreementTimerExpiry runs, rfl, State.flmRaise_raised _ _ _, by simp [State.disagreementExpiry, State.reach]⟩

/-! ### A press at its receiver (R81, R101) -/

theorem State.asuPress_of_pending {s : State} {r : PendingAck} (pending : s.asu.pendingAck = some r) (active : s.cru.role = .active) :
    s.asuPress = s.closeRecord.handFrame (.acknAspect r.station r.inst) := by
  rw [State.asuPress, pending]
  exact if_pos active

theorem State.asuPress_of_none {s : State} (h : s.asu.pendingAck = none ∨ s.cru.role ≠ .active) : s.asuPress = s := by
  unfold State.asuPress
  split
  · rfl
  · next r pending => exact if_neg fun active => h.elim (fun none => by rw [none] at pending; cases pending) (fun other => other active)

theorem State.flmPress_of_found {s : State} {origin : Nat} {code : FaultCode} {r : FaultRecord}
    (found : s.flm.find origin code = some r) (active : s.cru.role = .active) (unacked : r.state ≠ .raisedAck) :
    s.flmPress origin code = (s.flmAcknowledge (FaultRecord.is origin code)).handFrame (.acknFault origin code) := by
  rw [State.flmPress, found]
  exact if_pos ⟨active, unacked⟩

theorem State.flmPress_of_none {s : State} {origin : Nat} {code : FaultCode}
    (h : s.cru.role ≠ .active ∨ ∀ r, s.flm.find origin code = some r → r.state = .raisedAck) : s.flmPress origin code = s := by
  unfold State.flmPress
  split
  · rfl
  · next r found => exact if_neg fun both => h.elim (fun other => other both.1) (fun acked => both.2 (acked r found))

/-- The record closed and the ACKN frame queued (R81). -/
theorem State.asuPress_takes {s : State} {r : PendingAck} (pending : s.asu.pendingAck = some r) (active : s.cru.role = .active) :
    s.asuPress.asu = { s.asu with pendingAck := none, ackAt := none, repeatAt := none } ∧
    (s.lif.length < queueCapacity → s.Queues s.asuPress (.acknAspect r.station r.inst)) := by
  rw [State.asuPress_of_pending pending active]
  refine ⟨by rw [State.handFrame_asu]; rfl, fun room => ?_⟩
  have queued := State.handFrame_queues (s := s.closeRecord) room (content := .acknAspect r.station r.inst) rfl
  exact ⟨queued.flm, queued.entered, queued.before⟩

/-- What an acknowledged record `r` leaves in the list (R101). -/
structure Flm.Acknowledged (f g : Flm) (r : FaultRecord) : Prop where
  others  : ∀ q ∈ f.records, q ≠ r → q ∈ g.records
  raised  : r.state = .raisedUnack → { r with state := .raisedAck } ∈ g.records
  cleared : r.state = .clearedUnack → ∀ q ∈ g.records, q.is r.origin r.code = false

theorem Flm.Sound.acknowledged {s : State} (sound : s.flm.Sound) {r : FaultRecord} (mem : r ∈ s.flm.records) :
    s.flm.Acknowledged (s.flmAcknowledge (FaultRecord.is r.origin r.code)).flm r := by
  have selected : r.is r.origin r.code = true := FaultRecord.is_iff.2 ⟨rfl, rfl⟩
  have unique : ∀ q ∈ s.flm.records, q.is r.origin r.code = true → q = r := fun q there is =>
    sound.eq_of_name there mem (FaultRecord.is_iff.1 is).1 (FaultRecord.is_iff.1 is).2
  refine ⟨fun q there other => State.mem_flmAcknowledge.2 ⟨q, there, if_neg fun is => other (unique q there is)⟩, fun raised => ?_,
    fun cleared q left => ?_⟩
  · exact State.mem_flmAcknowledge.2 ⟨r, mem, (if_pos selected).trans (by rw [settleAcknowledged, raised])⟩
  · obtain ⟨p, there, settled⟩ := State.mem_flmAcknowledge.1 left
    split at settled
    next is =>
      rw [unique p there is, settleAcknowledged, cleared] at settled
      cases settled
    next isNot => exact Option.some.inj settled ▸ Bool.eq_false_iff.2 isNot

/-- The record acknowledged and the ACKN frame queued (R101). -/
theorem State.flmPress_takes {s : State} (lawful : s.flm.Lawful) {r : FaultRecord} (mem : r ∈ s.flm.records)
    (active : s.cru.role = .active) (unacked : r.state ≠ .raisedAck) :
    (s.flmPress r.origin r.code).asu = s.asu ∧
    (s.lif.length < queueCapacity →
      { content := .acknFault r.origin r.code, entered := s.now } ∈ (s.flmPress r.origin r.code).lif.waiting ∧
      (∀ q ∈ s.lif.waiting, q ∈ (s.flmPress r.origin r.code).lif.waiting) ∧
      s.flm.Acknowledged (s.flmPress r.origin r.code).flm r) := by
  rw [State.flmPress_of_found (lawful.sound.find_of_mem mem) active unacked]
  refine ⟨by simp [State.flmAcknowledge], fun room => ?_⟩
  have queued := State.handFrame_queues (s := s.flmAcknowledge (FaultRecord.is r.origin r.code)) (content := .acknFault r.origin r.code)
    (by simpa [State.flmAcknowledge] using room) rfl
  refine ⟨queued.entered, fun q there => queued.before q (by simpa [State.flmAcknowledge] using there), ?_⟩
  rw [queued.flm]
  exact lawful.sound.acknowledged mem

/-! ### The route of a press (R137) -/

theorem mem_of_shownRecord {f : Flm} {window : Option RecordName} {r : FaultRecord} (shown : shownRecord f window = some r) :
    r ∈ f.records := by
  unfold shownRecord at shown
  split at shown
  · exact List.mem_of_head? shown
  · obtain found | ⟨-, first⟩ := Option.or_eq_some_iff.1 shown
    · exact (Flm.find_some found).1
    · exact List.mem_of_head? first

theorem State.takeRoutedPress_of_none {s : State} (unrouted : s.routed = none) : s.takeRoutedPress = s := by
  rw [State.takeRoutedPress, unrouted]

theorem State.takeRoutedPress_of_some {s : State} {p : RoutedPress} (routed : s.routed = some p) :
    s.takeRoutedPress = ({ s with routed := none } : State).receivePress p.route := by
  rw [State.takeRoutedPress, routed]

/-- The state with its press taken at the moment `t`. -/
def State.pressedAt (s : State) (t : Time) : State :=
  { s with now := max s.now t, diu := { s.diu with acknowledge := { level := true, taken := true, endsAt := none } } }

section
variable {s : State} {t : Time}

/-- In RUNNING, with no press on its way, a press is taken and its route chosen. -/
theorem State.routeAckPress_of_running (running : s.cfl.start = .running)
    (pressed : s.diu.acknowledge = { level := true, taken := false, endsAt := some t }) (unrouted : s.routed = none) :
    (s.reach t).routeAckPress =
      { s.pressedAt t with routed := s.pressRoute.map (fun r => { route := r, at0 := max s.now t }) } := by
  have before : (s.reach t).takeRoutedPress = s.reach t := State.takeRoutedPress_of_none unrouted
  have isRunning : s.running = true := by simp [State.running, running]
  unfold State.routeAckPress
  rw [before]
  dsimp only
  refine (if_pos (show _ = true from isRunning)).trans ?_
  show ({ s.reach t with
    diu := { s.diu with acknowledge := s.diu.acknowledge.take }
    routed := s.pressRoute.map (fun r => { route := r, at0 := max s.now t }) } : State) = _
  rw [pressed]
  rfl

theorem State.due_of_pressed (pressed : s.diu.acknowledge = { level := true, taken := false, endsAt := some t }) :
    s.diu.acknowledge.due true = some t := by rw [pressed]; rfl

theorem exec_acknowledgePress_routing (due : s.diu.acknowledge.due true = some t) :
    exec (.acknowledgePress .routing) s = .next (s.reach t).routeAckPress := exec_of_moment (c := .acknowledgePress .routing) due

theorem exec_acknowledgePress_whole (due : s.diu.acknowledge.due true = some t) :
    exec (.acknowledgePress .whole) s = .next (s.reach t).routeAckPress.takeRoutedPress :=
  exec_of_moment (c := .acknowledgePress .whole) due

end

theorem exec_acknowledgePress_taking (s : State) : exec (.acknowledgePress .taking) s = .next s.takeRoutedPress := rfl

theorem State.pressRoute_toAsu {s : State} {r : PendingAck} (active : s.cru.role = .active) (pending : s.asu.pendingAck = some r) :
    s.pressRoute = some .toAsu := by
  rw [State.pressRoute, if_pos active, if_pos (by rw [pending]; rfl)]

theorem State.pressRoute_toFlm {s : State} {r : FaultRecord} (active : s.cru.role = .active) (unpending : s.asu.pendingAck = none)
    (shown : shownRecord s.flm s.diu.window = some r) (unacked : r.state ≠ .raisedAck) :
    s.pressRoute = some (.toFlm { origin := r.origin, code := r.code }) := by
  simp only [State.pressRoute, active, unpending, shown, unacked, if_true, if_false, Option.isSome_none, Bool.false_eq_true]

theorem State.pressRoute_none {s : State} (h : s.cru.role ≠ .active ∨ s.asu.pendingAck = none ∧
    ∀ r, shownRecord s.flm s.diu.window = some r → r.state = .raisedAck) : s.pressRoute = none := by
  unfold State.pressRoute
  split
  next active =>
    obtain other | ⟨unpending, acked⟩ := h
    · exact absurd active other
    · rw [if_neg (by simp [unpending])]
      split
      next r shown => exact if_pos (acked r shown)
      next => rfl
  next => rfl

/-- Settles O35: the route by the role, the pending record and the record shown; the press at the receiver that it names. -/
theorem acknowledgePressActsByRoute : Obligations.AcknowledgePressActsByRoute := by
  refine ⟨fun t s running pressed unrouted => ?_, fun s unrouted => ?_, fun p s routed => ?_⟩
  · have due := State.due_of_pressed pressed
    have route := State.routeAckPress_of_running running pressed unrouted
    have routing := exec_acknowledgePress_routing due
    have whole := exec_acknowledgePress_whole due
    rw [route] at routing whole
    have nowhere (off : s.pressRoute = none) : exec (.acknowledgePress .whole) s = .next (s.pressedAt t) ∧
        exec (.acknowledgePress .routing) s = .next (s.pressedAt t) := by
      have pressedOnly : ({ s.pressedAt t with routed := none } : State) = s.pressedAt t := by rw [← unrouted]; rfl
      rw [off, Option.map_none, pressedOnly] at routing whole
      rw [State.takeRoutedPress_of_none (s := s.pressedAt t) unrouted] at whole
      exact ⟨whole, routing⟩
    dsimp only
    refine ⟨fun other => nowhere (State.pressRoute_none (.inl other)), fun r active pending => ?_,
      fun r active unpending shown unacked => ?_, fun active unpending acked => nowhere (State.pressRoute_none (.inr ⟨unpending, acked⟩)),
      fun u isU => ?_⟩
    · rw [State.pressRoute_toAsu active pending] at routing whole
      refine ⟨routing, _, whole, ?_⟩
      rw [State.takeRoutedPress_of_some rfl]
      obtain ⟨closed, queued⟩ := State.asuPress_takes (s := { s.pressedAt t with routed := none }) pending active
      refine ⟨closed, (State.asuPress_course _).sameInputs.acknowledge, fun room => ?_⟩
      have queued := queued room
      exact ⟨queued.flm, queued.entered, queued.before⟩
    · rw [State.pressRoute_toFlm active unpending shown unacked] at routing whole
      refine ⟨routing, fun lawful => ⟨_, whole, ?_⟩⟩
      rw [State.takeRoutedPress_of_some rfl]
      obtain ⟨asu, queued⟩ := State.flmPress_takes (s := { s.pressedAt t with routed := none }) lawful (mem_of_shownRecord shown)
        active unacked
      refine ⟨asu, (State.flmPress_course _ _ _).sameInputs.acknowledge, fun room => ?_⟩
      obtain ⟨entered, before, acknowledged⟩ := queued room
      exact ⟨entered, before, acknowledged.others, acknowledged.raised, acknowledged.cleared⟩
    · rw [whole, exec_acknowledgePress_taking, Host.Outcome.next.inj (routing.symm.trans isU)]
  · rw [exec_acknowledgePress_taking, State.takeRoutedPress_of_none unrouted]
  · have taking := exec_acknowledgePress_taking s
    rw [State.takeRoutedPress_of_some routed] at taking
    have dropped (same : ({ s with routed := none } : State).receivePress p.route = { s with routed := none }) :
        exec (.acknowledgePress .taking) s = .next { s with routed := none } := taking.trans (congrArg _ same)
    refine ⟨fun other => dropped ?_, fun toAsu unpending => dropped ?_, fun r toAsu active pending => ⟨_, taking, ?_⟩,
      fun m toFlm acked => dropped ?_, fun m r toFlm active found unacked lawful => ⟨_, taking, ?_⟩⟩
    · cases p.route with
      | toAsu => exact State.asuPress_of_none (.inr other)
      | toFlm m => exact State.flmPress_of_none (.inl other)
    · rw [toAsu]
      exact State.asuPress_of_none (.inl unpending)
    · rw [toAsu]
      obtain ⟨closed, queued⟩ := State.asuPress_takes (s := { s with routed := none }) pending active
      refine ⟨by simp [State.receivePress], closed, fun room => ?_⟩
      have queued := queued room
      exact ⟨queued.flm, queued.entered, queued.before⟩
    · rw [toFlm]
      exact State.flmPress_of_none (.inr acked)
    · rw [toFlm]
      obtain ⟨origin, code⟩ := m
      obtain ⟨mem, rfl, rfl⟩ := Flm.find_some found
      obtain ⟨asu, queued⟩ := State.flmPress_takes (s := { s with routed := none }) lawful mem active unacked
      refine ⟨by simp [State.receivePress], asu, fun room => ?_⟩
      obtain ⟨entered, before, acknowledged⟩ := queued room
      exact ⟨entered, before, acknowledged.others, acknowledged.raised, acknowledged.cleared⟩

end Sys2Proof.Machine
end

section
/-! PROOFS. The desk inputs, the fault window, the flash generators, the end of a one-shot, and the snapshot request (R132 to R136,
R140, R141, R144, R146, R150, R159, R160, R189 to R191). -/

namespace Sys2Proof.Machine

open Sys2Proof

-- One proof after another: the many small proofs below, each on a thread of its own, would reserve more stacks than the check allows.
set_option Elab.async false

/-! ### Level changes (R132 to R135) -/

/-- A contact that changes starts its interval or abandons it. -/
theorem Contact.change_of_new {c : Contact} {high : Bool} (new : c.level = high) (now : Time) (lengthMs : Nat) :
    c.change true now lengthMs (activeLow high) = { c with
      level := !high, endsAt := if (!high) = c.taken then none else some (now + ms lengthMs) } := by
  unfold Contact.change activeLow
  rw [if_neg (by rw [new]; cases high <;> decide), intervalFrom_bne]

theorem Contact.change_of_same {c : Contact} {high : Bool} (same : c.level ≠ high) (now : Time) (lengthMs : Nat) :
    c.change true now lengthMs (activeLow high) = c := by
  unfold Contact.change activeLow
  rw [if_pos (Bool.eq_not.2 same).symm]

theorem DimmerInput.change_of_same {d : DimmerInput} {code : BitVec 3} (same : code = d.level) (now : Time) :
    d.change true now code = d := if_pos same

theorem DimmerInput.change_of_new {d : DimmerInput} {code : BitVec 3} (new : code ≠ d.level) (now : Time) :
    d.change true now code = { d with
      level := code, endsAt := if code = d.taken then none else some (now + 100000) } := by
  unfold DimmerInput.change
  rw [if_neg new, intervalFrom_bne]
  rfl

/-- A line of the dimmer in its place of the code (R132). -/
theorem withDimLine_same : ∀ (code : BitVec 3) (k : Fin 3) (high : Bool), code.getLsbD k.val = high → withDimLine code k.val high = code := by
  decide

theorem withDimLine_new : ∀ (code : BitVec 3) (k : Fin 3) (high : Bool), code.getLsbD k.val ≠ high →
    withDimLine code k.val high ≠ code ∧
    (withDimLine code k.val high).toNat + (if high then 0 else 2 ^ k.val) = code.toNat + (if high then 2 ^ k.val else 0) := by
  decide

theorem exec_inputLevelChange (t : Time) (level : InputLevel) (s : State) :
    exec (.inputLevelChange t level) s = .next ((s.reach t).inputChange level) := rfl

theorem State.inputChange_diu {s : State} {level : InputLevel} {d : Diu} (diu : (s.inputChange level).diu = d) :
    s.inputChange level = { s with diu := d } := by
  rw [← diu]; rfl

section
variable {s : State} {t : Time}

/-- A dimmer line: nothing, or another code and its interval. -/
theorem State.dimLineChange (debounced : s.debouncing = true) (k : Fin 3) (high : Bool) {level : InputLevel}
    (isLine : ((s.reach t).inputChange level).diu = { s.diu with
      dimmer := s.diu.dimmer.change s.debouncing (max s.now t) (withDimLine s.diu.dimmer.level k.val high) }) :
    (s.diu.dimmer.level.getLsbD k.val = high → exec (.inputLevelChange t level) s = .next { s with now := max s.now t }) ∧
    (s.diu.dimmer.level.getLsbD k.val ≠ high → ∃ code : BitVec 3,
      code.toNat + (if high then 0 else 2 ^ k.val) = s.diu.dimmer.level.toNat + (if high then 2 ^ k.val else 0) ∧
      exec (.inputLevelChange t level) s = .next { s with
        now := max s.now t, diu := { s.diu with dimmer := { s.diu.dimmer with
          level := code, endsAt := if code = s.diu.dimmer.taken then none else some (max s.now t + 100000) } } }) := by
  rw [exec_inputLevelChange, State.inputChange_diu isLine, debounced]
  refine ⟨fun same => ?_, fun new => ?_⟩
  · rw [DimmerInput.change_of_same (withDimLine_same _ k high same)]
    rfl
  · obtain ⟨differs, value⟩ := withDimLine_new _ k high new
    refine ⟨_, value, ?_⟩
    rw [DimmerInput.change_of_new differs]
    rfl

end

/-- Settles O43: each pin at its contact, or at its place in the dimmer code. -/
theorem levelChangeStartsTheInterval : Obligations.LevelChangeStartsTheInterval := by
  intro t s released
  have debounced : s.debouncing = true := by simp [State.debouncing, released]
  have debouncedAt : (s.reach t).debouncing = true := debounced
  refine ⟨fun high => ?_, fun high => ?_, fun high => ?_, fun high => ?_, fun high line level isLine => ?_⟩
  · rw [exec_inputLevelChange, State.inputChange]
    dsimp only
    rw [debouncedAt]
    exact ⟨fun new => by rw [Contact.change_of_new (c := (s.reach t).diu.acknowledge) new]; rfl,
      fun same => by rw [Contact.change_of_same (c := (s.reach t).diu.acknowledge) same]; rfl⟩
  · rw [exec_inputLevelChange, State.inputChange]
    dsimp only
    rw [debouncedAt]
    exact ⟨fun new => by rw [Contact.change_of_new (c := (s.reach t).diu.scroll) new]; rfl,
      fun same => by rw [Contact.change_of_same (c := (s.reach t).diu.scroll) same]; rfl⟩
  · rw [exec_inputLevelChange, State.inputChange]
    dsimp only
    rw [debouncedAt]
    exact ⟨fun new => by rw [Contact.change_of_new (c := (s.reach t).diu.test) new]; rfl,
      fun same => by rw [Contact.change_of_same (c := (s.reach t).diu.test) same]; rfl⟩
  · rw [exec_inputLevelChange, State.inputChange]
    dsimp only
    rw [debouncedAt]
    exact ⟨fun new => by rw [Contact.change_of_new (c := (s.reach t).diu.key) new]; rfl,
      fun same => by rw [Contact.change_of_same (c := (s.reach t).diu.key) same]; rfl⟩
  · obtain ⟨rfl, rfl⟩ | ⟨rfl, rfl⟩ | ⟨rfl, rfl⟩ := isLine
    · exact State.dimLineChange debounced 0 high rfl
    · exact State.dimLineChange debounced 1 high rfl
    · exact State.dimLineChange debounced 2 high rfl

/-! ### The states taken (R133, R135, R136, R144) -/

theorem Contact.due_of_held {c : Contact} {level : Bool} {t : Time} (held : c = { level := level, taken := !level, endsAt := some t }) :
    c.due level = some t := by
  subst held
  exact if_pos ⟨rfl, by simp⟩

theorem State.takeTest_of_started {s : State} (started : s.cfl.start ≠ .strapFault) :
    s.takeTest = { s with diu := { s.diu with test := s.diu.test.take, testHeld := s.diu.test.level } } := by
  rw [State.takeTest, if_neg started]

theorem State.takeDimmer_of_started {s : State} (started : s.cfl.start ≠ .strapFault) :
    s.takeDimmer = { s with
      diu := { s.diu with dimmer := s.diu.dimmer.take }, idr := { s.idr with brightness := s.diu.dimmer.level } } := by
  rw [State.takeDimmer, if_neg started]

/-- Settles O44: each command at the end of its input's interval. -/
theorem testReleaseAndDimmerAreTaken : Obligations.TestReleaseAndDimmerAreTaken := by
  refine ⟨fun t s started held => ?_, fun t s started held => ?_, fun t s held => ?_, fun t s held => ?_,
    fun t s started runs => ?_⟩
  · calc exec .testPress s
        = .next (s.reach t).takeTest := exec_of_moment (c := .testPress) (Contact.due_of_held (level := true) held)
      _ = .next { s.reach t with diu := { s.diu with test := s.diu.test.take, testHeld := s.diu.test.level } } :=
        congrArg _ (State.takeTest_of_started (s := s.reach t) started)
      _ = _ := by rw [held]; rfl
  · calc exec .testRelease s
        = .next (s.reach t).takeTest := exec_of_moment (c := .testRelease) (Contact.due_of_held (level := false) held)
      _ = .next { s.reach t with diu := { s.diu with test := s.diu.test.take, testHeld := s.diu.test.level } } :=
        congrArg _ (State.takeTest_of_started (s := s.reach t) started)
      _ = _ := by rw [held]; rfl
  · calc exec (.buttonRelease .acknowledge) s
        = .next { s.reach t with diu := { s.diu with acknowledge := s.diu.acknowledge.take } } :=
        exec_of_moment (c := .buttonRelease .acknowledge) (Contact.due_of_held (level := false) held)
      _ = _ := by rw [held]; rfl
  · calc exec (.buttonRelease .scroll) s
        = .next { s.reach t with diu := { s.diu with scroll := s.diu.scroll.take } } :=
        exec_of_moment (c := .buttonRelease .scroll) (Contact.due_of_held (level := false) held)
      _ = _ := by rw [held]; rfl
  · exact (exec_of_moment (c := .dimmerChange) runs).trans (congrArg _ (State.takeDimmer_of_started (s := s.reach t) started))

/-! ### The fault window (R140, R141) -/

theorem State.scrollWindow_of_some {s : State} {r : FaultRecord} (next : scrolledTo s.flm s.diu.window = some r) :
    s.scrollWindow.diu = { s.diu with
      window := some { origin := r.origin, code := r.code }, scrollAt := some (s.now + ms (1000 * s.cfg.scrollReturnS)) } := by
  rw [State.scrollWindow, next]
  rfl

theorem State.scrollWindow_of_none {s : State} (next : scrolledTo s.flm s.diu.window = none) :
    s.scrollWindow.diu = { s.diu with window := none } := by
  rw [State.scrollWindow, next]

theorem State.scrollWindow_eq (s : State) : s.scrollWindow = { s with diu := s.scrollWindow.diu } := by
  unfold State.scrollWindow
  split <;> rfl

/-- The record that follows one in the list. -/
theorem recordAfter_of_split {n : RecordName} {before : List FaultRecord} {a : FaultRecord} {after : List FaultRecord}
    (others : ∀ q ∈ before, q.is n.origin n.code = false) (named : a.is n.origin n.code = true) :
    recordAfter n (before ++ a :: after) = after.head? := by
  induction before with
  | nil => exact if_pos named
  | cons q rest ih =>
    obtain ⟨first, others⟩ := List.forall_mem_cons.1 others
    exact (if_neg (Bool.eq_false_iff.1 first)).trans (ih others)

theorem scrolledTo_of_nil {f : Flm} (empty : f.records = []) (window : Option RecordName) : scrolledTo f window = none := by
  cases window <;> simp [scrolledTo, empty, recordAfter]

theorem scrolledTo_of_ne_nil {f : Flm} (some_left : f.records ≠ []) (window : Option RecordName) :
    ∃ r, scrolledTo f window = some r := by
  obtain ⟨first, rest, records⟩ := List.exists_cons_of_ne_nil some_left
  refine Option.isSome_iff_exists.1 ?_
  cases window <;> simp [scrolledTo, records]

/-- Settles O45: the window by what the list holds, and its return to TOP. -/
theorem scrollMovesTheWindow : Obligations.ScrollMovesTheWindow := by
  refine ⟨fun t s running held => ?_, fun t s runs => exec_of_moment (c := .scrollReturnExpiry) runs⟩
  have isRunning : (s.reach t).running = true := by simp [State.running, State.reach, running]
  generalize pressed : ({ s.reach t with diu := { s.diu with scroll := s.diu.scroll.take } } : State) = r
  have taken : (s.reach t).takeScrollPress = r.scrollWindow := by
    rw [← pressed]
    exact if_pos isRunning
  have rFlm : r.flm = s.flm := by rw [← pressed]; rfl
  have rWindow : r.diu.window = s.diu.window := by rw [← pressed]
  have rTimer : r.diu.scrollAt = s.diu.scrollAt := by rw [← pressed]
  have rScroll : r.diu.scroll = { level := true, taken := true, endsAt := none } := by rw [← pressed, held]; rfl
  have rEnds : r.now + ms (1000 * r.cfg.scrollReturnS) = max s.now t + 1000000 * s.cfg.scrollReturnS := by
    rw [← pressed, ms_thousand]; rfl
  have moves {x : FaultRecord} (next : scrolledTo s.flm s.diu.window = some x) :
      r.scrollWindow.diu.window = some { origin := x.origin, code := x.code } := by
    rw [State.scrollWindow_of_some (r := x) (by rw [rFlm, rWindow, next])]
  refine ⟨r.scrollWindow, (exec_of_moment (c := .scrollPress) (Contact.due_of_held (level := true) held)).trans
    (congrArg Host.Outcome.next taken), ?_⟩
  refine ⟨by rw [State.scrollWindow_eq, ← rFlm], by rw [State.scrollWindow_eq, ← pressed]; rfl,
    by rw [State.scrollWindow_eq, ← pressed]; rfl, ?_, fun empty => ?_, fun some_left => ?_, fun a top one => ?_,
    fun a b rest top more => ?_, fun n before a b after window records others named => ?_,
    fun n before a first rest window records records' others named => ?_⟩
  · cases next : scrolledTo r.flm r.diu.window with
    | none => rw [State.scrollWindow_of_none next, rScroll]
    | some x => rw [State.scrollWindow_of_some next, rScroll]
  · rw [State.scrollWindow_of_none (scrolledTo_of_nil (rFlm ▸ empty) _)]
    exact ⟨rfl, rTimer⟩
  · obtain ⟨x, next⟩ := scrolledTo_of_ne_nil (rFlm ▸ some_left) r.diu.window
    rw [State.scrollWindow_of_some next, rEnds]
  · exact moves (by simp [scrolledTo, top, one])
  · exact moves (by simp [scrolledTo, top, more])
  · exact moves (by simp [scrolledTo, window, records, recordAfter_of_split others named])
  · refine moves ?_
    have last : recordAfter n (first :: rest) = none := by rw [← records', records, recordAfter_of_split others named]; rfl
    simp [scrolledTo, window, last, records']

/-! ### The flash generators and the end of a one-shot (R146, R159, R160) -/

theorem ms_ten (n : Nat) : ms (10 * n) = 10000 * n := by
  unfold ms
  rw [← Nat.mul_assoc]

theorem FlashPhase.turned_eq (p : FlashPhase) (f : FlashConfig) : p.turned f = { lit := !p.lit, endsAt := p.endsAt +
    (if p.lit then 10000 * (f.period - f.onTime) else 10000 * f.onTime) } := by
  unfold FlashPhase.turned FlashPhase.length
  rw [ms_ten]
  cases p.lit <;> rfl

theorem Arbiter.endOneShot_of_shot {a : Arbiter} {o : OneShot} (shot : a.oneShot = some o) :
    a.endOneShot = { a with oneShot := none, playing := none } := by
  rw [Arbiter.endOneShot, shot]
  rfl

/-- Once the one-shot has left, the best continuous member plays from now on. -/
theorem Arbiter.rechoose_of_silent {a : Arbiter} (oneShot : a.oneShot = none) (playing : a.playing = none) (ok : Pattern → Bool)
    (now : Time) : a.rechoose ok now =
      { a with playing := (a.best ok).map (fun p => { pattern := p, since := now }) } := by
  unfold Arbiter.rechoose
  cases best : a.best ok with
  | none => simp [oneShot, playing]
  | some p => simp [oneShot, playing]

/-- Settles O46: a generator's other phase, and the best member that a one-shot leaves. -/
theorem phasesAndOneShotsEnd : Obligations.PhasesAndOneShotsEnd := by
  refine ⟨fun p s phase => ?_, fun p s phase => ?_, fun o s shot => ?_⟩
  · rw [exec_of_moment (c := .flashPhaseEnd .f1) (t := p.endsAt) (congrArg (Option.map FlashPhase.endsAt) phase), ← p.turned_eq]
    show Host.Outcome.next ({ s.reach p.endsAt with idr := { s.idr with f1 := s.idr.f1.map _ } } : State) = _
    rw [phase]
    rfl
  · rw [exec_of_moment (c := .flashPhaseEnd .f2) (t := p.endsAt) (congrArg (Option.map FlashPhase.endsAt) phase), ← p.turned_eq]
    show Host.Outcome.next ({ s.reach p.endsAt with idr := { s.idr with f2 := s.idr.f2.map _ } } : State) = _
    rw [phase]
    rfl
  · refine ⟨_, exec_of_moment (c := .oneShotEnd) (t := o.endsAt) (congrArg (Option.map OneShot.endsAt) shot), ?_⟩
    generalize silent : ({ s.idr.arbiter with oneShot := none, playing := none } : Arbiter) = a
    have aAsserted : a.asserted = s.idr.arbiter.asserted := by rw [← silent]
    have member {q : Pattern} : a.member q = true ↔ q ∈ s.idr.arbiter.asserted := by
      rw [Arbiter.member_iff, ← silent]
      simp
    have chosen : ((s.reach o.endsAt).event .oneShotEnd).idr.arbiter =
        { a with playing := (a.best s.eligible).map (fun p => { pattern := p, since := max s.now o.endsAt }) } := by
      show (s.idr.arbiter.endOneShot.rechoose s.eligible (max s.now o.endsAt)) = _
      rw [Arbiter.endOneShot_of_shot shot, silent]
      exact Arbiter.rechoose_of_silent (by rw [← silent]) (by rw [← silent]) _ _
    rw [chosen]
    refine ⟨rfl, by rw [← silent], aAsserted, rfl, rfl, rfl, fun none => ?_, fun p inSet eligible highest => ?_⟩
    · rw [Arbiter.best_eq_none.2 fun q okq => Bool.eq_false_iff.2 fun mem => by rw [none q (member.1 mem)] at okq; cases okq]
      rfl
    · rw [Arbiter.best_eq_some.2 ⟨eligible, member.2 inSet, fun q okq mem => highest q (member.1 mem) okq⟩]
      rfl

/-! ### The snapshot request (R189 to R191) -/

theorem exec_snapreq_of_hears {s : State} {bytes : List Byte} {f : Frame} (h : s.Hears bytes f) (kind : f.kind = .snapreq)
    (own : (byteAt f.payload 0).toNat = s.own) (t : Time) :
    exec (.snapreq t bytes) s = .next ((s.heardAt t).snuRequest f) := by
  have heard := State.onFrame_of_hears h t State.takeSnapreq
  rw [State.takeSnapreq, if_pos ⟨kind, own⟩] at heard
  exact congrArg Host.Outcome.next heard

/-- A snapshot frame that is asked for and finds room goes to the end of the queue. -/
theorem State.handIf_of_room {s : State} (room : s.lif.length < queueCapacity) (b : Bool) {content : TxContent}
    (plain : content.isDesk = false) (normal : content.urgent = false) : s.handIf b content =
      { s with lif := { s.lif with waiting := s.lif.waiting ++ (if b then [{ content := content, entered := s.now }] else []) } } := by
  cases b with
  | false => simp [State.handIf]
  | true =>
    show s.handFrame content = _
    rw [State.handFrame_of_room room, Lif.place_of_room (fun desk => absurd desk (Bool.eq_false_iff.1 plain)) room]
    simp [enterQueue, normal]

/-- A queue with one frame more, or none. -/
theorem Lif.length_append_if (l : Lif) (b : Bool) (q : QueuedFrame) :
    ({ l with waiting := l.waiting ++ (if b then [q] else []) } : Lif).length ≤ l.length + 1 := by
  cases b <;> simp [Lif.length]
  omega

/-- A free latch taken with room for both frames. -/
theorem State.latchSnapshot_of_room {s : State} (room : s.lif.length ≤ 6) (requester : Nat) (parts : SnapParts) :
    s.latchSnapshot requester parts = { s with
      snu := { s.snu with latch := some { requester := requester, asked := parts, outstanding := parts } }
      lif := { s.lif with waiting := s.lif.waiting ++
        (if parts.state then [{ content := .snapState (s.snapStateContent requester), entered := s.now }] else []) ++
        (if parts.faults then [{ content := .snapFaults (s.snapFaultsContent requester), entered := s.now }] else []) } } := by
  have roomy : s.lif.length < queueCapacity := Nat.lt_of_le_of_lt room (by decide)
  unfold State.latchSnapshot
  dsimp only
  generalize latched : ({ s with snu := _ } : State) = r
  have rLif : r.lif = s.lif := by rw [← latched]
  have rNow : r.now = s.now := by rw [← latched]
  rw [State.handIf_of_room (s := r) (content := .snapState (s.snapStateContent requester)) (rLif ▸ roomy) parts.state rfl rfl,
    State.handIf_of_room (content := .snapFaults (s.snapFaultsContent requester)) _ parts.faults rfl rfl]
  · dsimp only
    rw [rLif, rNow, ← latched]
  · refine Nat.lt_of_le_of_lt (Lif.length_append_if _ _ _) ?_
    rw [rLif]
    exact Nat.lt_of_le_of_lt (Nat.succ_le_succ room) (by decide)

/-- Settles O48: a held latch ignores the request; a free one takes it, and its frames go to the end of the queue in order. -/
theorem snapshotRequestIsLatched : Obligations.SnapshotRequestIsLatched := by
  intro t bytes f s hears kind own
  rw [exec_snapreq_of_hears hears kind own]
  refine ⟨fun l held => congrArg Host.Outcome.next ?_, fun free room => congrArg Host.Outcome.next ?_⟩
  · unfold State.snuRequest
    rw [show (s.heardAt t).snu.latch = some l from held]
  · unfold State.snuRequest
    rw [show (s.heardAt t).snu.latch = none from free]
    exact State.latchSnapshot_of_room (s := s.heardAt t) room f.station (snapPartsOf f.payload)

end Sys2Proof.Machine
end

section
/-! PROOFS. What the outputs show (R126, R146, R147, R149, R151 to R157, R163). -/

namespace Sys2Proof.Machine

open Sys2Proof

-- One proof after another: the many small proofs below, each on a thread of its own, would reserve more stacks than the check allows.
set_option Elab.async false

/-! ### Digits (R152, R155) -/

/-- The digits of the readouts. -/
def decimalDigits : List Char := ['0', '1', '2', '3', '4', '5', '6', '7', '8', '9']

/-- The digits of the fault window. -/
def hexDigits : List Char := ['0', '1', '2', '3', '4', '5', '6', '7', '8', '9', 'A', 'B', 'C', 'D', 'E', 'F']

theorem digitChar_eq (n : Nat) : digitChar n = decimalDigits.getD (n % 10) ' ' := by
  have all : ∀ k : Fin 10, Char.ofNat (48 + k.val) = decimalDigits.getD k.val ' ' := by decide
  exact all ⟨n % 10, Nat.mod_lt _ (by decide)⟩

theorem hexChar_eq (n : Nat) : hexChar n = hexDigits.getD (n % 16) ' ' := by
  have all : ∀ k : Fin 16, (if k.val < 10 then Char.ofNat (48 + k.val) else Char.ofNat (55 + k.val)) = hexDigits.getD k.val ' ' := by
    decide
  exact all ⟨n % 16, Nat.mod_lt _ (by decide)⟩

theorem digitChar_of_lt {n : Nat} (h : n < 10) : digitChar n = decimalDigits.getD n ' ' := by
  rw [digitChar_eq, Nat.mod_eq_of_lt h]

theorem digitChar_eq_hex {n : Nat} (h : n < 10) : digitChar n = hexDigits.getD n ' ' := by
  have all : ∀ k : Fin 10, decimalDigits.getD k.val ' ' = hexDigits.getD k.val ' ' := by decide
  rw [digitChar_of_lt h]
  exact all ⟨n, h⟩

/-- A number of at most three digits in its places (R152). -/
theorem threePlaces_eq {v : Nat} (small : v ≤ 400) : threePlaces v =
    if v ≤ 9 then [' ', ' ', decimalDigits.getD v ' ']
    else if v ≤ 99 then [' ', decimalDigits.getD (v / 10) ' ', decimalDigits.getD (v % 10) ' ']
    else [decimalDigits.getD (v / 100) ' ', decimalDigits.getD (v / 10 % 10) ' ', decimalDigits.getD (v % 10) ' '] := by
  unfold threePlaces
  by_cases one : v ≤ 9
  · rw [if_pos one, if_pos (Nat.lt_succ_of_le one), digitChar_of_lt (by omega)]
  · rw [if_neg one, if_neg (by omega)]
    by_cases two : v ≤ 99
    · rw [if_pos two, if_pos (Nat.lt_succ_of_le two), digitChar_of_lt (by omega), digitChar_eq v]
    · rw [if_neg two, if_neg (by omega), digitChar_of_lt (n := v / 100) (by omega), digitChar_eq (v / 10), digitChar_eq v]

/-! ### What each start state shows (R151, R163) -/

section
variable {s : State}

theorem State.testImage_of_dark (dark : s.cfl.start = .sampling ∨ s.cfl.start = .loading ∨ s.cfl.start = .strapFault) :
    s.testImage = false ∧ s.running = false := by
  obtain h | h | h := dark <;> simp [State.testImage, State.running, h]

theorem State.testImage_of_test (tested : s.cfl.start = .lampCheck ∨ (s.cfl.start = .running ∧ s.diu.testHeld = true)) :
    s.testImage = true := by
  obtain h | ⟨h, held⟩ := tested <;> simp [State.testImage, State.running, *]

theorem State.testImage_of_shown (running : s.cfl.start = .running) (released : s.diu.testHeld = false) :
    s.testImage = false ∧ s.running = true := by
  simp [State.testImage, State.running, running, released]

theorem State.lampLit_of_off {lamp : Lamp} (off : s.lampDrive lamp = .off) : s.lampLit lamp = false := by
  rw [State.lampLit, off, State.isLit]

theorem State.lampLit_of_steady {lamp : Lamp} (steady : s.lampDrive lamp = .steady) : s.lampLit lamp = true := by
  rw [State.lampLit, steady, State.isLit]

end

/-- Settles O47: by start state and lamp test, then output by output from the values held. -/
theorem outputsFollowStartStateAndRole : Obligations.OutputsFollowStartStateAndRole := by
  refine ⟨fun s lamp => ⟨fun dark => ?_, fun tested => ?_, fun running released => ?_⟩, fun s running released => ?_,
    fun r small => ?_, fun ms => ?_, fun s a running plays => ?_⟩
  · obtain ⟨noImage, notRunning⟩ := State.testImage_of_dark dark
    have off : s.lampDrive lamp = .off := by simp [State.lampDrive, noImage, notRunning]
    have silent : s.tone = none := by
      obtain h | h | h := dark <;> simp [State.tone, notRunning, h]
    refine ⟨off, State.lampLit_of_off off, silent, by simp [State.toneHz, silent], ?_, ?_, ?_, ?_, fun k => ⟨?_, ?_, ?_⟩, ?_, ?_, ?_⟩ <;>
      simp [State.speedReadout, State.targetReadout, State.forwardArrow, State.reverseArrow, State.arcLit, State.markerLit,
        State.barLit, State.faultWindow, State.recordCount, State.overflowMark, noImage, notRunning]
  · have image := State.testImage_of_test tested
    refine ⟨State.lampLit_of_steady (if_pos image), ?_, ?_, ?_, ?_, fun k => ⟨?_, ?_, ?_⟩, ?_, ?_, ?_⟩ <;>
      simp [State.speedReadout, State.targetReadout, State.forwardArrow, State.reverseArrow, State.arcLit, State.markerLit,
        State.barLit, State.faultWindow, State.recordCount, State.overflowMark, image]
  · obtain ⟨noImage, isRunning⟩ := State.testImage_of_shown running released
    have drive : s.lampDrive lamp = s.gatedDrive lamp := by simp [State.lampDrive, noImage, isRunning]
    refine ⟨fun k isAspect idle => ?_, fun k isAspect lit => ?_, fun notAspect => ?_, State.lampLit_of_off, State.lampLit_of_steady,
      fun slow p phase => ?_, fun fast p phase => ?_⟩
    · rw [drive, isAspect]
      exact if_pos idle
    · rw [drive, isAspect]
      exact if_neg lit
    · rw [drive]
      cases lamp with
      | la k => exact absurd rfl (notAspect k)
      | _ => rfl
    · rw [State.lampLit, slow, State.isLit, phase, phaseLit]
    · rw [State.lampLit, fast, State.isLit, phase, phaseLit]
  · obtain ⟨noImage, isRunning⟩ := State.testImage_of_shown running released
    dsimp only
    refine ⟨fun none => ?_, fun d shown small => ?_, fun none => ?_, fun v shown small => ?_, ?_, ?_, fun k => ?_, fun k => ?_,
      fun k => ⟨fun notPermitted notTarget => ?_, fun marked => ⟨fun above => ?_, fun below p phase => ?_⟩⟩, fun empty => ?_,
      fun r top first => ?_, fun n r named found => ?_, fun n r named absent first => ?_, fun few => ?_, ?_, ?_⟩
    · simp [State.speedReadout, noImage, isRunning, none]
    · simp only [State.speedReadout, noImage, isRunning, shown, if_true, Bool.false_eq_true, if_false]
      exact threePlaces_eq small
    · simp [State.targetReadout, noImage, isRunning, none]
    · simp only [State.targetReadout, noImage, isRunning, shown, if_true, Bool.false_eq_true, if_false]
      exact threePlaces_eq small
    · simp [State.forwardArrow, noImage, isRunning]
    · simp [State.reverseArrow, noImage, isRunning]
    · simp [State.arcLit, noImage, isRunning]
    · simp [State.barLit, noImage, isRunning]
    · simp [State.markerLit, noImage, isRunning, Sdm.markerDrive, notPermitted, notTarget, State.isLit]
    · have notBelow : ¬k ≤ s.sdm.lit := by omega
      simp [State.markerLit, noImage, isRunning, Sdm.markerDrive, marked, notBelow, State.isLit]
    · simp [State.markerLit, noImage, isRunning, Sdm.markerDrive, marked, below, State.isLit, phase, phaseLit]
    · have nothing : shownRecord s.flm s.diu.window = none := by
        cases s.diu.window <;> simp [shownRecord, Flm.find, empty]
      simp [State.faultWindow, noImage, isRunning, nothing]
    · simp [State.faultWindow, noImage, isRunning, shownRecord, top, first]
    · simp [State.faultWindow, noImage, isRunning, shownRecord, named, found]
    · simp [State.faultWindow, noImage, isRunning, shownRecord, named, absent, first]
    · simp only [State.recordCount, noImage, isRunning, if_true, Bool.false_eq_true, if_false]
      rw [digitChar_of_lt (n := s.flm.records.length / 10) (by omega), digitChar_eq s.flm.records.length]
      rfl
    · simp [State.overflowMark, noImage, isRunning]
    · simp [State.tone, isRunning]
  · dsimp only
    have letter : classLetter r.cls r.stale = (match r.cls with
        | .stop => if r.stale then 's' else 'S'
        | .action => if r.stale then 'a' else 'A'
        | .advisory => if r.stale then 'v' else 'V'
        | .note => if r.stale then 'n' else 'N') := by
      cases r.cls <;> cases r.stale <;> rfl
    have word : r.code.toNat < 65536 := r.code.isLt
    unfold windowText
    dsimp only
    rw [letter, digitChar_eq_hex (n := r.origin / 10) (by omega), digitChar_eq r.origin, ← digitChar_of_lt (n := r.origin % 10) (by omega),
      digitChar_eq_hex (n := r.origin % 10) (by omega), hexChar_eq, hexChar_eq, hexChar_eq, hexChar_eq,
      Nat.mod_eq_of_lt (a := r.code.toNat / 4096) (by omega)]
    rfl
  · refine ⟨rfl, rfl, rfl, rfl, rfl, rfl, fun n k isMs => ?_, fun n k isMs => ?_, fun n k isMs => ?_, fun n k isMs => ?_⟩
    · subst isMs
      refine ⟨fun early => ?_, fun late within => ?_⟩
      · simp only [soundHz]; rw [if_pos (by omega)]
      · simp only [soundHz]; rw [if_neg (by omega)]
    · subst isMs
      refine ⟨fun early => ?_, fun late within => ?_⟩
      · simp only [soundHz]; rw [if_pos (by omega)]
      · simp only [soundHz]; rw [if_neg (by omega)]
    · subst isMs
      refine ⟨fun on => ?_, fun off => ?_⟩
      · simp only [soundHz]; rw [if_pos (by omega)]
      · simp only [soundHz]; rw [if_neg (by omega)]
    · subst isMs
      refine ⟨fun early => ?_, fun late within => ?_⟩
      · simp only [soundHz]; rw [if_pos (by omega)]
      · simp only [soundHz]; rw [if_neg (by omega)]
  · have isRunning : s.running = true := by simp [State.running, running]
    simp [State.toneHz, State.tone, isRunning, plays, ms]

end Sys2Proof.Machine
end

section
/-! PROOFS. The cab role and the DESK frames (R117 to R125, R127 to R130). -/

namespace Sys2Proof.Machine

open Sys2Proof

-- One proof after another: the many small proofs below, each on a thread of its own, would reserve more stacks than the check allows.
set_option Elab.async false

/-! ### The decision (R117 to R122) -/

theorem Cru.anyPeer_iff {c : Cru} {test : PeerView → Bool} : c.anyPeer test = true ↔ ∃ v ∈ c.peers.toList, test v = true :=
  List.any_eq_true

theorem Cru.anyPeer_counted {c : Cru} {role : Role} :
    c.anyPeer (fun v => v.counted == role) = true ↔ ∃ v ∈ c.peers.toList, v.counted = role := by
  simp [Cru.anyPeer_iff]

theorem PeerView.claims_iff {v : PeerView} : v.claims = true ↔ v.counted = .claiming ∨ v.counted = .active ∨
    (v.counted = .conflict ∧ ∃ h, v.held = some h ∧ h.keyOn = true) := by
  unfold PeerView.claims
  cases role : v.counted <;> cases held : v.held <;> simp

/-- The role after an evaluation, by the key and the role before it. -/
theorem Cru.nextRole_cases (c : Cru) (expiry : Bool) : c.nextRole expiry =
    if c.keyOn = false then (if c.anyPeer (fun v => v.counted == .active) then .mirror else .idle)
    else if c.role = .idle ∨ c.role = .mirror then (if c.anyPeer PeerView.claims then .conflict else .claiming)
    else if c.role = .claiming then
      (if c.anyPeer (fun v => v.counted == .claiming || v.counted == .active) then .conflict
       else if expiry then .active else .claiming)
    else if c.role = .active then (if c.anyPeer (fun v => v.counted == .active) then .conflict else .active)
    else (if c.anyPeer (fun v => v.counted != .idle && v.counted != .mirror) then .conflict else .claiming) := by
  unfold Cru.nextRole
  cases key : c.keyOn <;> cases role : c.role <;> simp

theorem Cru.nextRole_of_off {c : Cru} (off : c.keyOn = false) (expiry : Bool) :
    c.nextRole expiry = if c.anyPeer (fun v => v.counted == .active) then .mirror else .idle := by
  rw [Cru.nextRole_cases, if_pos off]

theorem Cru.nextRole_of_claiming {c : Cru} (on : c.keyOn = true) (claiming : c.role = .claiming) (expiry : Bool) :
    c.nextRole expiry = if c.anyPeer (fun v => v.counted == .claiming || v.counted == .active) then .conflict
      else if expiry then .active else .claiming := by
  simp [Cru.nextRole_cases, on, claiming]

theorem Cru.anyPeer_claimingOrActive {c : Cru} : c.anyPeer (fun v => v.counted == .claiming || v.counted == .active) = true ↔
    (∃ v ∈ c.peers.toList, v.counted = .claiming) ∨ ∃ v ∈ c.peers.toList, v.counted = .active := by
  rw [Cru.anyPeer_iff, ← exists_or]
  refine exists_congr fun v => ?_
  rw [← and_or_left]
  simp

/-- Settles O40: the table's row by key and role, and a settled role stays. -/
theorem roleFollowsTheTable : Obligations.RoleFollowsTheTable := by
  intro c expiry
  dsimp only
  refine ⟨fun off => ?_, fun on free => ?_, fun on claiming => ?_, fun on active => ?_, fun on conflict => ?_,
    c.nextRole_nextRole expiry⟩
  · rw [Cru.nextRole_of_off off, ← Cru.anyPeer_counted]
    exact ⟨fun any => if_pos any, fun none => if_neg none⟩
  · have row : c.nextRole expiry = if c.anyPeer PeerView.claims then .conflict else .claiming := by
      simp [Cru.nextRole_cases, on, free]
    have claimed : c.anyPeer PeerView.claims = true ↔ ∃ v ∈ c.peers.toList, v.counted = .claiming ∨ v.counted = .active ∨
        (v.counted = .conflict ∧ ∃ h, v.held = some h ∧ h.keyOn = true) := by
      simp only [Cru.anyPeer_iff, PeerView.claims_iff]
    rw [row, ← claimed]
    exact ⟨fun any => if_pos any, fun none => if_neg none⟩
  · rw [Cru.nextRole_of_claiming on claiming, ← Cru.anyPeer_claimingOrActive]
    exact ⟨fun any => if_pos any, fun none => if_neg none⟩
  · have row : c.nextRole expiry = if c.anyPeer (fun v => v.counted == .active) then .conflict else .active := by
      simp [Cru.nextRole_cases, on, active]
    rw [row, ← Cru.anyPeer_counted]
    exact ⟨fun any => if_pos any, fun none => if_neg none⟩
  · have row : c.nextRole expiry = if c.anyPeer (fun v => v.counted != .idle && v.counted != .mirror) then .conflict else .claiming := by
      simp [Cru.nextRole_cases, on, conflict]
    have none : ¬c.anyPeer (fun v => v.counted != .idle && v.counted != .mirror) = true ↔
        ∀ v ∈ c.peers.toList, v.counted = .idle ∨ v.counted = .mirror := by
      rw [Cru.anyPeer_iff]
      refine ⟨fun no v mem => Decidable.byContradiction fun other => no ⟨v, mem, ?_⟩, fun all ⟨v, mem, other⟩ => ?_⟩
      · simpa using not_or.1 other
      · obtain is | is := all v mem <;> simp [is] at other
    rw [row, ← none, Decidable.not_not]
    exact ⟨fun free => if_neg free, fun any => if_pos any⟩

/-! ### The DESK frame (R124, R125) -/

theorem State.deskReading_same (s : State) (v : FlmView) : s.deskReading v v v = v := if_pos ⟨rfl, rfl⟩

/-- A frame that costs none leaves all but the queue as it was. -/
theorem State.handFrame_of_kept {s : State} {content : TxContent} (kept : (s.lif.place s.now content).lost = none) :
    s.handFrame content = { s with lif := (s.lif.place s.now content).lif } := by
  rw [State.handFrame, kept]

/-- Where a DESK frame goes that costs no other (R175). -/
theorem Lif.place_desk {l : Lif} (now : Time) (c : DeskContent) :
    (l.headIsDesk = true → l.place now (.desk c) = { lif := { l with hold := some c }, lost := none }) ∧
    (l.headIsDesk = false → (∃ q ∈ l.waiting, q.content.isDesk = true) →
      l.place now (.desk c) = { lif := { l with waiting := refreshDesk (.desk c) l.waiting }, lost := none }) ∧
    (l.headIsDesk = false → (∀ q ∈ l.waiting, q.content.isDesk = false) → l.length < queueCapacity →
      l.place now (.desk c) =
        { lif := { l with waiting := l.waiting ++ [{ content := .desk c, entered := now }] }, lost := none }) := by
  refine ⟨fun head => ?_, fun head queued => ?_, fun head fresh room => ?_⟩
  · simp [Lif.place, head]
  · have any : l.waiting.any (fun q => q.content.isDesk) = true := List.any_eq_true.2 queued
    simp [Lif.place, head, any]
  · rw [Lif.place_of_room (fun _ => ⟨head, fresh⟩) room]
    simp [enterQueue, TxContent.urgent]

/-- The part as its DESK period ends: the CRU's timer started again, and the free value's counter moved on. -/
def State.periodEnded (s : State) : State :=
  { s with
    cru := { s.cru with deskAt := some (s.now + ms s.cfg.deskPeriodMs), deskDue := none }, freeIndex := s.freeIndex + 1 }

theorem State.deskPeriod_eq (s : State) : s.deskPeriod = s.periodEnded.handFrame (.desk (s.deskContent s.flm.view)) := by
  unfold State.deskPeriod State.handDesk
  rw [State.deskReading_same]
  rfl

/-- An expiry that has come together with the event is still to be taken (R124, log 29). -/
theorem Cru.dueAt_of_end {c : Cru} {e : Time} (idle : c.deskDue = none) (ends : c.deskAt = some e) (now : Time) :
    c.dueAt now = if e ≤ now then some e else none := by
  rw [Cru.dueAt, idle, ends, Option.none_or]
  simp [Option.filter]

theorem exec_deskPeriodExpiry {s : State} {t : Time} (ends : s.cru.periodEnd = some t) :
    exec .deskPeriodExpiry s = .next (s.reach t).deskPeriod := exec_of_moment (c := .deskPeriodExpiry) ends

theorem State.cruKey_cru (s : State) (on : Bool) : (s.cruKey on).cru =
    let keyed := { s.cru with keyOn := on }
    if keyed.nextRole false = s.cru.role then { keyed with peerConflictRaised := keyed.seesConflict }
    else keyed.changed (keyed.nextRole false) s.now s.cfg.claimMs s.cfg.deskPeriodMs := by
  rw [State.cruKey, State.evaluateRole_cru]
  rfl

/-- A key change taken in RUNNING is handed to the CRU (R134). -/
theorem exec_keyChange_of_running {s : State} {t : Time} (ends : s.diu.key.endsAt = some t) (running : s.cfl.start = .running) :
    exec .keyChange s = .next (({ s with
      now := max s.now t
      diu := { s.diu with key := { s.diu.key with taken := s.diu.key.level, endsAt := none } } } : State).cruKey s.diu.key.level) := by
  rw [exec_of_moment (c := .keyChange) ends]
  refine congrArg Host.Outcome.next ?_
  have isRunning : (s.reach t).running = true := by simp [State.running, State.reach, running]
  exact if_pos isRunning

/-- Settles O42: the frame by its place, and the expiry that a change of role leaves to be taken. -/
theorem deskPeriodHandsADeskFrame : Obligations.DeskPeriodHandsADeskFrame := by
  refine ⟨fun t s ends => ?_, fun t s ends running idle atEnd changes => ?_⟩
  · have due : s.cru.periodEnd = some t := by
      obtain due | ⟨none, timer⟩ := ends
      · simp [Cru.periodEnd, due]
      · simp [Cru.periodEnd, none, timer]
    refine ⟨_, exec_deskPeriodExpiry due, by simp [State.reach], State.deskPeriod_cru _, ?_⟩
    rw [State.deskPeriod_eq]
    dsimp only
    obtain ⟨held, refreshed, entered⟩ := Lif.place_desk (l := s.lif) (max s.now t) ((s.reach t).deskContent s.flm.view)
    have kept {lif : Lif} (placed : s.lif.place (max s.now t) (.desk ((s.reach t).deskContent s.flm.view)) = { lif := lif, lost := none }) :
        (s.reach t).periodEnded.handFrame (.desk ((s.reach t).deskContent s.flm.view)) =
          { (s.reach t).periodEnded with lif := lif } := by
      have place : (s.reach t).periodEnded.lif.place (s.reach t).periodEnded.now (.desk ((s.reach t).deskContent s.flm.view)) =
        { lif := lif, lost := none } := placed
      rw [State.handFrame_of_kept (by rw [place]), place]
    refine ⟨fun head => ?_, fun head queued => ?_, fun head fresh room => ?_⟩
    · have := kept (held head)
      rw [show (s.reach t).flm.view = s.flm.view from rfl, this]
      exact ⟨rfl, rfl, rfl⟩
    · have := kept (refreshed head queued)
      rw [show (s.reach t).flm.view = s.flm.view from rfl, this]
      exact ⟨rfl, rfl, rfl⟩
    · have := kept (entered head fresh room)
      rw [show (s.reach t).flm.view = s.flm.view from rfl, this]
      exact ⟨rfl, rfl, rfl⟩
  · generalize keyed : ({ s with
      now := max s.now t
      diu := { s.diu with key := { s.diu.key with taken := s.diu.key.level, endsAt := none } } } : State) = r
    have rCru : r.cru = s.cru := by rw [← keyed]
    have rNow : r.now = max s.now t := by rw [← keyed]
    have cru := r.cruKey_cru s.diu.key.level
    rw [rCru] at cru
    dsimp only at cru
    rw [if_neg changes] at cru
    have now : (r.cruKey s.diu.key.level).now = max s.now t := by rw [State.cruKey_now, rNow]
    have due : (r.cruKey s.diu.key.level).cru.periodEnd = some (max s.now t) := by
      rw [cru]
      rw [Cru.periodEnd, Cru.changed]
      dsimp only
      rw [Cru.dueAt_of_end (c := { s.cru with keyOn := s.diu.key.level }) idle atEnd, rNow, if_pos (Nat.le_refl _), Option.some_or]
    have reached : (r.cruKey s.diu.key.level).reach (max s.now t) = r.cruKey s.diu.key.level := by
      rw [State.reach, now, Nat.max_self]
      rw [← now]
    refine ⟨_, _, by rw [exec_keyChange_of_running ends running, keyed], exec_deskPeriodExpiry due, now, ?_, by rw [cru]; rfl, ?_⟩
    · rw [reached, State.deskPeriod_now, now]
    · rw [reached, State.deskPeriod_cru, now, State.cfg_of_cfl (State.cruKey_cfl r _)]
      rw [State.cfg_of_cfl (t := r) (s := s) (by rw [← keyed])]

end Sys2Proof.Machine
end

section
/-! PROOFS. What a change of role comes to (R80, R118 to R120, R124, R125, R127 to R130). -/

namespace Sys2Proof.Machine

open Sys2Proof

-- One proof after another: the many small proofs below, each on a thread of its own, would reserve more stacks than the check allows.
set_option Elab.async false

/-! ### The CAB lamp and CAB_CONFLICT (R129) -/

/-- The CAB lamp and CAB_CONFLICT are those of the role. -/
structure State.CabShown (s : State) : Prop where
  lamp : s.idr.lamps.cab = s.cru.role.lamp
  tone : .cabConflict ∈ s.idr.arbiter.asserted ↔ s.cru.role = .conflict

theorem State.cabShown_takeRole (s : State) (role : Role) : (s.takeRole role).CabShown where
  lamp := rfl
  tone := by
    rw [State.takeRole_asserted, Arbiter.mem_hold, if_pos rfl]
    exact beq_iff_eq

theorem Act.cabShown {loose : Bool} {s u : State} (h : Act loose s u) (shows' : s.CabShown) : u.CabShown := by
  obtain ⟨lamp, tone⟩ := shows'
  cases h with
  | beside h => exact ⟨by rw [h.idr, h.role]; exact lamp, by rw [h.idr, h.role]; exact tone⟩
  | event r _ => exact ⟨lamp, by simpa [s.flmEvent_asserted r] using tone⟩
  | indicate => exact ⟨lamp, by simpa [s.asuIndicate_asserted] using tone⟩
  | evaluate =>
    exact ⟨by simpa [s.evaluateOverspeed_lamps] using lamp, by simpa [s.evaluateOverspeed_asserted] using tone⟩
  | role role => exact s.cabShown_takeRole role
  | compute v => exact ⟨lamp, tone⟩

theorem State.cabShown_enterRole (s : State) (role : Role) : (s.enterRole role).CabShown := by
  have taken := s.cabShown_takeRole role
  unfold State.enterRole
  dsimp only
  split
  · exact (State.asuEntersActive_course _).keeps (P := State.CabShown) (fun _ _ act => act.cabShown) taken
  · split
    · exact Course.keeps (P := State.CabShown) (fun _ _ act => act.cabShown)
        ((Course.beside {}).trans (State.pruneQueue_course _)) taken
    · exact taken

/-! ### What the entering of a role leaves in the queue (R80, R128) -/

theorem Lif.place_head (l : Lif) (now : Time) (content : TxContent) : (l.place now content).lif.head = l.head := by
  have placed := l.places now content
  generalize l.place now content = placement at placed ⊢
  cases placed <;> rfl

theorem Lif.headIsDesk_congr {l m : Lif} (head : m.head = l.head) : m.headIsDesk = l.headIsDesk := by
  rw [Lif.headIsDesk, head, Lif.headIsDesk]

/-- What stands in the queue once a role is entered, from the queue of `s`. -/
structure State.QueueEntered (s : State) (l : Lif) (old role : Role) : Prop where
  head    : l.headIsDesk = s.lif.headIsDesk
  length  : s.lif.length < 7 → l.length < queueCapacity
  pruned  : old = .active → ∀ c ∈ l.contents, c.urgent = false
  overdue : ∀ r, role = .active → s.asu.pendingAck = some r → r.overdue = true → s.lif.length < queueCapacity →
              { content := .overdue r.station r.inst (timeOverdue s.now r.openedAt s.cfg.ackMs), entered := s.now } ∈ l.waiting

theorem Lif.pruned_headIsDesk (l : Lif) : l.pruned.headIsDesk = l.headIsDesk := by
  unfold Lif.headIsDesk Lif.pruned Lif.headUrgent
  dsimp only
  cases l.head with
  | none => rfl
  | some h =>
    cases urgent : h.content.urgent with
    | false => simp [urgent]
    | true =>
      have other : h.content.isDesk = false := Bool.eq_false_iff.2 fun desk => by
        rw [TxContent.urgent_of_isDesk desk] at urgent
        cases urgent
      simp [urgent, other]

theorem State.announceOverdue_lif (s : State) (r : PendingAck) (time : Nat) : (s.announceOverdue r time).lif =
    { (s.lif.place s.now (.overdue r.station r.inst time)).lif with
      queueLossRaised := s.lif.queueLossRaised || (s.lif.place s.now (.overdue r.station r.inst time)).lost.isSome } :=
  State.handFrame_lif _ _

theorem State.queueEntered_enterRole (s : State) {role : Role} (changes : role ≠ s.cru.role) :
    s.QueueEntered (s.enterRole role).lif s.cru.role role := by
  have asFound (overdue : ∀ r, role = .active → s.asu.pendingAck = some r → r.overdue = true → False)
      (left : s.cru.role ≠ .active) : s.QueueEntered s.lif s.cru.role role :=
    { head := rfl
      length := fun few => Nat.lt_trans few (by decide)
      pruned := fun active => absurd active left
      overdue := fun r active pending late => (overdue r active pending late).elim }
  unfold State.enterRole
  dsimp only
  split
  next active =>
    have left : s.cru.role ≠ .active := fun was => changes (active.trans was.symm)
    unfold State.asuEntersActive
    split
    next none =>
      refine asFound (fun r _ pending _ => ?_) left
      have := pending.symm.trans none
      cases this
    next r pending =>
      split
      next late =>
        have announced := State.announceOverdue_lif (s.takeRole role) r (timeOverdue s.now r.openedAt s.cfg.ackMs)
        have queues := State.announceOverdue_queues (s := s.takeRole role) (r := r)
          (time := timeOverdue s.now r.openedAt s.cfg.ackMs)
        refine ⟨?_, fun few => ?_, fun was => absurd was left, fun r' _ pending' _ room => ?_⟩
        · exact Lif.headIsDesk_congr ((congrArg Lif.head announced).trans (Lif.place_head _ _ _))
        · have placed := Lif.place_of_room (l := s.lif) (now := s.now)
            (content := .overdue r.station r.inst (timeOverdue s.now r.openedAt s.cfg.ackMs)) (fun desk => nomatch desk)
            (Nat.lt_trans few (by decide))
          have length : (s.lif.place s.now (.overdue r.station r.inst (timeOverdue s.now r.openedAt s.cfg.ackMs))).lif.length =
              s.lif.length + 1 := by
            rw [placed]
            simp only [Lif.length, length_enterQueue]
            omega
          refine Nat.lt_of_le_of_lt (Nat.le_of_eq ?_) (Nat.succ_lt_succ few)
          exact (congrArg Lif.length announced).trans length
        · obtain rfl := Option.some.inj (pending.symm.trans pending')
          exact (queues room).entered
      next current =>
        refine asFound (fun r' _ pending' late => current ?_) left
        obtain rfl := Option.some.inj (pending.symm.trans pending')
        exact late
  next other =>
    split
    next was =>
      have lif := State.pruneQueue_lif (s.takeRole role).asuLeavesActive
      refine ⟨?_, fun few => ?_, fun _ c mem => ?_, fun r active => absurd active other⟩
      · exact (Lif.headIsDesk_congr (congrArg Lif.head lif)).trans s.lif.pruned_headIsDesk
      · refine Nat.lt_of_le_of_lt ?_ (Nat.lt_trans few (by decide))
        exact Nat.le_trans (Nat.le_of_eq (congrArg Lif.length lif)) s.lif.pruned_length_le
      · have inPruned : c ∈ s.lif.pruned.contents := (congrArg Lif.contents lif) ▸ mem
        rw [Lif.pruned_contents] at inPruned
        simpa using (List.mem_filter.1 inPruned).2
    next left => exact asFound (fun r active => absurd active other) left

/-! ### The DESK frame that closes an evaluation (R124, R125) -/

/-- A DESK frame handed to a queue with room: in the hold, or in the queue. -/
theorem Lif.place_desk_of_room {l : Lif} (room : l.length < queueCapacity) (now : Time) (c : DeskContent) :
    (l.headIsDesk = true → (l.place now (.desk c)).lif.hold = some c) ∧
    (l.headIsDesk = false → ∃ q ∈ (l.place now (.desk c)).lif.waiting, q.content = .desk c) := by
  obtain ⟨held, refreshed, entered⟩ := Lif.place_desk (l := l) now c
  refine ⟨fun head => by rw [held head], fun head => ?_⟩
  by_cases queued : ∃ q ∈ l.waiting, q.content.isDesk = true
  · rw [refreshed head queued]
    obtain ⟨q, mem, desk⟩ := queued
    exact ⟨_, List.mem_map.2 ⟨q, mem, rfl⟩, by rw [if_pos desk]⟩
  · rw [entered head (fun q mem => Bool.eq_false_iff.2 fun desk => queued ⟨q, mem, desk⟩) room]
    exact ⟨_, List.mem_append_right _ List.mem_cons_self, rfl⟩

/-- A DESK frame handed costs no urgent one. -/
theorem Lif.mem_place_desk_of_urgent {l : Lif} {q : QueuedFrame} (mem : q ∈ l.waiting) (urgent : q.content.urgent = true)
    (now : Time) (c : DeskContent) : q ∈ (l.place now (.desk c)).lif.waiting := by
  have placed := l.places now (.desk c)
  generalize l.place now (.desk c) = placement at placed ⊢
  cases placed with
  | held => exact mem
  | refreshed =>
    refine List.mem_map.2 ⟨q, mem, if_neg fun desk => ?_⟩
    rw [TxContent.urgent_of_isDesk desk] at urgent
    cases urgent
  | entered => exact (mem_enterQueue (f := { content := .desk c, entered := now })).2 (.inr mem)
  | replaced _ _ front back victim waiting normal =>
    rw [waiting] at mem
    refine (mem_enterQueue (f := { content := .desk c, entered := now })).2 (.inr ?_)
    obtain before | rfl | after := by simpa using mem
    · exact List.mem_append_left _ before
    · rw [normal] at urgent; cases urgent
    · exact List.mem_append_right _ after
  | dropped => exact mem

theorem State.handDesk_lif (s : State) (before between after : FlmView) : ∃ raised, (s.handDesk before between after).lif =
    { (s.lif.place s.now (.desk (s.deskContent (s.deskReading before between after)))).lif with queueLossRaised := raised } :=
  ⟨_, State.handFrame_lif _ _⟩

/-! ### The records 0xF050 and 0xF051 (R130) -/

theorem State.Firm.handDesk {s : State} (lawful : s.flm.Lawful) {k origin : Nat} {code : FaultCode} {cls : FaultClass}
    (h : s.flm.Firm k origin code cls) (slack : k ≤ 7) (differ : (0xF072 : FaultCode) ≠ code) (before between after : FlmView) :
    (s.handDesk before between after).flm.Firm k origin code cls := by
  unfold State.handDesk
  obtain ⟨-, same⟩ | ⟨c, -, lost⟩ := State.handFrame_cases ({ s with
    cru := { s.cru with deskAt := s.inMs s.cfg.deskPeriodMs, deskDue := s.cru.dueAt s.now }
    freeIndex := s.freeIndex + 1 } : State) (.desk (s.deskContent (s.deskReading before between after)))
  · rw [same]; exact h
  · rw [lost, State.queueLoss]
    split
    · exact h
    · exact State.Firm.flmRaise lawful h slack differ _

theorem State.NotRaised.handDesk {s : State} {origin : Nat} {code : FaultCode} (h : s.flm.NotRaised origin code)
    (differ : (0xF072 : FaultCode) ≠ code) (before between after : FlmView) :
    (s.handDesk before between after).flm.NotRaised origin code := by
  unfold State.handDesk
  obtain ⟨-, same⟩ | ⟨c, -, lost⟩ := State.handFrame_cases ({ s with
    cru := { s.cru with deskAt := s.inMs s.cfg.deskPeriodMs, deskDue := s.cru.dueAt s.now }
    freeIndex := s.freeIndex + 1 } : State) (.desk (s.deskContent (s.deskReading before between after)))
  · rw [same]; exact h
  · rw [lost, State.queueLoss]
    split
    · exact h
    · exact State.flmRaise_keepsNotRaised h differ _

theorem State.Firm.peerConflictTest {s : State} (lawful : s.flm.Lawful) {k origin : Nat} {code : FaultCode} {cls : FaultClass}
    (h : s.flm.Firm (k + 1) origin code cls) (slack : k ≤ 7) (differ : (0xF051 : FaultCode) ≠ code) :
    s.peerConflictTest.flm.Firm k origin code cls := by
  unfold State.peerConflictTest
  dsimp only
  split
  · exact h.mono (Nat.le_succ k)
  · split
    · exact State.Firm.flmRaise lawful (h.mono (Nat.le_succ k)) slack differ _
    · exact State.Firm.flmClear lawful h differ

theorem State.NotRaised.peerConflictTest {s : State} {origin : Nat} {code : FaultCode} (h : s.flm.NotRaised origin code)
    (differ : (0xF051 : FaultCode) ≠ code) : s.peerConflictTest.flm.NotRaised origin code := by
  unfold State.peerConflictTest
  dsimp only
  split
  · exact h
  · split
    · exact State.flmRaise_keepsNotRaised h differ _
    · exact State.flmClear_keepsNotRaised h _

/-- The test raises 0xF051 as its flag is set, and clears it as the flag falls. -/
theorem State.peerConflictTest_flm (s : State) :
    (s.cru.peerConflictRaised = false → s.cru.seesConflict = true → s.peerConflictTest.flm.Firm 7 s.own 0xF051 .advisory) ∧
    (s.cru.peerConflictRaised = true → s.cru.seesConflict = false → s.peerConflictTest.flm.NotRaised s.own 0xF051) := by
  unfold State.peerConflictTest
  dsimp only
  refine ⟨fun off sees => ?_, fun on blind => ?_⟩
  · rw [if_neg (by rw [off, sees]; decide), if_pos sees]
    exact State.firm_flmRaise _ _ _
  · rw [if_neg (by rw [on, blind]; decide), if_neg (by rw [blind]; decide)]
    exact State.flmClear_notRaised _ _

theorem Cru.seesConflict_iff {c : Cru} : c.seesConflict = true ↔ c.role = .active ∧ ∃ v ∈ c.peers.toList, v.counted = .conflict := by
  rw [Cru.seesConflict, Bool.and_eq_true, beq_iff_eq, Cru.anyPeer_counted]

/-! ### An evaluation (R117, R127) -/

/-- The part once it has entered the new role and taken its record (R130). -/
def State.recorded (s : State) (expiry : Bool) : State := (s.enterRole (s.cru.nextRole expiry)).conflictRecord s.cru.role

section
variable {s : State} {expiry : Bool}

theorem State.evaluateRole_of_same (same : s.cru.nextRole expiry = s.cru.role) : s.evaluateRole expiry = s.peerConflictTest :=
  if_pos same

theorem State.evaluateRole_of_changes (changes : s.cru.nextRole expiry ≠ s.cru.role) :
    s.evaluateRole expiry = (s.recorded expiry).peerConflictTest.handDesk (s.enterRole (s.cru.nextRole expiry)).flm.view
      (s.recorded expiry).flm.view (s.recorded expiry).peerConflictTest.flm.view := if_neg changes

theorem State.recorded_course : Course s (s.recorded expiry) :=
  (State.enterRole_course _ _).trans (State.conflictRecord_course _ _)

theorem State.recorded_cru : (s.recorded expiry).cru = (s.takeRole (s.cru.nextRole expiry)).cru := by
  rw [State.recorded, State.conflictRecord_cru, State.enterRole_cru]

theorem State.recorded_cfl : (s.recorded expiry).cfl = s.cfl := by simp [State.recorded]

theorem State.recorded_own : (s.recorded expiry).own = s.own := State.own_of_cfl State.recorded_cfl

theorem State.evaluateRole_role : (s.evaluateRole expiry).cru.role = s.cru.nextRole expiry := by
  rw [State.evaluateRole_cru]
  split
  · next same => exact same.symm
  · rfl

theorem State.evaluateRole_peers : (s.evaluateRole expiry).cru.peers = s.cru.peers ∧ (s.evaluateRole expiry).cru.keyOn = s.cru.keyOn := by
  rw [State.evaluateRole_cru]
  split <;> exact ⟨rfl, rfl⟩

theorem State.peerConflictTested_evaluateRole (lawful : s.flm.Lawful) : s.PeerConflictTested (s.evaluateRole expiry) := by
  have flag : (s.evaluateRole expiry).cru.peerConflictRaised =
      ({ s.cru with role := s.cru.nextRole expiry } : Cru).seesConflict := by
    rw [State.evaluateRole_cru]
    split
    · next same => rw [same]
    · rfl
  refine ⟨?_, fun off raised => ?_, fun on cleared => ?_⟩
  · rw [flag, Cru.seesConflict_iff, State.evaluateRole_role, State.evaluateRole_peers.1]
  · rw [flag] at raised
    by_cases same : s.cru.nextRole expiry = s.cru.role
    · rw [State.evaluateRole_of_same same]
      rw [same] at raised
      exact (s.peerConflictTest_flm.1 off raised).raised
    · rw [State.evaluateRole_of_changes same]
      have raises := (s.recorded expiry).peerConflictTest_flm.1
      rw [State.recorded_cru, State.recorded_own] at raises
      refine (State.Firm.handDesk ?_ (raises off raised) (by decide) (by decide) _ _ _).raised
      exact Course.lawful (State.recorded_course.trans (State.peerConflictTest_course _)) lawful
  · rw [flag] at cleared
    by_cases same : s.cru.nextRole expiry = s.cru.role
    · rw [State.evaluateRole_of_same same]
      rw [same] at cleared
      exact s.peerConflictTest_flm.2 on cleared
    · rw [State.evaluateRole_of_changes same]
      have clears := (s.recorded expiry).peerConflictTest_flm.2
      rw [State.recorded_cru, State.recorded_own] at clears
      exact State.NotRaised.handDesk (clears on cleared) (by decide) _ _ _

theorem State.recorded_lif : (s.recorded expiry).peerConflictTest.lif = (s.enterRole (s.cru.nextRole expiry)).lif := by
  rw [State.peerConflictTest_lif, State.recorded, State.conflictRecord_lif]

theorem State.recorded_asu : (s.recorded expiry).peerConflictTest.asu = s.asu.roleChanged s.cru.role (s.cru.nextRole expiry) s.now := by
  rw [State.peerConflictTest_asu, State.recorded, State.conflictRecord_asu, State.enterRole_asu]

theorem Asu.roleChanged_shown (a : Asu) (old role : Role) (now : Time) :
    (a.roleChanged old role now).shown = a.shown ∧ (a.roleChanged old role now).pendingAck = a.pendingAck := by
  unfold Asu.roleChanged
  split
  · split <;> exact ⟨rfl, rfl⟩
  · split <;> exact ⟨rfl, rfl⟩

/-- The queue after a change of role: the DESK frame handed to the queue that the role's entering leaves. -/
theorem State.evaluateRole_lif (changes : s.cru.nextRole expiry ≠ s.cru.role) : ∃ raised v, (s.evaluateRole expiry).lif =
    { ((s.enterRole (s.cru.nextRole expiry)).lif.place s.now
        (.desk ((s.recorded expiry).peerConflictTest.deskContent v))).lif with queueLossRaised := raised } := by
  obtain ⟨raised, lif⟩ := (s.recorded expiry).peerConflictTest.handDesk_lif (s.enterRole (s.cru.nextRole expiry)).flm.view
    (s.recorded expiry).flm.view (s.recorded expiry).peerConflictTest.flm.view
  rw [← State.evaluateRole_of_changes changes, State.recorded_lif] at lif
  have now : (s.recorded expiry).peerConflictTest.now = s.now := by simp [State.recorded]
  exact ⟨raised, _, now ▸ lif⟩

/-- What the DESK frame of a change of role says (R125). -/
theorem State.recorded_deskContent (v : FlmView) :
    (s.recorded expiry).peerConflictTest.deskContent v = { s.deskContent v with role := s.cru.nextRole expiry } := by
  obtain ⟨shown, pending⟩ := s.asu.roleChanged_shown s.cru.role (s.cru.nextRole expiry) s.now
  have cfl : (s.recorded expiry).peerConflictTest.cfl = s.cfl := by simp [State.recorded]
  have role : (s.recorded expiry).peerConflictTest.cru.role = s.cru.nextRole expiry := by
    rw [State.peerConflictTest_cru, State.recorded_cru]; rfl
  have key : (s.recorded expiry).peerConflictTest.cru.keyOn = s.cru.keyOn := by
    rw [State.peerConflictTest_cru, State.recorded_cru]; rfl
  have end_b : (s.recorded expiry).peerConflictTest.cabEndB = s.cabEndB := by rw [State.cabEndB, cfl, State.cabEndB]
  have sdm : (s.recorded expiry).peerConflictTest.sdm = s.sdm := by simp [State.recorded]
  have sfu : (s.recorded expiry).peerConflictTest.sfu = s.sfu := by simp [State.recorded]
  rw [State.deskContent, State.recorded_asu, cfl, role, key, end_b, sdm, sfu, shown, pending, State.deskContent]

/-- What follows a change of role. -/
theorem State.roleChanged_evaluateRole (lawful : s.flm.Lawful) (changes : s.cru.nextRole expiry ≠ s.cru.role) :
    s.RoleChanged (s.evaluateRole expiry) := by
  have role := State.evaluateRole_role (s := s) (expiry := expiry)
  have cru : (s.evaluateRole expiry).cru = _ := (s.evaluateRole_cru expiry).trans (if_neg changes)
  have asu : (s.evaluateRole expiry).asu = _ := (s.evaluateRole_asu expiry).trans (if_neg changes)
  have entered := s.queueEntered_enterRole changes
  obtain ⟨raised, v, lif⟩ := State.evaluateRole_lif changes
  rw [State.recorded_deskContent] at lif
  have shown : (s.evaluateRole expiry).CabShown := by
    rw [State.evaluateRole_of_changes changes]
    exact Course.keeps (P := State.CabShown) (fun _ _ act => act.cabShown) ((State.conflictRecord_course _ _).trans
      ((State.peerConflictTest_course _).trans (State.handDesk_course _ _ _ _))) (s.cabShown_enterRole _)
  have recordedLawful : (s.recorded expiry).flm.Lawful := Course.lawful State.recorded_course lawful
  have testedLawful := Course.lawful (State.peerConflictTest_course _) recordedLawful
  refine {
    claim := by rw [cru, State.evaluateRole_now]; rfl
    period := by rw [cru, State.evaluateRole_now]; rfl
    crossed := fun e ends idle => by
      rw [cru, State.evaluateRole_now]
      exact Cru.dueAt_of_end idle ends s.now
    lamp := ?_
    tone := shown.tone
    desk := fun few => ?_
    pruned := fun was c mem => ?_
    stopped := fun was => ?_
    takenOver := fun r active pending late => ⟨?_, fun room => ?_⟩
    unmoved := fun other current => ?_
    entered := fun conflict => ?_
    left := fun was => ?_ }
  · rw [shown.lamp]
    cases (s.evaluateRole expiry).cru.role <;> rfl
  · obtain ⟨held, queued⟩ := Lif.place_desk_of_room (entered.length few) s.now
      ({ s.deskContent v with role := s.cru.nextRole expiry })
    rw [entered.head] at held queued
    refine ⟨{ s.deskContent v with role := s.cru.nextRole expiry }, role.symm, State.evaluateRole_peers.2.symm, rfl, rfl, rfl, rfl, rfl, rfl, rfl, fun head => ?_, fun head => ?_⟩
    · rw [lif]; exact held head
    · rw [lif]; exact queued head
  · rw [lif] at mem
    obtain rfl | before := Lif.mem_place mem
    · rfl
    · exact entered.pruned was c before
  · rw [asu, Asu.roleChanged, if_neg fun active => changes (active.trans was.symm), if_pos was]
  · rw [role] at active
    rw [asu, State.evaluateRole_now, Asu.roleChanged, if_pos active, if_pos (by rw [Asu.isOverdue, pending]; exact late)]
    rfl
  · rw [role] at active
    rw [lif, State.evaluateRole_now]
    exact Lif.mem_place_desk_of_urgent (entered.overdue r active pending late room) rfl _ _
  · rw [role] at current
    rw [asu, Asu.roleChanged]
    by_cases active : s.cru.nextRole expiry = .active
    · rw [if_pos active, if_neg (by rw [current active]; decide)]
    · rw [if_neg active, if_neg other]
  · rw [role] at conflict
    have raises : (s.recorded expiry).flm.Firm 7 s.own 0xF050 .stop := by
      have entering : (s.enterRole (s.cru.nextRole expiry)).cru.role = .conflict := by rw [State.enterRole_cru]; exact conflict
      rw [State.recorded, State.conflictRecord, if_pos entering,
        ← State.own_of_cfl (State.enterRole_cfl s (s.cru.nextRole expiry))]
      exact State.firm_flmRaise _ _ _
    rw [State.evaluateRole_of_changes changes]
    exact (State.Firm.handDesk testedLawful (State.Firm.peerConflictTest (k := 6) recordedLawful raises (by decide) (by decide))
      (by decide) (by decide) _ _ _).raised
  · have clears : (s.recorded expiry).flm.NotRaised s.own 0xF050 := by
      have entering : (s.enterRole (s.cru.nextRole expiry)).cru.role ≠ .conflict := by
        rw [State.enterRole_cru]
        exact fun conflict => changes (conflict.trans was.symm)
      rw [State.recorded, State.conflictRecord, if_neg entering, if_pos was,
        ← State.own_of_cfl (State.enterRole_cfl s (s.cru.nextRole expiry))]
      exact State.flmClear_notRaised _ _
    rw [State.evaluateRole_of_changes changes]
    exact State.NotRaised.handDesk (State.NotRaised.peerConflictTest clears (by decide)) (by decide) _ _ _

end

/-! ### KEY_CHANGE and CLAIM_WINDOW_EXPIRY -/

theorem exec_claimWindowExpiry {s : State} {t : Time} (runs : s.cru.claimAt = some t) :
    exec .claimWindowExpiry s = .next (s.reach t).claimExpiry := exec_of_moment (c := .claimWindowExpiry) runs

/-- Settles O41: each command is one evaluation, which keeps the role or changes it. -/
theorem keyAndClaimWindowDecideTheRole : Obligations.KeyAndClaimWindowDecideTheRole := by
  refine ⟨fun t s ends => ⟨fun early => ?_, fun running lawful => ?_⟩, fun t s runs claiming on lawful => ?_⟩
  · have notRunning : ¬(s.reach t).running = true := by simpa [State.running, State.reach] using early
    exact (exec_of_moment (c := .keyChange) ends).trans (congrArg Host.Outcome.next (if_neg notRunning))
  · refine ⟨_, exec_keyChange_of_running ends running, ?_⟩
    rw [State.cruKey]
    generalize keyed : ({ s with
      now := max s.now t
      diu := { s.diu with key := { s.diu.key with taken := s.diu.key.level, endsAt := none } }
      cru := { s.cru with keyOn := s.diu.key.level } } : State) = r
    have tested : r.PeerConflictTested (r.evaluateRole false) := State.peerConflictTested_evaluateRole (keyed ▸ lawful)
    have changed (changes : r.cru.nextRole false ≠ r.cru.role) : r.RoleChanged (r.evaluateRole false) :=
      State.roleChanged_evaluateRole (keyed ▸ lawful) changes
    have role := State.evaluateRole_role (s := r) (expiry := false)
    have key := (r.evaluateRole_course false).sameInputs.key
    have keyOn := (State.evaluateRole_peers (s := r) (expiry := false)).2
    have peers := (State.evaluateRole_peers (s := r) (expiry := false)).1
    subst keyed
    refine ⟨State.evaluateRole_now _ _, key, keyOn, role, peers, ⟨tested.flag, tested.raised, tested.cleared⟩, fun moved => ?_,
      fun same => ?_⟩
    · obtain ⟨claim, period, crossed, lamp, tone, desk, pruned, stopped, takenOver, unmoved, entered, left⟩ :=
        changed (role ▸ moved)
      exact ⟨claim, period, crossed, lamp, tone, desk, pruned, stopped, takenOver, unmoved, entered, left⟩
    · rw [State.evaluateRole_of_same (role.symm.trans same), State.peerConflictTest_cru]
      exact ⟨State.peerConflictTest_lif _, State.peerConflictTest_asu _, rfl, rfl, rfl⟩
  · refine ⟨_, exec_claimWindowExpiry runs, ?_⟩
    rw [State.claimExpiry]
    have next := Cru.nextRole_of_claiming (c := { s.cru with claimAt := none }) on claiming true
    have changes : ({ s.cru with claimAt := none } : Cru).nextRole true ≠ s.cru.role := by
      rw [claiming]
      exact Cru.nextRole_expiry (c := { s.cru with claimAt := none }) claiming
    have tested := State.peerConflictTested_evaluateRole (s := { s.reach t with cru := { s.cru with claimAt := none } })
      (expiry := true) lawful
    have role := State.evaluateRole_role (s := { s.reach t with cru := { s.cru with claimAt := none } }) (expiry := true)
    obtain ⟨peers, keyOn⟩ := State.evaluateRole_peers (s := { s.reach t with cru := { s.cru with claimAt := none } }) (expiry := true)
    obtain ⟨claim, period, crossed, lamp, tone, desk, pruned, stopped, takenOver, unmoved, entered, left⟩ :=
      State.roleChanged_evaluateRole (s := { s.reach t with cru := { s.cru with claimAt := none } }) (expiry := true) lawful changes
    refine ⟨State.evaluateRole_now _ _, keyOn.trans on, peers, ⟨tested.flag, tested.raised, tested.cleared⟩,
      ⟨claim, period, crossed, lamp, tone, desk, pruned, stopped, takenOver, unmoved, entered, left⟩, fun none => ?_, fun any => ?_⟩
    · refine role.trans (next.trans ?_)
      rw [if_neg fun any => ?_]
      · rfl
      · obtain ⟨v, mem, is⟩ | ⟨v, mem, is⟩ := Cru.anyPeer_claimingOrActive.1 any
        · exact (none v mem).1 is
        · exact (none v mem).2 is
    · refine role.trans (next.trans (if_pos (Cru.anyPeer_claimingOrActive.2 ?_)))
      obtain ⟨v, mem, is | is⟩ := any
      · exact .inl ⟨v, mem, is⟩
      · exact .inr ⟨v, mem, is⟩

end Sys2Proof.Machine
end

section
/-! PROOFS. A computation of the speed (R28, R31, R33 to R37). -/

namespace Sys2Proof.Machine

open Sys2Proof

-- One proof after another: the many small proofs below, each on a thread of its own, would reserve more stacks than the check allows.
set_option Elab.async false

/-! ### The usable slots (R28) -/

theorem vector_toList_eq {α : Type} {n : Nat} (v : Vector α n) : v.toList = (List.finRange n).map v.get := by
  refine List.ext_getElem (by simp) fun i h _ => ?_
  simp [Vector.get]

theorem Sfu.reports_eq (u : Sfu) : u.reports = (List.finRange 4).filterMap (fun k => (u.slots.get k).usable) := by
  rw [Sfu.reports, vector_toList_eq, List.filterMap_map]
  rfl

theorem Slot.usable_iff {slot : Slot} {r : SpeedReport} : slot.usable = some r ↔
    slot.report = some r ∧ (slot.state = .valid ∨ slot.state = .suspect) ∧ (r.quality = .good ∨ r.quality = .degraded) := by
  have quality : ∀ q : Quality, q ≠ .invalid ↔ q = .good ∨ q = .degraded := by intro q; cases q <;> decide
  unfold Slot.usable
  split
  next x report =>
    rw [Option.ite_none_right_eq_some, Bool.and_eq_true, EntryState.present_iff, bne_iff_ne, quality, report]
    constructor
    · rintro ⟨⟨present, good⟩, same⟩
      obtain rfl := Option.some.inj same
      exact ⟨rfl, present, good⟩
    · rintro ⟨same, present, good⟩
      obtain rfl := Option.some.inj same
      exact ⟨⟨present, good⟩, rfl⟩
  next absent => simp [absent]

theorem ascending_pairwise (l : List Nat) : (ascending l).Pairwise (· ≤ ·) := by
  induction l with
  | nil => exact List.Pairwise.nil
  | cons x rest ih => exact placeNat_pairwise x ih

/-- A usable slot is SUSPECT or reports DEGRADED (R28, R33). -/
theorem Sfu.anyDegraded_iff {u : Sfu} : u.anyDegraded = true ↔ ∃ (k : Fin 4) (r : SpeedReport), (u.slots.get k).usable = some r ∧
    ((u.slots.get k).state = .suspect ∨ r.quality = .degraded) := by
  have one (slot : Slot) : (slot.usable.isSome = true ∧ (match slot.report with
      | some r => effectiveQuality slot.state r.quality == .degraded
      | none => false) = true) ↔ ∃ r, slot.usable = some r ∧ (slot.state = .suspect ∨ r.quality = .degraded) := by
    constructor
    · rintro ⟨usable, low⟩
      obtain ⟨r, usable⟩ := Option.isSome_iff_exists.1 usable
      obtain ⟨report, present, good⟩ := Slot.usable_iff.1 usable
      refine ⟨r, usable, ?_⟩
      rw [report] at low
      obtain state | state := present <;> obtain quality | quality := good <;> simp_all [effectiveQuality]
    · rintro ⟨r, usable, low⟩
      obtain ⟨report, present, good⟩ := Slot.usable_iff.1 usable
      refine ⟨by rw [usable]; rfl, ?_⟩
      rw [report]
      obtain state | state := present <;> obtain quality | quality := good <;> simp_all [effectiveQuality]
  have slots : (∃ slot ∈ u.slots.toList, ∃ r, slot.usable = some r ∧ (slot.state = .suspect ∨ r.quality = .degraded)) ↔
      ∃ (k : Fin 4) (r : SpeedReport), (u.slots.get k).usable = some r ∧ ((u.slots.get k).state = .suspect ∨ r.quality = .degraded) := by
    rw [vector_toList_eq]
    constructor
    · rintro ⟨slot, mem, r, usable⟩
      obtain ⟨k, -, rfl⟩ := List.mem_map.1 mem
      exact ⟨k, r, usable⟩
    · exact fun ⟨k, r, usable⟩ => ⟨_, List.mem_map.2 ⟨k, List.mem_finRange k, rfl⟩, r, usable⟩
  refine (List.any_eq_true.trans (exists_congr fun slot => ?_)).trans slots
  rw [Sfu.usableSlots, List.mem_filter, and_assoc]
  exact and_congr_right fun _ => one slot

/-! ### The fused speed (R31) -/

/-- The fused speed lies between two of the speeds. -/
theorem fuse_between {tolerance x : Nat} {v : List Nat} (ordered : v.Pairwise (· ≤ ·)) (fused : fuse tolerance v = some x) :
    ∃ lo ∈ v, ∃ hi ∈ v, lo ≤ x ∧ x ≤ hi := by
  unfold fuse at fused
  split at fused
  next => cases fused
  next v1 => exact ⟨v1, by simp, v1, by simp, by simp_all, by simp_all⟩
  next v1 v2 =>
    have le : v1 ≤ v2 := by simpa using ordered
    have between : v1 ≤ x ∧ x ≤ v2 := by
      obtain rfl := Option.some.inj fused
      split <;> omega
    exact ⟨v1, by simp, v2, by simp, between⟩
  next v1 v2 v3 =>
    obtain rfl := Option.some.inj fused
    exact ⟨v2, by simp, v2, by simp, Nat.le_refl _, Nat.le_refl _⟩
  next v1 v2 v3 rest _ =>
    have le : v2 ≤ v3 := by
      simp only [List.pairwise_cons, List.mem_cons] at ordered
      exact ordered.2.1 v3 (.inl rfl)
    have between : v2 ≤ x ∧ x ≤ v3 := by
      obtain rfl := Option.some.inj fused
      omega
    exact ⟨v2, by simp, v3, by simp, between⟩

/-- There is a fused speed where there is a usable one. -/
theorem fuse_isSome {tolerance : Nat} {v : List Nat} (some_usable : v ≠ []) : ∃ x, fuse tolerance v = some x := by
  unfold fuse
  split
  · exact absurd rfl some_usable
  all_goals exact ⟨_, rfl⟩

/-! ### The direction and the outliers (R34, R35) -/

theorem directionOf_none (standstill : Nat) (reports : List SpeedReport) : directionOf standstill reports none = .unknown := rfl

theorem directionOf_some (standstill f : Nat) (reports : List SpeedReport) : directionOf standstill reports (some f) =
    if votes .reverse reports < votes .forward reports then .forward
    else if votes .forward reports < votes .reverse reports then .reverse
    else if f < standstill then .standstill else .unknown := rfl

theorem Slot.isOutlier_iff {slot : Slot} {tolerance n : Nat} {fused : Option Nat} : slot.isOutlier tolerance n fused = true ↔
    ∃ r f, slot.usable = some r ∧ fused = some f ∧ 3 ≤ n ∧ (tolerance + r.speed < f ∨ tolerance + f < r.speed) := by
  have far (a b : Nat) : tolerance < distance a b ↔ tolerance + a < b ∨ tolerance + b < a := by
    unfold distance
    omega
  unfold Slot.isOutlier
  cases slot.usable with
  | none => simp
  | some r => cases fused <;> simp [far]

theorem Sfu.computed_slot (u : Sfu) (c : Configuration) (k : Fin 4) : (u.computed c).slots.get k =
    { u.slots.get k with
      outliers := persist ((u.slots.get k).isOutlier c.tolerance u.reports.length (u.computed c).fused) (u.slots.get k).outliers } := by
  simp [Sfu.computed, vector_get_eq_getElem]

/-! ### The requests of a computation (R35 to R37) -/

theorem codes_persistRequest (code : FaultCode) (before after : Nat) :
    ((persistRequest code before after).map (·.code)).Sublist [code] := by
  unfold persistRequest
  split
  · exact List.Sublist.refl _
  · split
    · exact List.Sublist.refl _
    · exact List.nil_sublist _

/-- The codes of the SFU, each in its place. -/
theorem Sfu.codes_requestsTo (u v : Sfu) : ((u.requestsTo v).map (·.code)).Sublist
    [0xF020, 0xF021, 0xF022, 0xF023, 0xF010, 0xF030] := by
  have slots : ((List.finRange 4).flatMap (fun k => persistRequest (outlierCode k) (u.slots.get k).outliers (v.slots.get k).outliers)).map
      (·.code) = ((persistRequest 0xF020 (u.slots.get 0).outliers (v.slots.get 0).outliers).map (·.code) ++
        ((persistRequest 0xF021 (u.slots.get 1).outliers (v.slots.get 1).outliers).map (·.code) ++
        ((persistRequest 0xF022 (u.slots.get 2).outliers (v.slots.get 2).outliers).map (·.code) ++
        (persistRequest 0xF023 (u.slots.get 3).outliers (v.slots.get 3).outliers).map (·.code)))) := by
    rw [show List.finRange 4 = [0, 1, 2, 3] from rfl]
    simp only [List.flatMap_cons, List.flatMap_nil, List.append_nil, List.map_append]
    rfl
  rw [Sfu.requestsTo, List.map_append, List.map_append, slots]
  have step {a b : List FaultCode} {x : FaultCode} {rest : List FaultCode} (one : a.Sublist [x]) (more : b.Sublist rest) :
      (a ++ b).Sublist (x :: rest) := one.append more
  rw [List.append_assoc, List.append_assoc, List.append_assoc, List.append_assoc]
  refine step (codes_persistRequest _ _ _) (step (codes_persistRequest _ _ _) (step (codes_persistRequest _ _ _)
    (step (codes_persistRequest _ _ _) (step (codes_persistRequest _ _ _) ?_))))
  split
  · split
    · exact List.Sublist.refl _
    · split
      · exact List.Sublist.refl _
      · exact List.nil_sublist _
  · exact List.nil_sublist _

theorem Sfu.requestsTo_once (u v : Sfu) : ((u.requestsTo v).map (·.code)).Nodup := (u.codes_requestsTo v).nodup (by decide)

theorem Sfu.requestsTo_few (u v : Sfu) : (u.requestsTo v).length ≤ 8 := by
  have := (u.codes_requestsTo v).length_le
  rw [List.length_map] at this
  exact Nat.le_trans this (by decide)

theorem persistRequest_raise {before after : Nat} (code : FaultCode) (below : before = 4) (full : after = 5) :
    .raise code .advisory ∈ persistRequest code before after := by
  subst below full
  exact List.mem_cons_self

theorem persistRequest_clear {before after : Nat} (code : FaultCode) (full : before = 5) (none : after = 0) :
    .clear code ∈ persistRequest code before after := by
  subst full none
  exact List.mem_cons_self

theorem persistRequest_none {before after : Nat} (code : FaultCode) (same : after = 5 ↔ before = 5) : persistRequest code before after = [] := by
  unfold persistRequest persistCount
  rw [if_neg (by omega), if_neg (by omega)]

theorem Sfu.mem_requestsTo_slot {u v : Sfu} {q : FaultRequest} (k : Fin 4)
    (asked : q ∈ persistRequest (outlierCode k) (u.slots.get k).outliers (v.slots.get k).outliers) : q ∈ u.requestsTo v :=
  List.mem_append_left _ (List.mem_append_left _ (List.mem_flatMap.2 ⟨k, List.mem_finRange k, asked⟩))

theorem Sfu.mem_requestsTo_disagree {u v : Sfu} {q : FaultRequest} (asked : q ∈ persistRequest 0xF010 u.disagreements v.disagreements) :
    q ∈ u.requestsTo v := List.mem_append_left _ (List.mem_append_right _ asked)

/-- The part with a computation's record, before its requests. -/
def State.computedSfu (s : State) : State :=
  { s with
    sfu := s.sfu.computed s.cfg
    idr := { s.idr with lamps := { s.idr.lamps with source := (s.sfu.computed s.cfg).speedState.lamp } } }

theorem State.sfuCompute_flm (s : State) : s.sfuCompute.flm = (s.computedSfu.requests (s.sfu.requestsTo (s.sfu.computed s.cfg))).flm :=
  State.sdmHandOff_flm _ _

theorem State.sfuCompute_raised {s : State} (lawful : s.flm.Lawful) {code : FaultCode} {cls : FaultClass}
    (asked : .raise code cls ∈ s.sfu.requestsTo (s.sfu.computed s.cfg)) : s.sfuCompute.flm.Raised s.own code cls := by
  rw [State.sfuCompute_flm]
  exact State.requests_raised (s := s.computedSfu) lawful (Sfu.requestsTo_once _ _) (Sfu.requestsTo_few _ _) asked

theorem State.sfuCompute_cleared {s : State} {code : FaultCode} (asked : .clear code ∈ s.sfu.requestsTo (s.sfu.computed s.cfg)) :
    s.sfuCompute.flm.NotRaised s.own code := by
  rw [State.sfuCompute_flm]
  exact State.requests_cleared (s := s.computedSfu) (Sfu.requestsTo_once _ _) asked

theorem Sfu.computed_noSpeedRaised (u : Sfu) (c : Configuration) : (u.computed c).noSpeedRaised =
    if u.graceExpired then
      (if (u.computed c).speedState = .unknown then u.noSpeedRaised || u.speedState != .unknown
       else u.noSpeedRaised && u.speedState != .unknown)
    else u.noSpeedRaised := rfl

/-- What a computation and the grace notice report (R35 to R37). -/
theorem Sfu.reports_of_computed (u : Sfu) (c : Configuration) (s : State) (isU : s.sfu = u) (isC : s.cfg = c) (lawful : s.flm.Lawful) :
    s.sfuCompute.sfu = u.computed c ∧
    (∀ k : Fin 4,
      ((u.slots.get k).outliers = 4 → ((u.computed c).slots.get k).outliers = 5 →
        s.sfuCompute.flm.Raised s.own (0xF020 + BitVec.ofNat 16 k.val) .advisory) ∧
      ((u.slots.get k).outliers = 5 → ((u.computed c).slots.get k).outliers = 0 →
        s.sfuCompute.flm.NotRaised s.own (0xF020 + BitVec.ofNat 16 k.val))) ∧
    (u.disagreements = 4 → (u.computed c).disagreements = 5 → s.sfuCompute.flm.Raised s.own 0xF010 .advisory) ∧
    (u.disagreements = 5 → (u.computed c).disagreements = 0 → s.sfuCompute.flm.NotRaised s.own 0xF010) ∧
    (u.graceExpired = true → u.speedState ≠ .unknown → (u.computed c).speedState = .unknown →
      (u.computed c).noSpeedRaised = true ∧ s.sfuCompute.flm.Raised s.own 0xF030 .action) ∧
    (u.graceExpired = true → u.speedState = .unknown → (u.computed c).speedState ≠ .unknown →
      (u.computed c).noSpeedRaised = false ∧ (u.noSpeedRaised = true → s.sfuCompute.flm.NotRaised s.own 0xF030)) ∧
    ((∀ k : Fin 4, ((u.computed c).slots.get k).outliers = 5 ↔ (u.slots.get k).outliers = 5) →
      ((u.computed c).disagreements = 5 ↔ u.disagreements = 5) →
      u.graceExpired = false ∨ ((u.computed c).speedState = .unknown ↔ u.speedState = .unknown) → s.sfuCompute.flm = s.flm) := by
  subst isU isC
  refine ⟨s.sfuCompute_sfu, fun k => ⟨fun below full => State.sfuCompute_raised lawful (Sfu.mem_requestsTo_slot k
      (persistRequest_raise _ below full)), fun full none => State.sfuCompute_cleared (Sfu.mem_requestsTo_slot k
      (persistRequest_clear _ full none))⟩, fun below full => State.sfuCompute_raised lawful (Sfu.mem_requestsTo_disagree
      (persistRequest_raise _ below full)), fun full none => State.sfuCompute_cleared (Sfu.mem_requestsTo_disagree
      (persistRequest_clear _ full none)), fun grace known unknown => ⟨?_, ?_⟩, fun grace unknown known => ⟨?_, fun raised => ?_⟩,
      fun slots disagree speed => ?_⟩
  · rw [Sfu.computed_noSpeedRaised, if_pos grace, if_pos unknown]
    simp [known]
  · refine State.sfuCompute_raised lawful (List.mem_append_right _ ?_)
    rw [if_pos grace, if_pos ⟨unknown, known⟩]
    exact List.mem_cons_self
  · rw [Sfu.computed_noSpeedRaised, if_pos grace, if_neg known]
    simp [unknown]
  · refine State.sfuCompute_cleared (List.mem_append_right _ ?_)
    rw [if_pos grace, if_neg fun both => known both.1, if_pos ⟨known, unknown, raised⟩]
    exact List.mem_cons_self
  · have nothing : s.sfu.requestsTo (s.sfu.computed s.cfg) = [] := by
      rw [Sfu.requestsTo, persistRequest_none _ disagree, List.flatMap_eq_nil_iff.2 fun k _ => persistRequest_none _ (slots k)]
      obtain off | same := speed
      · rw [if_neg (by rw [off]; decide)]; rfl
      · split
        · rw [if_neg fun both => both.2 (same.1 both.1), if_neg fun all => all.1 (same.2 all.2.1)]; rfl
        · rfl
    rw [State.sfuCompute_flm, nothing]
    rfl

/-- Settles O28: the table by the list of usable speeds, the rest from the computation's own equations. -/
theorem fusedSpeedIsTheTable : Obligations.FusedSpeedIsTheTable := by
  intro u c
  dsimp only
  have fused : (u.computed c).fused = fuse c.tolerance (ascending (u.reports.map (·.speed))) := rfl
  have disagree : (u.computed c).disagree = fuseDisagrees c.tolerance (ascending (u.reports.map (·.speed))) := rfl
  have speedState : (u.computed c).speedState = speedStateOf u.reports.length u.anyDegraded (u.computed c).disagree := rfl
  have direction : (u.computed c).direction = directionOf c.standstill u.reports (u.computed c).fused := rfl
  have perm := ascending_perm (u.reports.map (·.speed))
  have ordered := ascending_pairwise (u.reports.map (·.speed))
  have someFused : u.reports ≠ [] → ∃ f, (u.computed c).fused = some f := fun some_usable => by
    rw [fused]
    refine fuse_isSome fun empty => some_usable ?_
    have := perm.length_eq
    rw [empty, List.length_map] at this
    exact List.length_eq_zero_iff.1 this.symm
  refine ⟨u.reports_eq, fun slot r => Slot.usable_iff, perm, ordered, ?_, fun v1 v2 v3 v4 four => ?_, fun v1 v2 v3 three => ?_,
    fun v1 v2 two near => ?_, fun v1 v2 two apart => ?_, fun v1 one => ?_, fun none => ?_, fun x isX => fuse_between ordered isX,
    fun small x isX => fuse_le small isX, rfl, ⟨fun none => ?_, fun some_usable low => ?_, fun some_usable high => ?_⟩, fun none => ?_,
    fun more => ?_, fun more => ?_, fun f isF equal => ?_, fun k => ⟨?_, ?_, fun free => ?_, fun r f usable three isF => ⟨fun far => ?_,
    fun near => ?_⟩⟩, rfl, rfl, fun s isU isC lawful => ?_⟩
  · rw [perm.length_eq, List.length_map]
    exact length_reports_le u
  · rw [fused, disagree, four]; exact ⟨rfl, rfl⟩
  · rw [fused, disagree, three]; exact ⟨rfl, rfl⟩
  · rw [fused, disagree, two]
    exact ⟨congrArg some (if_pos near), decide_eq_false (Nat.not_lt.2 near)⟩
  · rw [fused, disagree, two]
    exact ⟨congrArg some (if_neg (Nat.not_le.2 apart)), decide_eq_true apart⟩
  · rw [fused, disagree, one]; exact ⟨rfl, rfl⟩
  · rw [fused, disagree, none]; exact ⟨rfl, rfl⟩
  · rw [speedState, speedStateOf, if_pos none]
  · rw [speedState, speedStateOf, if_neg some_usable, if_pos]
    rw [← Sfu.anyDegraded_iff] at low
    simp only [Bool.or_eq_true, decide_eq_true_eq]
    obtain one | apart | degraded := low
    · exact .inl (.inl one)
    · exact .inr apart
    · exact .inl (.inr degraded)
  · rw [speedState, speedStateOf, if_neg some_usable, if_neg]
    rw [← Sfu.anyDegraded_iff] at high
    simpa [and_assoc, and_comm, and_left_comm] using high
  · have empty : u.reports = [] := List.length_eq_zero_iff.1 none
    rw [direction, fused, empty]
    rfl
  · obtain ⟨f, isF⟩ := someFused fun empty => by rw [empty] at more; exact absurd more (Nat.lt_irrefl _)
    rw [direction, isF, directionOf_some]
    exact if_pos more
  · obtain ⟨f, isF⟩ := someFused fun empty => by rw [empty] at more; exact absurd more (Nat.lt_irrefl _)
    rw [direction, isF, directionOf_some]
    exact (if_neg (Nat.not_lt.2 (Nat.le_of_lt more))).trans (if_pos more)
  · have sameVotes : votes .forward u.reports = votes .reverse u.reports := equal
    rw [direction, isF, directionOf_some, sameVotes, if_neg (Nat.lt_irrefl _), if_neg (Nat.lt_irrefl _)]
    exact ⟨fun slow => if_pos slow, fun moving => if_neg (Nat.not_lt.2 moving)⟩
  · rw [Sfu.computed_slot]
  · rw [Sfu.computed_slot]
  · rw [Sfu.computed_slot]
    refine if_neg fun outlier => ?_
    obtain ⟨r, f, usable, -, three, -⟩ := Slot.isOutlier_iff.1 outlier
    obtain none | few := free
    · cases none.symm.trans usable
    · omega
  · rw [Sfu.computed_slot]
    exact if_pos (Slot.isOutlier_iff.2 ⟨r, f, usable, isF, three, far⟩)
  · rw [Sfu.computed_slot]
    refine if_neg fun outlier => ?_
    obtain ⟨r', f', usable', isF', -, far⟩ := Slot.isOutlier_iff.1 outlier
    obtain rfl := Option.some.inj (usable.symm.trans usable')
    obtain rfl := Option.some.inj (isF.symm.trans isF')
    exact near far
  · obtain ⟨sfu, slots, agree, agreed, lost, found, quiet⟩ := u.reports_of_computed c s isU isC lawful
    refine ⟨sfu, slots, agree, agreed, lost, found, fun same same' speed _ _ => quiet same same' speed, ?_, fun unknown => ?_, fun known => ?_⟩
    · rw [State.sfuGrace_sfu]
    · have raises : s.sfuGrace.flm = (State.flmRaise 0xF030 .action { s with
          sfu := { s.sfu with graceExpired := true, noSpeedRaised := true } }).flm := by
        rw [State.sfuGrace, if_pos (isU ▸ unknown)]
      rw [State.sfuGrace_sfu, isU, if_pos unknown, raises]
      exact ⟨rfl, State.flmRaise_raised _ _ _⟩
    · rw [State.sfuGrace_sfu, isU, if_neg known, State.sfuGrace, if_neg (isU ▸ known)]
      exact ⟨rfl, rfl⟩

end Sys2Proof.Machine
end

section
/-! PROOFS. Frames and their payloads (R166 to R169). -/

namespace Sys2Proof.Machine

open Sys2Proof

-- One proof after another: the many small proofs below, each on a thread of its own, would reserve more stacks than the check allows.
set_option Elab.async false

/-! ### Kinds and header bytes (R166) -/

theorem kindOfCode_code (k : FrameKind) : kindOfCode k.code = some k := by
  cases k <;> rfl

theorem code_of_kindOfCode {code : BitVec 4} {k : FrameKind} (h : kindOfCode code = some k) : k.code = code := by
  simpa using List.find?_some h

theorem nibbles_join : ∀ b : Byte, b.extractLsb' 4 4 ++ b.extractLsb' 0 4 = b := by decide

theorem nibbles_split : ∀ a b : BitVec 4, (a ++ b : Byte).extractLsb' 4 4 = a ∧ (a ++ b : Byte).extractLsb' 0 4 = b := by decide

/-- No payload that fits its kind is longer than 26 bytes. -/
theorem length_le_of_payloadFits {kind : FrameKind} {payload : List Byte} (fits : payloadFits kind payload = true) :
    payload.length ≤ 26 := by
  cases kind with
  | fault =>
    obtain ⟨few, length⟩ := Bool.and_eq_true_iff.1 fits
    have := of_decide_eq_true few
    have := beq_iff_eq.1 length
    omega
  | snapfaults =>
    obtain ⟨few, length⟩ := Bool.and_eq_true_iff.1 fits
    have := of_decide_eq_true few
    have := beq_iff_eq.1 length
    omega
  | ackn | snapreq => exact Nat.le_trans (Nat.le_of_eq (beq_iff_eq.1 (Bool.and_eq_true_iff.1 fits).1)) (by decide)
  | _ => exact Nat.le_trans (Nat.le_of_eq (beq_iff_eq.1 fits)) (by decide)

/-- The tests of R169 on a frame of at least a header. -/
theorem parseFrame_cons (b0 b1 b2 : Byte) (rest : List Byte) (f : Frame) : parseFrame (b0 :: b1 :: b2 :: rest) = some f ↔
    ∃ kind, kindOfCode (b1.extractLsb' 4 4) = some kind ∧
      (1 ≤ b0.toNat ∧ b0.toNat ≤ 31 ∧ (rest.take b2.toNat).length = b2.toNat ∧ payloadFits kind (rest.take b2.toNat) = true ∧
        rest.drop b2.toNat = bytesOf16 (checkOf (b0 :: b1 :: b2 :: rest.take b2.toNat))) ∧
      f = { station := b0.toNat, kind := kind, seq := b1.extractLsb' 0 4, payload := rest.take b2.toNat } := by
  unfold parseFrame
  dsimp only
  cases kindOfCode (b1.extractLsb' 4 4) with
  | none => simp
  | some kind =>
    dsimp only
    rw [Option.ite_none_right_eq_some]
    constructor
    · rintro ⟨tests, same⟩
      exact ⟨kind, rfl, tests, (Option.some.inj same).symm⟩
    · rintro ⟨kind', isKind, tests, same⟩
      obtain rfl := Option.some.inj isKind
      exact ⟨tests, congrArg some same.symm⟩

/-- Settles O13: what the tests ask for is what the encoding writes. -/
theorem goodFramesAreTheEncodings : Obligations.GoodFramesAreTheEncodings := by
  intro bytes f
  constructor
  · intro good
    match bytes, good with
    | b0 :: b1 :: b2 :: rest, good =>
      obtain ⟨kind, isKind, ⟨least, most, length, fits, check⟩, rfl⟩ := (parseFrame_cons b0 b1 b2 rest f).1 good
      refine ⟨by simp [Frame.ok, least, most, fits], ?_⟩
      have header : frameHeader { station := b0.toNat, kind := kind, seq := b1.extractLsb' 0 4, payload := rest.take b2.toNat } =
          [b0, b1, b2] := by
        rw [frameHeader, length, code_of_kindOfCode isKind, nibbles_join, BitVec.ofNat_toNat, BitVec.ofNat_toNat]
        rfl
      rw [frameBytes, header]
      exact congrArg (fun l => b0 :: b1 :: b2 :: l) ((congrArg (rest.take b2.toNat ++ ·) check.symm).trans (List.take_append_drop _ _))
  · rintro ⟨ok, rfl⟩
    obtain ⟨station, kind, seq, payload⟩ := f
    obtain ⟨inRange, fits⟩ := Bool.and_eq_true_iff.1 ok
    obtain ⟨least, most⟩ := Bool.and_eq_true_iff.1 inRange
    have least : 1 ≤ station := of_decide_eq_true least
    have most : station ≤ 31 := of_decide_eq_true most
    have short := length_le_of_payloadFits fits
    dsimp only at short fits
    have isStation : (BitVec.ofNat 8 station).toNat = station := by rw [BitVec.toNat_ofNat]; omega
    have isLength : (BitVec.ofNat 8 payload.length).toNat = payload.length := by rw [BitVec.toNat_ofNat]; omega
    obtain ⟨high, low⟩ := nibbles_split kind.code seq
    have layout : frameBytes { station := station, kind := kind, seq := seq, payload := payload } =
        BitVec.ofNat 8 station :: (kind.code ++ seq) :: BitVec.ofNat 8 payload.length :: (payload ++
          bytesOf16 (checkOf (BitVec.ofNat 8 station :: (kind.code ++ seq) :: BitVec.ofNat 8 payload.length :: payload))) := rfl
    rw [layout]
    refine (parseFrame_cons _ _ _ _ _).2 ⟨kind, by rw [high, kindOfCode_code], ?_, ?_⟩
    · rw [isStation, isLength, List.take_left' rfl, List.drop_left' rfl]
      exact ⟨least, most, rfl, fits, rfl⟩
    · rw [isStation, isLength, List.take_left' rfl, low]

/-! ### Fields (R166, R167) -/

theorem bytes16_join (v : BitVec 16) : v.extractLsb' 8 8 ++ v.extractLsb' 0 8 = v := by
  refine BitVec.eq_of_toNat_eq ?_
  rw [toNat_append_byte, BitVec.extractLsb'_toNat, BitVec.extractLsb'_toNat, Nat.shiftRight_eq_div_pow, Nat.shiftRight_zero]
  have := v.isLt
  omega

theorem words_join (v : BitVec 32) : (v.extractLsb' 24 8 ++ v.extractLsb' 16 8) ++ (v.extractLsb' 8 8 ++ v.extractLsb' 0 8) = v := by
  have append16 (a b : BitVec 16) : (a ++ b).toNat = 65536 * a.toNat + b.toNat := by
    rw [BitVec.toNat_append, ← Nat.shiftLeft_add_eq_or_of_lt b.isLt, Nat.shiftLeft_eq]
    omega
  refine BitVec.eq_of_toNat_eq ?_
  rw [append16, toNat_append_byte, toNat_append_byte]
  simp only [BitVec.extractLsb'_toNat, Nat.shiftRight_eq_div_pow]
  have := v.isLt
  omega

/-- A bit of a flag byte. -/
theorem flagBit_getLsbD {k j : Nat} (isPlace : k < 8) (isBit : j < 8) (b : Bool) :
    (flagBit k b).getLsbD j = (decide (j = k) && b) := by
  have all : ∀ (k j : Fin 8) (b : Bool), (flagBit k.val b).getLsbD j.val = (decide (j.val = k.val) && b) := by decide
  exact all ⟨k, isPlace⟩ ⟨j, isBit⟩ b

theorem aspectCodeByte_toNat (code : Option (Fin 16)) : (aspectCodeByte code).toNat = (match code with
    | some k => k.val
    | none => 255) := by
  cases code with
  | none => rfl
  | some k =>
    show (BitVec.ofNat 8 k.val).toNat = k.val
    rw [BitVec.toNat_ofNat]
    omega

/-- A number in a byte, the higher places dropped. -/
theorem toNat_ofNat8 (n : Nat) : (BitVec.ofNat 8 n).toNat = n % 256 := BitVec.toNat_ofNat ..

theorem toNat_ofNat16 (n : Nat) : (BitVec.ofNat 16 n).toNat = n % 65536 := BitVec.toNat_ofNat ..

/-! ### The DESK payload (R167) -/

/-- Byte 1 of a DESK payload. -/
def DeskContent.flags (c : DeskContent) : Byte :=
  flagBit 0 c.keyOn ||| flagBit 1 c.cabEndB ||| flagBit 2 c.displayed.isSome ||| flagBit 3 c.pendingAck.isSome |||
    flagBit 4 (c.pendingAck.elim false (·.overdue)) ||| flagBit 5 c.top.isSome ||| flagBit 6 c.overflow ||| flagBit 7 c.fallback

/-- The code of the first record, 0 where there is none. -/
def DeskContent.topCode (c : DeskContent) : FaultCode := c.top.elim 0 (·.code)

theorem deskPayload_eq (c : DeskContent) : deskPayload c =
    [c.role.code, c.flags, (BitVec.ofNat 16 (c.displayed.getD 0)).extractLsb' 8 8,
     (BitVec.ofNat 16 (c.displayed.getD 0)).extractLsb' 0 8, c.speedState.code, c.level.code, aspectCodeByte c.code,
     c.pendingAck.elim 0 (fun p => BitVec.ofNat 8 p.station), c.pendingAck.elim 0 (·.inst),
     c.top.elim 0 (fun r => BitVec.ofNat 8 r.origin), c.topCode.extractLsb' 8 8, c.topCode.extractLsb' 0 8,
     BitVec.ofNat 8 c.count] := by
  unfold deskPayload DeskContent.flags DeskContent.topCode
  cases c.pendingAck <;> cases c.top <;> rfl

theorem DeskContent.flags_getLsbD (c : DeskContent) :
    c.flags.getLsbD 0 = c.keyOn ∧ c.flags.getLsbD 1 = c.cabEndB ∧ c.flags.getLsbD 2 = c.displayed.isSome ∧
    c.flags.getLsbD 3 = c.pendingAck.isSome ∧ c.flags.getLsbD 4 = c.pendingAck.elim false (·.overdue) ∧
    c.flags.getLsbD 5 = c.top.isSome ∧ c.flags.getLsbD 6 = c.overflow ∧ c.flags.getLsbD 7 = c.fallback := by
  unfold DeskContent.flags
  simp (disch := decide) only [BitVec.getLsbD_or, flagBit_getLsbD]
  simp

/-! ### The SNAPSTATE payload (R168) -/

/-- Byte 6 of a SNAPSTATE payload. -/
def SnapStateContent.flags (c : SnapStateContent) : Byte :=
  flagBit 0 c.displayed.isSome ||| flagBit 1 c.fused.isSome ||| flagBit 2 c.pendingOpen ||| flagBit 3 c.overdue |||
    flagBit 4 c.overflow

theorem SnapStateContent.flags_getLsbD (c : SnapStateContent) :
    c.flags.getLsbD 0 = c.displayed.isSome ∧ c.flags.getLsbD 1 = c.fused.isSome ∧ c.flags.getLsbD 2 = c.pendingOpen ∧
    c.flags.getLsbD 3 = c.overdue ∧ c.flags.getLsbD 4 = c.overflow := by
  unfold SnapStateContent.flags
  simp (disch := decide) only [BitVec.getLsbD_or, flagBit_getLsbD]
  simp

theorem SnapStateContent.flags_lt (c : SnapStateContent) : c.flags < 32 := by
  have all : ∀ a b d e f : Bool, (flagBit 0 a ||| flagBit 1 b ||| flagBit 2 d ||| flagBit 3 e ||| flagBit 4 f) < 32 := by decide
  exact all _ _ _ _ _

/-! ### The SNAPFAULTS payload (R168) -/

theorem length_flatMap_snapRecordBytes (l : List FaultRecord) : (l.flatMap snapRecordBytes).length = 4 * l.length := by
  induction l with
  | nil => rfl
  | cons r rest ih =>
    rw [List.flatMap_cons, List.length_append, ih, List.length_cons]
    show 4 + _ = _
    omega

/-- The bytes of record `i` in their place. -/
theorem getElem?_flatMap_snapRecordBytes {l : List FaultRecord} {i : Nat} {r : FaultRecord} (record : l[i]? = some r) {j : Nat}
    (inside : j < 4) : (l.flatMap snapRecordBytes)[4 * i + j]? = (snapRecordBytes r)[j]? := by
  induction l generalizing i with
  | nil => cases record
  | cons q rest ih =>
    rw [List.flatMap_cons]
    cases i with
    | zero =>
      obtain rfl := Option.some.inj record
      rw [Nat.mul_zero, Nat.zero_add]
      exact List.getElem?_append_left inside
    | succ i =>
      rw [List.getElem?_append_right (by show 4 ≤ _; omega)]
      have shift : 4 * (i + 1) + j - (snapRecordBytes q).length = 4 * i + j := by
        show 4 * (i + 1) + j - 4 = _
        omega
      rw [shift]
      exact ih record

/-- Byte `j` of record `i` in a SNAPFAULTS payload. -/
theorem byteAt_snapFaults {c : SnapFaultsContent} {i : Nat} {r : FaultRecord} (record : c.records[i]? = some r) {j : Nat}
    (inside : j < 4) : byteAt (snapFaultsPayload c) (2 + 4 * i + j) = byteAt (snapRecordBytes r) j := by
  have place : (snapFaultsPayload c)[2 + 4 * i + j]? = (snapRecordBytes r)[j]? := by
    rw [snapFaultsPayload, List.getElem?_append_right (by show 2 ≤ _; omega)]
    show (c.records.flatMap snapRecordBytes)[2 + 4 * i + j - 2]? = _
    rw [show 2 + 4 * i + j - 2 = 4 * i + j by omega]
    exact getElem?_flatMap_snapRecordBytes record inside
  rw [byteAt, byteAt, List.getD_eq_getElem?_getD, List.getD_eq_getElem?_getD, place]

/-- The first byte of a record: origin, class, stale mark. -/
theorem snapRecord_first (r : FaultRecord) :
    (byteAt (snapRecordBytes r) 0).toNat % 32 = r.origin % 32 ∧ (byteAt (snapRecordBytes r) 0).toNat / 32 % 4 = r.cls.num - 1 ∧
    (byteAt (snapRecordBytes r) 0).getLsbD 7 = r.stale := by
  have all : ∀ (o : Fin 32) (n : Fin 4) (stale : Bool),
      (BitVec.ofNat 8 o.val ||| BitVec.ofNat 8 n.val <<< 5 ||| flagBit 7 stale : Byte).toNat % 32 = o.val ∧
      (BitVec.ofNat 8 o.val ||| BitVec.ofNat 8 n.val <<< 5 ||| flagBit 7 stale : Byte).toNat / 32 % 4 = n.val ∧
      (BitVec.ofNat 8 o.val ||| BitVec.ofNat 8 n.val <<< 5 ||| flagBit 7 stale : Byte).getLsbD 7 = stale := by decide
  have number : r.cls.num - 1 < 4 := by cases r.cls <;> decide
  exact all ⟨r.origin % 32, Nat.mod_lt _ (by decide)⟩ ⟨r.cls.num - 1, number⟩ r.stale

/-- The last byte of a record: count and state. -/
theorem snapRecord_last (r : FaultRecord) :
    (byteAt (snapRecordBytes r) 3).toNat = 16 * (r.count % 16) + r.state.code.toNat := by
  have all : ∀ (count : BitVec 4) (state : BitVec 2), (count ++ ((0 : BitVec 2) ++ state) : Byte).toNat = 16 * count.toNat + state.toNat := by
    decide
  exact (all (BitVec.ofNat 4 r.count) r.state.code).trans (by rw [BitVec.toNat_ofNat])

/-! ### Every frame the part builds -/

/-- What the part builds fits its kind. -/
theorem payloadFits_payload {content : TxContent} (few : ∀ c, content = .snapFaults c → c.records.length ≤ 6) :
    payloadFits content.kind content.payload = true := by
  cases content with
  | desk c =>
    show (deskPayload c).length == 13
    rw [deskPayload_eq]
    rfl
  | acknAspect | acknFault | overdue | snapState => rfl
  | snapFaults c =>
    have six := few c rfl
    have count : (byteAt (snapFaultsPayload c) 1).toNat = c.records.length := by
      show (BitVec.ofNat 8 c.records.length).toNat = _
      rw [BitVec.toNat_ofNat]
      omega
    have length : (snapFaultsPayload c).length = 2 + 4 * c.records.length := by
      rw [snapFaultsPayload, List.length_append, length_flatMap_snapRecordBytes]
      rfl
    show (decide ((byteAt (snapFaultsPayload c) 1).toNat ≤ 6) &&
      (snapFaultsPayload c).length == 2 + 4 * (byteAt (snapFaultsPayload c) 1).toNat) = true
    rw [count, length]
    simp [six]

/-- Settles O14: the frame by O13, then each payload in its places. -/
theorem sentFramesAreGood : Obligations.SentFramesAreGood := by
  refine ⟨fun own seq content least most few => ?_, fun c => ?_, fun station inst inByte => ?_, fun origin code => ?_, fun c => ?_,
    fun c => ?_, by decide⟩
  · refine (goodFramesAreTheEncodings _ _).2 ⟨?_, rfl⟩
    rw [Frame.ok, decide_eq_true least, decide_eq_true most]
    exact payloadFits_payload few
  · dsimp only
    rw [show (TxContent.desk c).payload = _ from deskPayload_eq c]
    obtain ⟨key, end_b, displayed, pending, late, top, overflow, fallback⟩ := c.flags_getLsbD
    refine ⟨rfl, rfl, key, end_b, displayed, pending, ?_, top, overflow, fallback, ?_, rfl, rfl, aspectCodeByte_toNat c.code,
      fun none => ?_, fun r some => ?_, fun none => ?_, fun r some => ?_, toNat_ofNat8 _⟩
    · show c.flags.getLsbD 4 = true ↔ _
      rw [late]
      cases c.pendingAck <;> simp
    · exact (congrArg BitVec.toNat (bytes16_join _)).trans (toNat_ofNat16 _)
    · simp [byteAt, none]
    · simp [byteAt, some]
    · exact ⟨by simp [byteAt, none], (bytes16_join _).trans (by rw [DeskContent.topCode, none]; rfl)⟩
    · exact ⟨by simp [byteAt, some], (bytes16_join _).trans (by rw [DeskContent.topCode, some]; rfl)⟩
  · refine ⟨_, (toNat_ofNat8 station).trans (Nat.mod_eq_of_lt inByte), rfl, fun time isByte => ?_⟩
    exact ⟨_, (toNat_ofNat8 time).trans (Nat.mod_eq_of_lt isByte), rfl⟩
  · exact ⟨rfl, rfl, toNat_ofNat8 _, bytes16_join code⟩
  · obtain ⟨displayed, fused, pending, overdue, overflow⟩ := c.flags_getLsbD
    exact ⟨rfl, toNat_ofNat8 _, words_join c.runTime, rfl, displayed, fused, pending, overdue, overflow, c.flags_lt,
      (congrArg BitVec.toNat (bytes16_join _)).trans (toNat_ofNat16 _), (congrArg BitVec.toNat (bytes16_join _)).trans (toNat_ofNat16 _),
      rfl, rfl, aspectCodeByte_toNat c.code, toNat_ofNat8 _⟩
  · refine ⟨?_, toNat_ofNat8 _, toNat_ofNat8 _, fun i r record => ?_⟩
    · show (snapFaultsPayload c).length = _
      rw [snapFaultsPayload, List.length_append, length_flatMap_snapRecordBytes]
      rfl
    · obtain ⟨origin, cls, stale⟩ := snapRecord_first r
      have at0 : byteAt (snapFaultsPayload c) (2 + 4 * i) = byteAt (snapRecordBytes r) 0 := byteAt_snapFaults record (j := 0) (by decide)
      have at1 : byteAt (snapFaultsPayload c) (3 + 4 * i) = byteAt (snapRecordBytes r) 1 := by
        rw [← byteAt_snapFaults record (j := 1) (by decide)]
        congr 1
        omega
      have at2 : byteAt (snapFaultsPayload c) (3 + 4 * i + 1) = byteAt (snapRecordBytes r) 2 := by
        rw [← byteAt_snapFaults record (j := 2) (by decide)]
        congr 1
        omega
      have at3 : byteAt (snapFaultsPayload c) (5 + 4 * i) = byteAt (snapRecordBytes r) 3 := by
        rw [← byteAt_snapFaults record (j := 3) (by decide)]
        congr 1
        omega
      show (byteAt (snapFaultsPayload c) (2 + 4 * i)).toNat % 32 = _ ∧ (byteAt (snapFaultsPayload c) (2 + 4 * i)).toNat / 32 % 4 = _ ∧
        (byteAt (snapFaultsPayload c) (2 + 4 * i)).getLsbD 7 = _ ∧
        (byteAt (snapFaultsPayload c) (3 + 4 * i) ++ byteAt (snapFaultsPayload c) (3 + 4 * i + 1) : BitVec 16) = _ ∧
        (byteAt (snapFaultsPayload c) (5 + 4 * i)).toNat = _
      rw [at0, at1, at2, at3]
      exact ⟨origin, cls, stale, bytes16_join r.code, snapRecord_last r⟩

end Sys2Proof.Machine
end
